-- ==== Sys2Proof/Word.lean ====
section
/-! DEFINITION. The two plain types every other file speaks in: a byte on the line bus or in the
configuration image, and a moment of time. -/

namespace Sys2Proof

/-- One byte, as sent on the line bus and stored in the configuration image (R154, R169). -/
abbrev Byte := BitVec 8

/-- A moment or a length of time in whole microseconds. DESIGN CHOICE (log 1): every time the spec
gives (ms, seconds, bit times of 8 µs) is a whole number of these. -/
abbrev Time := Nat

end Sys2Proof
end

