-- ==== Sys2Proof/Syntax.lean ====
section
/-! DEFINITION. The commands of the block, one constructor per row of spec/opcode_table.json, in the
table's order. The table gives the rows no operands; each carries what its rule reads of the outside:
the moment `t` it happens at (log 1), and a pin, a level or the bytes taken. -/

namespace Sys2Proof

/-- An input with a tracker of its own: a call input (CALL1 is `call 0`), the clear key, or a shift
input of a reference board (R2, R4, R92). -/
inductive InputId where
  | call (n : Fin 20)
  | clr
  | shst
  | shend
  deriving DecidableEq, Repr

/-- A buffer sensor input: STRV or BLKD (R54). -/
inductive Sensor where
  | strv
  | blkd
  deriving DecidableEq, Repr

/-- Why a frame in hand is dropped (R163): a wrong preamble or start byte, a length byte above 48, a
byte with a break, a gap above 20 bit times, or a complete frame that is not valid. -/
inductive DropCause where
  | badStart
  | badLength
  | broken
  | gap
  | invalid (frame : List Byte)
  deriving DecidableEq, Repr

/-- The commands (spec/opcode_table.json, row for row). A frame operand holds the bytes of the frame
from its first preamble byte on (R171). -/
inductive Instr where
  | powerOn (t : Time) (bpol : Bool)
  | restartInput (t : Time) (bpol : Bool)
  | rstwRelease (t : Time)
  | configImageRead (t : Time) (mem : List Byte)
  | inputActive (t : Time) (i : InputId)
  | inputInactive (t : Time) (i : InputId)
  | qualifyTimeExpiry (t : Time) (i : InputId) (shc0 shc1 : Bool)
  | releaseTimeExpiry (t : Time) (i : InputId)
  | advancePulse (t : Time)
  | stopDetectExpiry (t : Time)
  | holdResponseExpiry (t : Time)
  | carOutEdge (t : Time)
  | bufferSensorChange (t : Time) (x : Sensor) (level : Bool)
  | bufferSensorQualifyExpiry (t : Time) (x : Sensor)
  | readBackChange (t : Time) (level : Bool)
  | readBackQualifyExpiry (t : Time)
  | secondsExpiry (t : Time)
  | holdLimitExpiry (t : Time)
  | entrySilent (t : Time)
  | clashCountExpiry (t : Time)
  | refreshCountExpiry (t : Time)
  | markCountExpiry (t : Time)
  | countPeriodExpiry (t : Time)
  | silenceCountExpiry (t : Time)
  | countSilenceExpiry (t : Time)
  | messageDurationExpiry (t : Time)
  | endOfPlan (t : Time)
  | overtimeLimit (t : Time)
  | dormantCountExpiry (t : Time)
  | flashPhaseChange (t : Time)
  | pictureRefresh (t : Time)
  | pictureSent (t : Time)
  | pageTimerExpiry (t : Time)
  | stepTimerExpiry (t : Time)
  | holdSoundEnd (t : Time)
  | raiseChirpEnd (t : Time)
  | lineIdle (t : Time)
  | transmissionStart (t : Time)
  | frameSent (t : Time)
  | collision (t : Time)
  | backoffEnd (t : Time)
  | frameDropped (t : Time) (why : DropCause)
  | zoneStatus (t : Time) (frame : List Byte)
  | timeMark (t : Time) (frame : List Byte)
  | count (t : Time) (frame : List Byte)
  | message (t : Time) (frame : List Byte)
  | withdrawal (t : Time) (frame : List Byte)
  | identify (t : Time) (frame : List Byte)
  | readRecord (t : Time) (frame : List Byte)
  | markCollected (t : Time) (frame : List Byte)
  | badRequest (t : Time) (frame : List Byte)
  | reply (t : Time) (frame : List Byte)
  | wakeActivity (t : Time)
  | wakeWindowExpiry (t : Time)
  | lineBusy (t : Time)
  | rstwActive (t : Time)
  | supplyDisturbance (t : Time)
  deriving DecidableEq, Repr

end Sys2Proof
end

