-- ==== Sys2Proof/Decode.lean ====
section
/-! DEFINITION. The command that a word of the table's bits spells. The block has no instruction decoder,
and spec/opcode_table.json gives no row any bits. -/

namespace Sys2Proof

/-- The command of a word, numbered as the table numbers bits: no row gives bits, so none. -/
def decodeTableWord (_nbits _w : Nat) : Option Instr := none

end Sys2Proof
end

