-- ==== Sys2Proof/Machine/State.lean ====
section
/-! DEFINITION. The state of the 2614: every register, list, flag, timer, slot and pin the spec gives
the part, block by block, as plain data, and the state right after power-on. -/

namespace Sys2Proof.Machine

/-! ## Why a command may not answer a next state -/

/-- Faults. None: the spec stops the part nowhere (HALTED is a board mode, R190), so nothing raises one. -/
inductive Fault where
  deriving DecidableEq, Repr

/-- Refusals. -/
inductive Refusal where
  /-- Raised only by `exec`'s arm of a command that has no meaning yet. Safe: nothing can be proved of
  what such a command does. No arm raises it. -/
  | notModelled (mnemonic : String)
  deriving DecidableEq, Repr

/-! ## Names (R170) -/

/-- The board modes (R170, R188 to R196). -/
inductive Mode where
  | loading
  | halted
  | standby
  | shift
  | dormant
  deriving DecidableEq, Repr

/-- The halt codes E1 to E6 (R189). -/
inductive HaltCode where
  | e1
  | e2
  | e3
  | e4
  | e5
  | e6
  deriving DecidableEq, Repr

/-- The call kinds (00_scope Conventions, R170). -/
inductive CallKind where
  | quality
  | material
  | equipment
  | safety
  deriving DecidableEq, Repr

/-- The states of a call (R6); `opened` is OPEN. -/
inductive CallState where
  | opened
  | answered
  | holding
  | overdue
  deriving DecidableEq, Repr

/-- The zone condition (R21). -/
inductive Condition where
  | run
  | call
  | hold
  deriving DecidableEq, Repr

/-- The motion state (R32). -/
inductive Motion where
  | unknown
  | moving
  | stopped
  deriving DecidableEq, Repr

/-- The response policies (R8). -/
inductive Policy where
  | off
  | latched
  | timed
  | signal
  deriving DecidableEq, Repr

/-- The cause kinds (R63). -/
inductive CauseKind where
  | call (k : CallKind)
  | drive
  | starved
  | blocked
  | external
  | other
  deriving DecidableEq, Repr

/-- The routes (R63). -/
inductive Route where
  | direct
  | viaStarved
  | viaBlocked
  deriving DecidableEq, Repr

/-- The message styles, which are also the modes of the text-line channel (R139). -/
inductive Style where
  | fixed
  | crawl
  | settle
  deriving DecidableEq, Repr

/-- A beacon colour, or a lamp's (R130, R131). -/
inductive Colour where
  | red
  | amber
  | green
  deriving DecidableEq, Repr

/-! ## The configuration (R178) -/

/-- The roles byte (R178). -/
structure Roles where
  head : Bool
  tail : Bool
  countPoint : Bool
  reference : Bool
  mirror : Bool
  deriving DecidableEq, Repr

/-- A kind's policy and hold limit in seconds (R8). -/
structure KindPolicy where
  policy : Policy
  limit : Nat
  deriving DecidableEq, Repr

/-- A cord: work station 1..12 and call kind (R1). -/
structure Cord where
  station : Nat
  kind : CallKind
  deriving DecidableEq, Repr

/-- An entry of a shift plan: its kind byte and two values (R102, R179). -/
structure PlanEntry where
  kind : Nat
  first : Nat
  second : Nat
  deriving DecidableEq, Repr

/-- A shift plan with the flag that the loading judged (R103). -/
structure Plan where
  entries : List PlanEntry
  usable : Bool
  deriving DecidableEq, Repr

/-- The plan store (R87). -/
structure PlanStore where
  p1 : Plan
  p2 : Plan
  p3 : Plan
  deriving DecidableEq, Repr

/-- What the board read from its configuration image, but for the plans (R178). -/
structure Cfg where
  imageId : BitVec 16
  zone : Nat
  section_ : Nat
  nS : Nat
  roles : Roles
  refresh : Nat
  groups : List Nat
  inputMap : List (Option Cord)
  quality : KindPolicy
  material : KindPolicy
  equipment : KindPolicy
  pitches : Nat
  ppp : Nat
  offsets : List Nat
  stopMin : Nat
  holdResponse : Nat
  carSpacing : Nat
  defaultTakt : Nat
  dormantOn : Bool
  twoActivity : Bool
  dormantMinutes : Nat
  chirpOn : Bool
  deriving DecidableEq, Repr

/-- The configuration before an image is read: nothing. DESIGN CHOICE (log 6); no rule reads it. -/
def Cfg.blank : Cfg where
  imageId := 0
  zone := 0
  section_ := 0
  nS := 0
  roles := ⟨false, false, false, false, false⟩
  refresh := 0
  groups := []
  inputMap := []
  quality := ⟨.off, 0⟩
  material := ⟨.off, 0⟩
  equipment := ⟨.off, 0⟩
  pitches := 0
  ppp := 0
  offsets := []
  stopMin := 0
  holdResponse := 0
  carSpacing := 0
  defaultTakt := 0
  dormantOn := false
  twoActivity := false
  dormantMinutes := 0
  chirpOn := false

/-! ## Pins -/

/-- The levels of the input pins that the spec reads again later; `true` is active. -/
structure Pins where
  call : List Bool
  clr : Bool
  shst : Bool
  shend : Bool
  strv : Bool
  blkd : Bool
  holdrb : Bool
  deriving DecidableEq, Repr

/-- The output pins that hold a level: HOLD asserted, the three beacon outputs (`true` is high), HORN
sounding (R20, R131, R132, R191). -/
structure Outputs where
  hold : Bool
  bcnRed : Bool
  bcnAmb : Bool
  bcnGrn : Bool
  horn : Bool
  deriving DecidableEq, Repr

/-! ## Call unit -/

/-- The states of a pull tracker, with the moment its running time expires (R2). -/
inductive TrackState where
  | armed
  | qualifying (due : Time)
  | taken
  | releasing (due : Time)
  deriving DecidableEq, Repr

/-- A pull tracker with the time of its last counted pull (R2). -/
structure Tracker where
  state : TrackState
  last : Option Time
  deriving DecidableEq, Repr

/-- A tracker at rest: ARMED with no last counted pull (R3, R26). -/
def Tracker.rest : Tracker := ⟨.armed, none⟩

/-- A call record (R6). -/
structure Call where
  station : Nat
  kind : CallKind
  state : CallState
  holdStart : Option Nat
  remaining : Nat
  heldFor : Nat
  deriving DecidableEq, Repr

/-- The overflow hold while it is set (R17). -/
structure Overflow where
  kind : CallKind
  setAt : Option Nat
  deriving DecidableEq, Repr

/-- The call unit (01_calls_and_holds). -/
structure CallUnit where
  list : List Call
  overflow : Option Overflow
  trackers : List Tracker
  clr : Tracker
  holdSound : Option Time
  chirp : Option Time
  deriving DecidableEq, Repr

/-! ## Section monitor -/

/-- The derived times in ms and the takt in ds they were computed from (R27). -/
structure Times where
  takt : Nat
  eMs : Nat
  minGap : Nat
  stopDetect : Nat
  deriving DecidableEq, Repr

/-- The section monitor (02_section_motion); its car counter is retained and stands in `Retained`.
In `window`, `true` is a rejected pulse, oldest first. `stopTimer` holds the moment the stop-detect
timer was last started, `holdTimer` the moment the hold response timer expires. `gapChange` holds the
moment of the last change of the derived times and the minimum gap that stood before that moment (R28). -/
structure SectionMonitor where
  times : Times
  gapChange : Option (Time × Nat)
  motion : Motion
  lastPulse : Option Time
  window : List Bool
  run : Nat
  encFault : Bool
  stopTimer : Option Time
  holdTimer : Option Time
  holdFail : Bool
  lastCar : Option Time
  deriving DecidableEq, Repr

/-! ## Zone table -/

/-- A peer entry, or the mirrored record (R42). -/
structure PeerEntry where
  zone : Nat
  section_ : Nat
  head : Bool
  tail : Bool
  countPoint : Bool
  reference : Bool
  condition : Condition
  openCalls : Nat
  oldestKind : Option CallKind
  holdKind : Option CallKind
  holdStart : Option Nat
  overflow : Bool
  holdFail : Bool
  starved : Bool
  blocked : Bool
  encFault : Bool
  busTrouble : Bool
  restarted : Bool
  timeValid : Bool
  motion : Motion
  shift : Nat
  serial : Nat
  actual : Nat
  refresh : Nat
  age : Nat
  live : Bool
  deriving DecidableEq, Repr

/-- The fields of the own zone record whose change marks the STATUS slot (R55, R56); zone, section,
roles and R are in `Cfg`, adopted actual, shift second and the restarted flag do not mark. -/
structure OwnRecord where
  condition : Condition
  openCalls : Nat
  oldestKind : Option CallKind
  holdKind : Option CallKind
  holdStart : Option Nat
  overflow : Bool
  motion : Motion
  encFault : Bool
  holdFail : Bool
  starved : Bool
  blocked : Bool
  shift : Nat
  serial : Nat
  timeValid : Bool
  busTrouble : Bool
  deriving DecidableEq, Repr

/-- A filtered level: since when the input has held its level, and the flag that follows it (R54, R62). -/
structure Filter where
  since : Time
  flag : Bool
  deriving DecidableEq, Repr

/-- The zone table (03_the_zone_table). `clashMet` holds the moment of a clash frame taken at a count of
59, which an expiry at that same moment would have brought to 60 (R51, log 32). `own` is the own zone
record; on a mirror, which composes none (R53), and before a board runs it stays at its initial value. -/
structure ZoneTable where
  entries : List PeerEntry
  mirrored : Option PeerEntry
  clash : Bool
  clashCount : Nat
  clashMet : Option Time
  starved : Filter
  blocked : Filter
  refreshCount : Nat
  restarted : Bool
  own : OwnRecord
  deriving DecidableEq, Repr

/-! ## Stop attributor and shift record store -/

/-- A cause key (R63). -/
structure CauseKey where
  zone : Nat
  section_ : Nat
  kind : CauseKind
  route : Route
  deriving DecidableEq, Repr

/-- A candidate of the direct choice, or a line of the stop list (R66, R135): a zone that holds. -/
structure Candidate where
  zone : Nat
  kind : CallKind
  start : Option Nat
  deriving DecidableEq, Repr

/-- The attributor's copy of a peer entry (R61); `holdStart` is the comparable hold start (R46). -/
structure PeerView where
  zone : Nat
  section_ : Nat
  head : Bool
  tail : Bool
  countPoint : Bool
  reference : Bool
  condition : Condition
  holdKind : Option CallKind
  holdStart : Option Nat
  starved : Bool
  blocked : Bool
  live : Bool
  deriving DecidableEq, Repr

/-- The attributor's copy of the own zone candidate (R61). -/
structure OwnView where
  condition : Condition
  holdKind : Option CallKind
  holdStart : Option Nat
  deriving DecidableEq, Repr

/-- The own zone candidate of a zone that does not hold. -/
def OwnView.quiet : OwnView := ⟨.run, none, none⟩

/-- The attributor's copies of its inputs (R61), those of the configuration apart, which are fixed until
the next start. `mirror` is the mirrored record, read as an entry of the own section (R67). -/
structure AttInputs where
  mode : Mode
  motion : Motion
  own : OwnView
  peers : List PeerView
  mirror : Option PeerView
  starved : Bool
  blocked : Bool
  readBack : Bool
  inBreak : Bool
  deriving DecidableEq, Repr

/-- The open interval (R71). -/
structure Interval where
  key : CauseKey
  seconds : Nat
  charged : Bool
  deriving DecidableEq, Repr

/-- A tally entry (R76). -/
structure TallyEntry where
  key : CauseKey
  stops : Nat
  seconds : Nat
  deriving DecidableEq, Repr

/-- One count per call kind (R24, R75). -/
structure PerKind where
  quality : Nat
  material : Nat
  equipment : Nat
  safety : Nat
  deriving DecidableEq, Repr

/-- The actual and the target frozen when a shift ends (R75, R125). -/
structure ClosePair where
  actual : Nat
  target : Option Nat
  deriving DecidableEq, Repr

/-- A shift record (R75); `close` is present in a last record only. -/
structure Record where
  shift : Nat
  serial : Nat
  tally : List TallyEntry
  total : Nat
  raised : PerKind
  holds : PerKind
  close : Option ClosePair
  version : Nat
  changed : Bool
  deriving DecidableEq, Repr

/-- The stop attributor (04_stop_attribution_and_the_shift_record). -/
structure Attributor where
  copies : AttInputs
  cause : Option CauseKey
  carried : Option CauseKey
  readBack : Filter
  deriving DecidableEq, Repr

/-- The retained area (R193): the one home of each retained item, whichever block owns it. -/
structure Retained where
  current : Option Record
  last : Option Record
  interval : Option Interval
  shift : Nat
  serial : Option Nat
  actual : Nat
  peak : Option Nat
  car : Nat
  deriving DecidableEq, Repr

/-- The retained area as a power-on leaves it (R188). -/
def Retained.cleared : Retained := ⟨none, none, none, 0, none, 0, none, 0⟩

/-! ## Shift clock and pace unit -/

/-- The shift clock (R87); its shift number and serial are in `Retained`. `sourceOwn` records that the
time source is the board itself, by an input of its own, and not another station that sends under the same
number (R165, log 38); `sourceFree` that the silence count has made another station's source free. -/
structure Clock where
  s : Nat
  timeValid : Bool
  source : Option Nat
  sourceOwn : Bool
  sourceFree : Bool
  silence : Nat
  authority : Bool
  pause : Nat
  markCount : Nat
  shst : Tracker
  shend : Tracker
  plans : PlanStore
  deriving DecidableEq, Repr

/-- The pace unit (R109); its target peak and adopted actual are in `Retained`. -/
structure Pace where
  plan : Option Plan
  tEnd : Option Nat
  source : Option Nat
  sourceFree : Bool
  silence : Nat
  period : Nat
  downtime : Option Nat
  deriving DecidableEq, Repr

/-! ## Display engine -/

/-- The key of a message (R147). -/
structure MsgKey where
  sender : Nat
  id : Nat
  deriving DecidableEq, Repr

/-- A message of the store (R147). -/
structure Message where
  key : MsgKey
  priority : Nat
  style : Style
  remaining : Nat
  text : List Byte
  deriving DecidableEq, Repr

/-- The items the text line can run (R127). -/
inductive Item where
  | stopBanner
  | breakBanner
  | alert
  | message (k : MsgKey)
  deriving DecidableEq, Repr

/-- The text-line channel while it runs an item (R138): position `p`, steps remaining, and the moment
the step timer expires. -/
structure Running where
  item : Item
  mode : Style
  text : List Byte
  p : Int
  steps : Nat
  due : Time
  deriving DecidableEq, Repr

/-- A figure of the pace unit (R123). -/
inductive Figure where
  | value (n : Int)
  | unknown
  | noPlan
  deriving DecidableEq, Repr

/-- The figures the pace unit hands to the display (R123). -/
structure Figures where
  target : Figure
  actual : Figure
  gap : Figure
  ratio : Figure
  projection : Figure
  downtime : Figure
  deriving DecidableEq, Repr

/-- The six indicators (R134). -/
structure Indicators where
  bus : Bool
  time : Bool
  plan : Bool
  clash : Bool
  enc : Bool
  holdFail : Bool
  deriving DecidableEq, Repr

/-- What the zone table of a mirror hands the display of the mirrored record (R127). -/
structure MirrorView where
  condition : Condition
  live : Bool
  encFault : Bool
  holdFail : Bool
  deriving DecidableEq, Repr

/-- The display engine's copies of what the other blocks hand it, owner by owner: call unit, section
monitor, zone table, stop attributor, shift clock, pace unit, bus controller, start-up controller (R127).
`condition` is that of the own zone record (R131), `second` the shift second (R136), `planUsable` whether
the plan of the running shift is usable (R134). Hold start events and SAFETY raise events are acted on as
they come and leave no copy (R144). -/
structure DispInputs where
  lamps : List (Option CallState)
  horn : Bool
  motion : Motion
  encFault : Bool
  holdFail : Bool
  condition : Condition
  holders : List Candidate
  clash : Bool
  mirrored : Option MirrorView
  cause : Option CauseKey
  inBreak : Bool
  breakRemaining : Option Nat
  timeOfDay : Option Nat
  timeValid : Bool
  second : Nat
  planUsable : Bool
  figures : Figures
  busTrouble : Bool
  mode : Mode
  roles : Roles
  halt : Option HaltCode
  bpol : Bool
  deriving DecidableEq, Repr

/-- What a digit field shows (R128, R133). -/
inductive FieldView where
  | dark
  | dashes
  | shown (places : List Byte)
  deriving DecidableEq, Repr

/-- One place of the text line: a character, or the solid block (R138). -/
inductive Place where
  | char (b : Byte)
  | block
  deriving DecidableEq, Repr

/-- One line of the stop list: zone number, label, elapsed part (R136). -/
structure StopLine where
  zone : Nat
  label : List Byte
  elapsed : List Byte
  deriving DecidableEq, Repr

/-- The whole picture (R129); a text line of `none` is dark. -/
structure Picture where
  target : FieldView
  actual : FieldView
  gap : FieldView
  pace : FieldView
  projected : FieldView
  down : FieldView
  clock : FieldView
  indicators : Indicators
  stopList : List StopLine
  text : Option (List Place)
  lamps : List (Option Colour)
  deriving DecidableEq, Repr

/-- No indicator lit. -/
def Indicators.dark : Indicators := ⟨false, false, false, false, false, false⟩

/-- The dark picture (R128). -/
def Picture.dark : Picture where
  target := .dark
  actual := .dark
  gap := .dark
  pace := .dark
  projected := .dark
  down := .dark
  clock := .dark
  indicators := .dark
  stopList := []
  text := none
  lamps := List.replicate 12 none

/-- The display link (R129): the picture being sent, whether another follows it, and the last picture
the display modules received. -/
structure Link where
  sending : Option Picture
  again : Bool
  shown : Picture
  deriving DecidableEq, Repr

/-- The display engine (07_the_board_display). -/
structure Display where
  store : List Message
  running : Option Running
  pending : Option MsgKey
  page : Nat
  pageTimer : Option Time
  flash : Bool
  flashDue : Option Time
  copies : DispInputs
  picture : Picture
  link : Link
  deriving DecidableEq, Repr

/-! ## Bus controller and request server -/

/-- The transmit slots, in their service order (R156, R157). -/
inductive SlotId where
  | reply
  | status
  | count
  | time
  deriving DecidableEq, Repr

/-- The states of a slot (R156). -/
inductive SlotState where
  | empty
  | pending
  | sending
  deriving DecidableEq, Repr

/-- A transmit slot (R156). -/
structure Slot where
  state : SlotState
  c : Nat
  remark : Bool
  deriving DecidableEq, Repr

/-- An EMPTY slot with c = 0 and its re-mark flag clear (R168). -/
def Slot.clear : Slot := ⟨.empty, 0, false⟩

/-- The attempt in hand: which slot, the whole frame as fixed at its start, the moment its first bit
began (R157), and whether the board has gone DORMANT since (R168). -/
structure Tx where
  slot : SlotId
  frame : List Byte
  start : Time
  slept : Bool
  deriving DecidableEq, Repr

/-- The wake detector (R167); `seen` holds the end of the 2 s window. -/
inductive Wake where
  | off
  | waiting
  | seen (due : Time)
  deriving DecidableEq, Repr

/-- The bus controller (08_line_bus_access). `jam` is the moment the last jam began to be driven (R159),
`idle` the line state, `gapFrom` the moment the idle count last started anew, `gapCut` the moment of a start
bit that came at the end of a gap before LINE_IDLE was taken (R162, log 43), `activityReady` whether a start
bit would begin a new activity (log 17). -/
structure Bus where
  reply : Slot
  status : Slot
  count : Slot
  time : Slot
  tx : Option Tx
  jam : Option Time
  backoff : Option Time
  rng : Option (BitVec 16)
  trouble : Bool
  idle : Bool
  gapFrom : Time
  gapCut : Option Time
  armed : Bool
  wake : Wake
  activityReady : Bool
  deriving DecidableEq, Repr

/-- A reply, complete: its target and its payload of tag, status and body (R180). -/
structure Reply where
  target : Nat
  payload : List Byte
  deriving DecidableEq, Repr

/-- The request server (R180). -/
structure Requests where
  waiting : Option Reply
  inFlight : Option Reply
  deriving DecidableEq, Repr

/-! ## Start-up controller -/

/-- The restart input (R188): inactive, active since a moment, or active and already taken. -/
inductive Rstw where
  | inactive
  | active (since : Time)
  | taken
  deriving DecidableEq, Repr

/-- The start-up controller (11_start_up_configuration_and_board_modes); the mode, the retained area and
its check word stand in `State`. `warm` is whether this start is a warm restart; `bpol` the sampled
strap, `true` for high (R191). -/
structure StartUp where
  halt : Option HaltCode
  bpol : Bool
  rstw : Rstw
  reading : Bool
  warm : Bool
  dormantCount : Nat
  deriving DecidableEq, Repr

/-! ## The whole -/

/-- The state of the board. `check` is the check word of the retained area `ret` (R193). -/
structure State where
  pending : List Instr
  now : Time
  mode : Mode
  cfg : Cfg
  pins : Pins
  out : Outputs
  calls : CallUnit
  sec : SectionMonitor
  table : ZoneTable
  att : Attributor
  ret : Retained
  check : BitVec 16
  clock : Clock
  pace : Pace
  disp : Display
  bus : Bus
  req : Requests
  start : StartUp
  deriving DecidableEq, Repr

/-! ## Reset -/

/-- The call unit after a start (R26). -/
def CallUnit.initial : CallUnit := ⟨[], none, List.replicate 20 .rest, .rest, none, none⟩

/-- The derived times before a takt is known (log 6). -/
def Times.zero : Times := ⟨0, 0, 0, 0⟩

/-- The section monitor after a start (R41). -/
def SectionMonitor.initial : SectionMonitor :=
  ⟨.zero, none, .unknown, none, [], 0, false, none, none, false, none⟩

/-- The own zone record of a board that holds nothing yet (R55 over the reset values). -/
def OwnRecord.initial : OwnRecord :=
  ⟨.run, 0, none, none, none, false, .unknown, false, false, false, false, 0, 0, false, false⟩

/-- The zone table after a start (R60). -/
def ZoneTable.initial : ZoneTable :=
  ⟨[], none, false, 0, none, ⟨0, false⟩, ⟨0, false⟩, 0, true, .initial⟩

/-- The attributor after a start, in LOADING (R85). -/
def Attributor.initial : Attributor :=
  ⟨⟨.loading, .unknown, .quiet, [], none, false, false, false, false⟩, none, none, ⟨0, false⟩⟩

/-- Plans before an image is read (log 6). -/
def PlanStore.unloaded : PlanStore := ⟨⟨[], false⟩, ⟨[], false⟩, ⟨[], false⟩⟩

/-- The shift clock after a start, retained items apart (R107). -/
def Clock.initial : Clock := ⟨0, false, none, false, false, 0, false, 0, 0, .rest, .rest, .unloaded⟩

/-- The pace unit after a start, retained items apart (R126). -/
def Pace.initial : Pace := ⟨none, none, none, false, 0, 0, none⟩

/-- The figures with no shift running (R123). -/
def Figures.initial : Figures := ⟨.unknown, .value 0, .unknown, .unknown, .unknown, .unknown⟩

/-- The display's copies after a start, in LOADING (R153). -/
def DispInputs.initial (bpol : Bool) : DispInputs where
  lamps := List.replicate 12 none
  horn := false
  motion := .unknown
  encFault := false
  holdFail := false
  condition := .run
  holders := []
  clash := false
  mirrored := none
  cause := none
  inBreak := false
  breakRemaining := none
  timeOfDay := none
  timeValid := false
  second := 0
  planUsable := false
  figures := .initial
  busTrouble := false
  mode := .loading
  roles := Cfg.blank.roles
  halt := none
  bpol := bpol

/-- The display engine after a start (R153), the dark picture of R188 being sent over `link`. -/
def Display.initial (bpol : Bool) (link : Link) : Display :=
  ⟨[], none, none, 1, none, false, none, .initial bpol, .dark, link⟩

/-- The bus controller after a start (R168). -/
def Bus.initial : Bus :=
  ⟨.clear, .clear, .clear, .clear, none, none, none, none, false, false, 0, none, false, .off, false⟩

/-- The output pins of a board that shows nothing: HOLD released, beacon at its unlit level, horn
silent (R188, R191). -/
def Outputs.unlit (bpol : Bool) : Outputs := ⟨false, bpol, bpol, bpol, false⟩

/-- Right after power-on (R188): LOADING, retained area cleared, one dark picture on its way. The
levels of the pins are the model's choice (log 5): every input inactive, BPOL low; with RSTW inactive
the image is being read. The check word agrees with the cleared area: it is `checkWordOf .cleared`. -/
def State.reset : State where
  pending := []
  now := 0
  mode := .loading
  cfg := .blank
  pins := ⟨List.replicate 20 false, false, false, false, false, false, false⟩
  out := .unlit false
  calls := .initial
  sec := .initial
  table := .initial
  att := .initial
  ret := .cleared
  check := 0x50CF#16
  clock := .initial
  pace := .initial
  disp := .initial false ⟨some .dark, false, .dark⟩
  bus := .initial
  req := ⟨none, none⟩
  start := ⟨none, false, .inactive, true, false, 0⟩

end Sys2Proof.Machine
end

