-- ==== Sys2Proof/Machine/Frames.lean ====
section
/-! DEFINITION. The bytes on the line bus: byte order, CRC-16, the frame envelope, the bits of a frame
on the line, and the ZONE STATUS payload read and written (chapters Line Bus Access, Frame and Image
Formats). -/

namespace Sys2Proof.Machine

/-! ## Byte order (R169) -/

/-- A value as one byte. -/
def byteOf (n : Nat) : Byte := BitVec.ofNat 8 n

/-- A value as two bytes, most significant first (R169). -/
def be16 (n : Nat) : List Byte := [byteOf (n / 256), byteOf n]

/-- A value as four bytes, most significant first (R169). -/
def be32 (n : Nat) : List Byte :=
  [byteOf (n / 16777216), byteOf (n / 65536), byteOf (n / 256), byteOf n]

/-- The byte at an offset, as a number. -/
def byteAt (l : List Byte) (i : Nat) : Nat := (l.getD i 0).toNat

/-- The two bytes at an offset, most significant first (R169). -/
def wordAt (l : List Byte) (i : Nat) : Nat := byteAt l i * 256 + byteAt l (i + 1)

/-- Bit `j` of a byte given as a number (R169). -/
def flagAt (n j : Nat) : Bool := n.testBit j

/-- A byte from its flags, bit 0 first (R169). -/
def flagByte (bits : List Bool) : Byte :=
  byteOf (bits.foldr (fun b acc => 2 * acc + b.toNat) 0)

/-! ## CRC-16 (R164) -/

/-- One bit into the check register (R164). -/
def crcBit (reg : BitVec 16) (b : Bool) : BitVec 16 :=
  if reg.msb != b then (reg <<< 1) ^^^ 0x1021#16 else reg <<< 1

/-- One byte into the check register, most significant bit first (R164). -/
def crcByte (reg : BitVec 16) (b : Byte) : BitVec 16 :=
  [7, 6, 5, 4, 3, 2, 1, 0].foldl (fun r j => crcBit r (b.getLsbD j)) reg

/-- The CRC-16 of a list of bytes (R164). -/
def crc16 (bytes : List Byte) : BitVec 16 := bytes.foldl crcByte 0xFFFF#16

/-- The two CRC bytes, high byte first (R164). -/
def crcBytes (bytes : List Byte) : List Byte := be16 (crc16 bytes).toNat

/-! ## The frame envelope (R171) -/

/-- What a frame says besides its preamble and CRC (R171). -/
structure Envelope where
  kind : Nat
  sender : Nat
  target : Nat
  payload : List Byte
  deriving DecidableEq, Repr

/-- Preamble and start byte (R171). -/
def frameStart : List Byte := [0x55#8, 0x55#8, 0xC9#8]

/-- A frame from kind, sender, target and payload (R171, R164). -/
def frameOf (kind sender target : Nat) (payload : List Byte) : List Byte :=
  let body := [byteOf kind, byteOf sender, byteOf target, byteOf payload.length] ++ payload
  frameStart ++ body ++ crcBytes body

/-- The payload lengths a kind allows (R171). -/
def lengthAllowed (kind n : Nat) : Bool :=
  match kind with
  | 1 => n == 17
  | 2 => n == 4
  | 3 => n == 4
  | 4 => 5 ≤ n && n ≤ 45
  | 5 => 1 ≤ n && n ≤ 48
  | 6 => 2 ≤ n && n ≤ 48
  | _ => false

/-- What a valid frame says, or none for bytes that are no valid frame (R163): start, length byte 0..48,
all declared bytes there, CRC good, kind 1..6, sender 1..126, a length its kind allows. Bytes after
the declared end belong to nothing. -/
def parseFrame (f : List Byte) : Option Envelope :=
  let n := byteAt f 6
  let body := (f.drop 3).take (4 + n)
  if f.take 3 == frameStart && n ≤ 48 && 9 + n ≤ f.length
      && (f.drop (7 + n)).take 2 == crcBytes body
      && 1 ≤ byteAt f 3 && byteAt f 3 ≤ 6
      && 1 ≤ byteAt f 4 && byteAt f 4 ≤ 126
      && lengthAllowed (byteAt f 3) n
  then some ⟨byteAt f 3, byteAt f 4, byteAt f 5, (f.drop 7).take n⟩
  else none

/-- The ten bits of a byte on the line, in order of time; `true` is mark (R154). -/
def byteBits (b : Byte) : List Bool :=
  [false] ++ [0, 1, 2, 3, 4, 5, 6, 7].map (fun j => b.getLsbD j) ++ [true]

/-- The bits of a frame on the line, one bit time each, the bytes without a pause (R154). -/
def frameBits (f : List Byte) : List Bool := f.flatMap byteBits

/-! ## Codes (R170) -/

/-- The code of a call kind (R170). -/
def CallKind.code : CallKind → Nat
  | .quality => 1
  | .material => 2
  | .equipment => 3
  | .safety => 4

/-- The code of an optional call kind, 0 for absent (R170). -/
def kindCode : Option CallKind → Nat
  | some k => k.code
  | none => 0

/-- A call kind from its code; none out of range (R170). -/
def kindOfCode : Nat → Option CallKind
  | 1 => some .quality
  | 2 => some .material
  | 3 => some .equipment
  | 4 => some .safety
  | _ => none

/-- Whether a code is one an optional call kind can have (R170, R44). -/
def kindCodeValid (n : Nat) : Bool := n ≤ 4

/-- The code of a zone condition (R170). -/
def Condition.code : Condition → Nat
  | .run => 0
  | .call => 1
  | .hold => 2

/-- A zone condition from its code (R170). -/
def conditionOfCode : Nat → Option Condition
  | 0 => some .run
  | 1 => some .call
  | 2 => some .hold
  | _ => none

/-- The code of a motion state (R170). -/
def Motion.code : Motion → Nat
  | .unknown => 0
  | .moving => 1
  | .stopped => 2

/-- A motion state from its code (R170). -/
def motionOfCode : Nat → Option Motion
  | 0 => some .unknown
  | 1 => some .moving
  | 2 => some .stopped
  | _ => none

/-- The code of a cause kind (R170). -/
def CauseKind.code : CauseKind → Nat
  | .call k => k.code
  | .drive => 5
  | .starved => 6
  | .blocked => 7
  | .external => 8
  | .other => 9

/-- The code of a route (R170). -/
def Route.code : Route → Nat
  | .direct => 0
  | .viaStarved => 1
  | .viaBlocked => 2

/-- The code of a board mode (R170). -/
def Mode.code : Mode → Nat
  | .loading => 0
  | .halted => 1
  | .standby => 2
  | .shift => 3
  | .dormant => 4

/-- A message style from its code (R170). -/
def styleOfCode : Nat → Option Style
  | 0 => some .fixed
  | 1 => some .crawl
  | 2 => some .settle
  | _ => none

/-- A kind policy from its code (R170). -/
def policyOfCode : Nat → Option Policy
  | 0 => some .off
  | 1 => some .latched
  | 2 => some .timed
  | 3 => some .signal
  | _ => none

/-! ## ZONE STATUS (R172, R44) -/

/-- The code of an optional shift second: FFFFh for absent (R172). -/
def startCode : Option Nat → Nat
  | some s => s
  | none => 0xFFFF

/-- A hold start as read: above 57,599 is absent (R172). -/
def startOfCode (n : Nat) : Option Nat := if n ≤ 57599 then some n else none

/-- An adopted actual as read: above 9,999 is 9,999 (R172). -/
def actualOfCode (n : Nat) : Nat := min n 9999

/-- The checks of R44 on a ZONE STATUS, in the order of the rule's list. -/
def statusAccepted (nS sender : Nat) (p : List Byte) : Bool :=
  let section_ := byteAt p 16
  let cond := byteAt p 5
  let openCalls := byteAt p 6
  let oldest := byteAt p 7
  let holdKind := byteAt p 8
  let refresh := byteAt p 15
  1 ≤ sender && sender ≤ 64
    && 1 ≤ section_ && section_ ≤ nS
    && cond ≤ 2
    && openCalls ≤ 16
    && !(cond == 1 && openCalls == 0)
    && (cond == 2) == (holdKind != 0)
    && (0 < openCalls) == (oldest != 0)
    && kindCodeValid oldest && kindCodeValid holdKind
    && byteAt p 11 ≤ 2
    && byteAt p 0 ≤ 3
    && 1 ≤ refresh && refresh ≤ 10

/-- The entry a ZONE STATUS writes, just heard and LIVE (R42, R45, R172). -/
def entryOfStatus (sender : Nat) (p : List Byte) : PeerEntry where
  zone := sender
  section_ := byteAt p 16
  head := flagAt (byteAt p 4) 2
  tail := flagAt (byteAt p 4) 3
  countPoint := flagAt (byteAt p 4) 4
  reference := flagAt (byteAt p 4) 5
  condition := (conditionOfCode (byteAt p 5)).getD .run
  openCalls := byteAt p 6
  oldestKind := kindOfCode (byteAt p 7)
  holdKind := kindOfCode (byteAt p 8)
  holdStart := startOfCode (wordAt p 9)
  overflow := flagAt (byteAt p 4) 7
  holdFail := flagAt (byteAt p 4) 6
  starved := flagAt (byteAt p 12) 0
  blocked := flagAt (byteAt p 12) 1
  encFault := flagAt (byteAt p 12) 2
  busTrouble := flagAt (byteAt p 12) 3
  restarted := flagAt (byteAt p 4) 1
  timeValid := flagAt (byteAt p 4) 0
  motion := (motionOfCode (byteAt p 11)).getD .unknown
  shift := byteAt p 0
  serial := byteAt p 1
  actual := actualOfCode (wordAt p 13)
  refresh := byteAt p 15
  age := 0
  live := true

/-- The payload of this board's ZONE STATUS (R172, R55): the own record with the configuration, the
restarted flag, the shift second and the adopted actual of the moment. -/
def statusPayload (cfg : Cfg) (own : OwnRecord) (restarted : Bool) (second actual : Nat) : List Byte :=
  [byteOf own.shift, byteOf own.serial] ++ be16 second
    ++ [flagByte [own.timeValid, restarted, cfg.roles.head, cfg.roles.tail, cfg.roles.countPoint,
          cfg.roles.reference, own.holdFail, own.overflow],
        byteOf own.condition.code, byteOf own.openCalls, byteOf (kindCode own.oldestKind),
        byteOf (kindCode own.holdKind)]
    ++ be16 (startCode own.holdStart)
    ++ [byteOf own.motion.code,
        flagByte [own.starved, own.blocked, own.encFault, own.busTrouble]]
    ++ be16 actual ++ [byteOf cfg.refresh, byteOf cfg.section_]

/-- Whether a ZONE STATUS frame of this board carries the restarted flag (R58, R172). -/
def frameRestarted (f : List Byte) : Bool := flagAt (byteAt f 11) 1

end Sys2Proof.Machine
end

