-- ==== Sys2Proof/Machine/Plans.lean ====
section
/-! DEFINITION. Shift plans: which are usable (R103), breaks (R104), takt (R105), the overtime limit
(R90) and the target computed from a plan (R110, R111). -/

namespace Sys2Proof.Machine

/-- BREAK entries, in list order (R102). -/
def breaksOf (es : List PlanEntry) : List PlanEntry := es.filter (fun e => e.kind == 1)

/-- TAKT entries, in list order (R102). -/
def taktsOf (es : List PlanEntry) : List PlanEntry := es.filter (fun e => e.kind == 2)

/-- END entries (R102). -/
def endsOf (es : List PlanEntry) : List PlanEntry := es.filter (fun e => e.kind == 3)

/-- The planned length L: the first value of the END entry (R102). -/
def lengthOf (es : List PlanEntry) : Nat :=
  match endsOf es with
  | e :: _ => e.first
  | [] => 0

/-- The start time of day in minutes (R102). -/
def startOfDay (es : List PlanEntry) : Nat :=
  match endsOf es with
  | e :: _ => e.second
  | [] => 0

/-- Whether each entry stands in the relation to the one before it. -/
def chained (rel : PlanEntry → PlanEntry → Bool) : List PlanEntry → Bool
  | a :: b :: rest => rel a b && chained rel (b :: rest)
  | _ => true

/-- Whether a plan is usable: the conditions of R103, in its order. -/
def usableEntries (es : List PlanEntry) : Bool :=
  let l := lengthOf es
  let takts := taktsOf es
  es.all (fun e => 1 ≤ e.kind && e.kind ≤ 3)
    && (endsOf es).length == 1 && (es.getLast?.any (fun e => e.kind == 3))
    && 600 ≤ l && l ≤ 43200
    && (breaksOf es).length ≤ 6
    && (breaksOf es).all (fun b => b.first < b.second && b.second ≤ l)
    && chained (fun a b => a.first < b.first && a.second ≤ b.first) (breaksOf es)
    && 1 ≤ takts.length && takts.length ≤ 4
    && (takts.head?.any (fun t => t.first == 0))
    && chained (fun a b => a.first < b.first) takts
    && takts.all (fun t => t.first < l && 200 ≤ t.second && t.second ≤ 9999)
    && startOfDay es ≤ 1439

/-- A plan with its flag, as the clock judges it at loading (R103). -/
def judge (es : List PlanEntry) : Plan := ⟨es, usableEntries es⟩

/-- The plan stored for a shift number; none for shift number 0 (R87). -/
def PlanStore.get (ps : PlanStore) (shift : Nat) : Option Plan :=
  match shift with
  | 1 => some ps.p1
  | 2 => some ps.p2
  | 3 => some ps.p3
  | _ => none

/-- Whether shift second `s` lies in a BREAK entry: start ≤ s < end (R104). -/
def inBreakEntry (s : Nat) (e : PlanEntry) : Bool := e.first ≤ s && s < e.second

/-- Whether a plan's breaks take in shift second `s` (R104). -/
def breakAt (es : List PlanEntry) (s : Nat) : Bool := (breaksOf es).any (inBreakEntry s)

/-- The end of the break that takes in `s`; breaks that touch act as one (R103, log 20). -/
def breakEnd (bs : List PlanEntry) (s : Nat) : Option Nat :=
  bs.foldl (fun acc e =>
    match acc with
    | some x => if e.first == x then some e.second else some x
    | none => if inBreakEntry s e then some e.second else none) none

/-- The takt of the last TAKT entry whose from second is at most `s` (R105); `dflt` if none is. -/
def taktAt (es : List PlanEntry) (s dflt : Nat) : Nat :=
  (taktsOf es).foldl (fun acc e => if e.first ≤ s then e.second else acc) dflt

/-- The overtime limit of a running shift under a plan (R90). -/
def overtimeLimitOf (p : Option Plan) : Nat :=
  match p with
  | some p => if p.usable then min (lengthOf p.entries + 14400) 57599 else 57599
  | none => 57599

/-- The seconds that `lo ≤ x < hi` and `start ≤ x < end` share. -/
def overlap (lo hi : Nat) (b : PlanEntry) : Nat := min hi b.second - max lo b.first

/-- The seconds `lo ≤ x < hi` that lie in no break: for the disjoint breaks of a usable plan, the count
of R110. -/
def productive (bs : List PlanEntry) (lo hi : Nat) : Nat :=
  (hi - lo) - (bs.map (overlap lo hi)).sum

/-- The target in milli-cars over takt segments up to `s` (R111), the last segment ending at `l`. -/
def milliCars (bs : List PlanEntry) (l s : Nat) : List PlanEntry → Nat
  | [] => 0
  | a :: rest =>
    let hi := match rest with
      | b :: _ => b.first
      | [] => l
    productive bs a.first (min s hi) * 10000 / a.second + milliCars bs l s rest

/-- The computed target T(s) of a usable plan, in cars (R111). -/
def targetAt (es : List PlanEntry) (s : Nat) : Nat :=
  milliCars (breaksOf es) (lengthOf es) s (taktsOf es) / 1000

/-- The plan total T_end = T(L) (R111). -/
def planTotal (es : List PlanEntry) : Nat := targetAt es (lengthOf es)

/-- T_end of a plan, absent with no plan or an unusable one (R109). -/
def tEndOf (p : Option Plan) : Option Nat :=
  match p with
  | some p => if p.usable then some (planTotal p.entries) else none
  | none => none

end Sys2Proof.Machine
end

