-- ==== Sys2Proof/Machine/Image.lean ====
section
/-! DEFINITION. The configuration image: its layout (R178, R179) and its checks with their halt codes
(R189). -/

namespace Sys2Proof.Machine

/-- The byte at an offset of the memory; a memory that does not answer reads FFh (R189). -/
def memAt (m : List Byte) (i : Nat) : Nat := (m.getD i 0xFF#8).toNat

/-- The two bytes at an offset (R169). -/
def memWordAt (m : List Byte) (i : Nat) : Nat := memAt m i * 256 + memAt m (i + 1)

/-- The length field (R178). -/
def imageLength (m : List Byte) : Nat := memWordAt m 3

/-- The plan entry count of a shift code 1..3 (R178). -/
def planCount (m : List Byte) (code : Nat) : Nat := memAt m (76 + code)

/-- The offset of a plan's first entry (R179). -/
def planOffset (m : List Byte) (code : Nat) : Nat :=
  match code with
  | 1 => 81
  | 2 => 81 + 5 * planCount m 1
  | _ => 81 + 5 * (planCount m 1 + planCount m 2)

/-- The entries of a plan (R179). -/
def planEntries (m : List Byte) (code : Nat) : List PlanEntry :=
  (List.range (planCount m code)).map (fun i =>
    let o := planOffset m code + 5 * i
    ⟨memAt m o, memWordAt m (o + 1), memWordAt m (o + 3)⟩)

/-- The roles byte (R178). -/
def imageRoles (m : List Byte) : Roles :=
  let r := memAt m 8
  ⟨flagAt r 0, flagAt r 1, flagAt r 2, flagAt r 3, flagAt r 4⟩

/-- Roles are coherent unless mirror is set with another (R189). -/
def Roles.coherent (r : Roles) : Bool :=
  !(r.mirror && (r.head || r.tail || r.countPoint || r.reference))

/-- The message groups that are read (R178). -/
def imageGroups (m : List Byte) : List Nat :=
  (List.range (min (memAt m 10) 3)).map (fun i => memAt m (11 + i))

/-- Whether an input map byte is in range (R178). -/
def inputMapByteValid (b : Nat) : Bool :=
  b == 0 || (1 ≤ b / 16 && b / 16 ≤ 12 && 1 ≤ b % 16 && b % 16 ≤ 4)

/-- What an input map byte says (R178): UNUSED, or station and kind. -/
def cordOfByte (b : Nat) : Option Cord :=
  (kindOfCode (b % 16)).map (fun k => ⟨b / 16, k⟩)

/-- The zone length in pulses (R9, R178). -/
def imageZoneLength (m : List Byte) : Nat := memAt m 43 * memAt m 44

/-- A policy byte and hold limit at an offset, in range (R178). -/
def policyValid (m : List Byte) (o : Nat) : Bool :=
  memAt m o ≤ 3 && 10 ≤ memWordAt m (o + 1) && memWordAt m (o + 1) ≤ 1800

/-- A policy and hold limit at an offset (R178). -/
def policyAt (m : List Byte) (o : Nat) : KindPolicy :=
  ⟨(policyOfCode (memAt m o)).getD .off, memWordAt m (o + 1)⟩

/-- The configuration of an image, plans apart (R178). -/
def cfgOf (m : List Byte) : Cfg where
  imageId := BitVec.ofNat 16 (memWordAt m 1)
  zone := memAt m 5
  section_ := memAt m 6
  nS := memAt m 7
  roles := imageRoles m
  refresh := memAt m 9
  groups := imageGroups m
  inputMap := (List.range 20).map (fun i => cordOfByte (memAt m (14 + i)))
  quality := policyAt m 34
  material := policyAt m 37
  equipment := policyAt m 40
  pitches := memAt m 43
  ppp := memAt m 44
  offsets := (List.range 12).map (fun i => memWordAt m (45 + 2 * i))
  stopMin := memAt m 69
  holdResponse := memAt m 70
  carSpacing := memAt m 71
  defaultTakt := memWordAt m 72
  dormantOn := flagAt (memAt m 74) 0
  twoActivity := flagAt (memAt m 74) 1
  dormantMinutes := memAt m 75
  chirpOn := flagAt (memAt m 76) 0

/-- The plan store of an image, each plan judged (R103, R179). -/
def plansOf (m : List Byte) : PlanStore :=
  ⟨judge (planEntries m 1), judge (planEntries m 2), judge (planEntries m 3)⟩

/-- Check 1 of R189 fails: offsets 0 to 4 all read FFh. -/
def imageErased (m : List Byte) : Bool :=
  [0, 1, 2, 3, 4].all (fun i => memAt m i == 0xFF)

/-- Check 4 of R189: the CRC over offsets 0 to length − 3 equals the last two bytes. -/
def imageCrcGood (m : List Byte) : Bool :=
  let n := imageLength m
  (crc16 ((List.range (n - 2)).map (fun i => m.getD i 0xFF#8))).toNat == memWordAt m (n - 2)

/-- Check 5 of R189. -/
def imageLayoutGood (m : List Byte) : Bool :=
  planCount m 1 ≤ 12 && planCount m 2 ≤ 12 && planCount m 3 ≤ 12
    && imageLength m == 83 + 5 * (planCount m 1 + planCount m 2 + planCount m 3)

/-- Check 6 of R189. -/
def imageIdentityGood (m : List Byte) : Bool :=
  1 ≤ memAt m 5 && memAt m 5 ≤ 64
    && 1 ≤ memAt m 7 && memAt m 7 ≤ 8
    && 1 ≤ memAt m 6 && memAt m 6 ≤ memAt m 7
    && memAt m 10 ≤ 3
    && (imageGroups m).all (fun g => 1 ≤ g && g ≤ 15)
    && (imageRoles m).coherent

/-- Check 7 of R189. -/
def imagePoliciesGood (m : List Byte) : Bool :=
  (List.range 20).all (fun i => inputMapByteValid (memAt m (14 + i)))
    && policyValid m 34 && policyValid m 37 && policyValid m 40

/-- Check 8 of R189. -/
def imageTimingGood (m : List Byte) : Bool :=
  1 ≤ memAt m 9 && memAt m 9 ≤ 10
    && 1 ≤ memAt m 43 && memAt m 43 ≤ 8
    && 8 ≤ memAt m 44 && memAt m 44 ≤ 64
    && (List.range 12).all (fun i => memWordAt m (45 + 2 * i) < imageZoneLength m)
    && 1 ≤ memAt m 69 && memAt m 69 ≤ 10
    && 2 ≤ memAt m 70 && memAt m 70 ≤ 30
    && 1 ≤ memAt m 71 && memAt m 71 ≤ 10
    && 200 ≤ memWordAt m 72 && memWordAt m 72 ≤ 9999
    && (!flagAt (memAt m 74) 0 || (5 ≤ memAt m 75 && memAt m 75 ≤ 240))

/-- The first check of R189 that fails, by its halt code; none when every check passes. -/
def imageFault (m : List Byte) : Option HaltCode :=
  if imageErased m then some .e1
  else if memAt m 0 != 1 then some .e2
  else if !(64 ≤ imageLength m && imageLength m ≤ 512) then some .e2
  else if !imageCrcGood m then some .e3
  else if !imageLayoutGood m then some .e2
  else if !imageIdentityGood m then some .e4
  else if !imagePoliciesGood m then some .e5
  else if !imageTimingGood m then some .e6
  else none

end Sys2Proof.Machine
end

