-- ==== Sys2Proof/Config.lean ====
section
/-! DEFINITION. The values the spec leaves open, as constants without a body: nothing can be proved of
what they are. What one board is configured with is in `Cfg` (Machine/State.lean), read from its image. -/

namespace Sys2Proof

/-- The seconds count held after adding stop seconds whose sum is above 4,294,967,295 (R71, R75, R76
give the range and no result there). FREE VALUE, DESIGN CHOICE (log 8). -/
opaque Config.secondsBeyond : Nat → BitVec 32

/-- The target peak (before its limit T_end) of a board that restarts warm under a usable plan with a
retained peak that is absent (R109 says it is present, R126 gives no value), by shift number.
FREE VALUE, DESIGN CHOICE (log 9). -/
opaque Config.restoredPeak : Nat → Nat

/-- The bits in which the check word differs from the one that agrees with the contents after a supply
disturbance (R193 says only that they disagree), by the moment of it; with none of them set the lowest
bit differs. FREE VALUE, DESIGN CHOICE (log 7). -/
opaque Config.disturbedBits : Nat → BitVec 16

end Sys2Proof
end

