-- ==== Sys2Proof/Machine/Area.lean ====
section
/-! DEFINITION. The retained area as bytes, and its check word (R193). -/

namespace Sys2Proof.Machine

/-- The four bytes of a cause key (R177). -/
def keyBytes (k : CauseKey) : List Byte :=
  [byteOf k.zone, byteOf k.section_, byteOf k.kind.code, byteOf k.route.code]

/-- An optional count: FFFFh for absent (R177). -/
def optWord : Option Nat → List Byte
  | some n => be16 n
  | none => be16 0xFFFF

/-- One tally entry (R177). -/
def entryBytes (x : TallyEntry) : List Byte := keyBytes x.key ++ be16 x.stops ++ be32 x.seconds

/-- A part of the area that may be absent: a byte that says whether it is present, and its bytes. -/
def optBytes {α : Type} (f : α → List Byte) : Option α → List Byte
  | none => [0]
  | some x => 1 :: f x

/-- The bytes of a shift record, its fields in the order of R75. The layout is the model's choice
(log 7). -/
def recordBytes (r : Record) : List Byte :=
  [byteOf r.shift, byteOf r.serial, byteOf r.tally.length] ++ r.tally.flatMap entryBytes
    ++ be32 r.total
    ++ be16 r.raised.quality ++ be16 r.raised.material ++ be16 r.raised.equipment ++ be16 r.raised.safety
    ++ [byteOf r.holds.quality, byteOf r.holds.material, byteOf r.holds.equipment, byteOf r.holds.safety]
    ++ optBytes (fun p => be16 p.actual ++ optWord p.target) r.close
    ++ be16 r.version ++ [byteOf r.changed.toNat]

/-- The bytes of the retained area: its contents in the order R193 lists them. The layout of each is the
model's choice (log 7). -/
def retainedBytes (r : Retained) : List Byte :=
  optBytes recordBytes r.current ++ optBytes recordBytes r.last
    ++ optBytes (fun i => keyBytes i.key ++ be32 i.seconds ++ [byteOf i.charged.toNat]) r.interval
    ++ [byteOf r.shift] ++ optBytes (fun n => [byteOf n]) r.serial
    ++ be16 r.actual ++ optWord r.peak ++ be16 r.car

/-- The check word that agrees with these contents: their CRC-16 (R193, R164). -/
def checkWordOf (r : Retained) : BitVec 16 := crc16 (retainedBytes r)

end Sys2Proof.Machine
end

