-- ==== Sys2Proof/Machine/Timing.lean ====
section
/-! DEFINITION. The times and limits that are fixed in the part, in microseconds. -/

namespace Sys2Proof.Machine

/-- Milliseconds. -/
def msec (n : Nat) : Time := n * 1000

/-- Seconds. -/
def seconds (n : Nat) : Time := n * 1000000

/-- One bit time at 125 kbit/s (R154). -/
def bitTime : Time := 8

/-- The inter-frame gap, 24 bit times (R155). -/
def gapTime : Time := 24 * bitTime

/-- A slot time, 128 bit times (R160). -/
def slotTime : Time := 128 * bitTime

/-- The jam, 20 bit times (R159). -/
def jamTime : Time := 20 * bitTime

/-- The qualify time of a tracker (R2). -/
def qualifyTime : Time := msec 50

/-- The release time of a tracker (R2). -/
def releaseTime : Time := msec 200

/-- The least time between counted pulls on one input (R2). -/
def pullSpacing : Time := seconds 1

/-- The filter of the buffer sensors (R54). -/
def bufferFilter : Time := seconds 1

/-- The filter of the read-back of the hold line (R62). -/
def readBackFilter : Time := msec 100

/-- How long RSTW is active before the restart input is taken (R188). -/
def restartFilter : Time := msec 50

/-- Half a period of the flash phase (R130). -/
def flashTime : Time := msec 500

/-- The page timer of the stop list (R137). -/
def pageTime : Time := seconds 4

/-- The step timer of the text line (R138). -/
def stepTime : Time := msec 250

/-- The hold sound (R23). -/
def holdSoundTime : Time := seconds 2

/-- The raise chirp (R23). -/
def chirpTime : Time := msec 500

/-- The window of the two-activity wake (R167). -/
def wakeWindow : Time := seconds 2

/-- The most calls in the list (R7). -/
def maxCalls : Nat := 16

/-- The most messages in the store (R147). -/
def maxMessages : Nat := 8

/-- The most keyed entries of a tally (R76). -/
def maxKeyed : Nat := 31

/-- The most a shift second can be (R87). -/
def maxSecond : Nat := 57599

/-- Whether a running timer, given by the moment it expires, is due. -/
def due (timer : Option Time) (now : Time) : Bool :=
  match timer with
  | some d => d ≤ now
  | none => false

end Sys2Proof.Machine
end

