-- ==== Sys2Proof/Machine/Flags.lean ====
section
/-! DEFINITION. What the blocks derive from their state: the hold output and hold summary, the own zone
record, plan, takt and break of the moment, the attributor's inputs, sampling of inputs. -/

namespace Sys2Proof.Machine

/-! ## Modes and roles -/

/-- STANDBY or SHIFT: the modes in which a board serves its zone (R194). -/
def Mode.runs : Mode → Bool
  | .standby => true
  | .shift => true
  | .dormant => false
  | .loading => false
  | .halted => false

/-- STANDBY, SHIFT or DORMANT: the modes in which seconds expiries are acted on and trackers run
(R88, R3). -/
def Mode.awake : Mode → Bool
  | .standby => true
  | .shift => true
  | .dormant => true
  | .loading => false
  | .halted => false

/-- Whether the board is in STANDBY or SHIFT. -/
def State.running (s : State) : Bool := s.mode.runs

/-- Whether the board is a mirror (R178). -/
def State.mirror (s : State) : Bool := s.cfg.roles.mirror

/-! ## Kinds -/

/-- The policy of a kind; SAFETY has none of its own and is never OFF (R8). -/
def Cfg.policy (c : Cfg) : CallKind → KindPolicy
  | .quality => c.quality
  | .material => c.material
  | .equipment => c.equipment
  | .safety => ⟨.latched, 0⟩

/-- The cord a call input is mapped to; none for UNUSED (R1). -/
def Cfg.cord (c : Cfg) (n : Nat) : Option Cord := (c.inputMap.getD n none)

/-- The zone length in pulses (R9). -/
def Cfg.zoneLength (c : Cfg) : Nat := c.pitches * c.ppp

/-- The hold-point distance of a station (R9). -/
def Cfg.holdPoint (c : Cfg) (station : Nat) : Nat := c.zoneLength - c.offsets.getD (station - 1) 0

/-- The count of a kind (R75). -/
def PerKind.get (p : PerKind) : CallKind → Nat
  | .quality => p.quality
  | .material => p.material
  | .equipment => p.equipment
  | .safety => p.safety

/-- The counts with one kind's replaced (R75). -/
def PerKind.set (p : PerKind) (k : CallKind) (n : Nat) : PerKind :=
  match k with
  | .quality => { p with quality := n }
  | .material => { p with material := n }
  | .equipment => { p with equipment := n }
  | .safety => { p with safety := n }

/-! ## Shift second, plan, takt, break -/

/-- The shift second as a recorded time: present in SHIFT with the time valid (R6). -/
def State.knownSecond (s : State) : Option Nat :=
  if s.mode = .shift ∧ s.clock.timeValid then some s.clock.s else none

/-- The plan of the running shift (R87). -/
def State.runningPlan (s : State) : Option Plan := s.clock.plans.get s.ret.shift

/-- The plan of the running shift when it is usable. -/
def State.usablePlan (s : State) : Option Plan :=
  match s.runningPlan with
  | some p => if p.usable then some p else none
  | none => none

/-- The overtime limit of the running shift (R90). -/
def State.overtimeLimit (s : State) : Nat := overtimeLimitOf s.runningPlan

/-- The current takt (R27, R105). -/
def State.currentTakt (s : State) : Nat :=
  if s.mode = .shift ∧ !s.mirror then
    match s.usablePlan with
    | some p => taktAt p.entries s.clock.s s.cfg.defaultTakt
    | none => s.cfg.defaultTakt
  else s.cfg.defaultTakt

/-- The end of the break that the shift second lies in, if it lies in one (R104). -/
def State.breakEnds (s : State) : Option Nat :=
  match s.knownSecond, s.usablePlan with
  | some x, some p => breakEnd (breaksOf p.entries) x
  | _, _ => none

/-- Break membership of the shift second (R104). -/
def State.inBreak (s : State) : Bool := s.breakEnds.isSome

/-- The break remaining (R104). -/
def State.breakRemaining (s : State) : Option Nat := s.breakEnds.map (fun e => e - s.clock.s)

/-- The time of day in minutes (R106). -/
def State.timeOfDay (s : State) : Option Nat :=
  match s.usablePlan with
  | some p =>
    if s.clock.timeValid then some ((startOfDay p.entries + s.clock.s / 60) % 1440) else none
  | none => none

/-- The derived times for a takt (R27). -/
def timesFor (takt ppp stopMin : Nat) : Times :=
  let e := takt * 100 / ppp
  ⟨takt, e, e / 4, max (stopMin * 1000) (2 * e)⟩

/-! ## Zone condition and hold summary (R20, R21) -/

/-- Whether a hold start ranks before another: present ones by time, then absent ones (R21, R66). -/
def startBefore : Option Nat → Option Nat → Bool
  | some a, some b => a < b
  | some _, none => true
  | none, _ => false

/-- The holders in rank order of equals: HOLDING calls by place in the list, then the overflow hold
(R21). The zone is filled in by the caller. -/
def CallUnit.holders (c : CallUnit) (zone : Nat) : List Candidate :=
  (c.list.filter (fun x => x.state = .holding)).map (fun x => ⟨zone, x.kind, x.holdStart⟩)
    ++ (match c.overflow with
        | some o => [⟨zone, o.kind, o.setAt⟩]
        | none => [])

/-- The earliest holder; among equals the one earlier in the list (R21). -/
def earliestHolder : List Candidate → Option Candidate
  | [] => none
  | h :: t =>
    match earliestHolder t with
    | none => some h
    | some g => if startBefore g.start h.start then some g else some h

/-- The hold output as the state has it (R20). -/
def State.holdWanted (s : State) : Bool :=
  s.running && !s.mirror
    && (s.calls.list.any (fun x => x.state = .holding) || s.calls.overflow.isSome)

/-- The zone condition (R21). -/
def State.zoneCondition (s : State) : Condition :=
  if s.holdWanted then .hold else if s.calls.list.isEmpty then .run else .call

/-- The earliest holder while the zone condition is HOLD (R21). -/
def State.ownHolder (s : State) : Option Candidate :=
  if s.holdWanted then earliestHolder (s.calls.holders s.cfg.zone) else none

/-- The own section motion as handed on: on a mirror, that of the LIVE mirrored record (R33, R39). -/
def State.ownMotion (s : State) : Motion :=
  if s.mirror then
    match s.table.mirrored with
    | some e => if e.live then e.motion else .unknown
    | none => .unknown
  else s.sec.motion

/-- The own zone record, composed from its sources (R55). -/
def State.ownRecord (s : State) : OwnRecord where
  condition := s.zoneCondition
  openCalls := s.calls.list.length
  oldestKind := s.calls.list.head?.map (fun c => c.kind)
  holdKind := s.ownHolder.map (fun h => h.kind)
  holdStart := s.ownHolder.bind (fun h => h.start)
  overflow := s.calls.overflow.isSome
  motion := s.sec.motion
  encFault := s.sec.encFault
  holdFail := s.sec.holdFail
  starved := s.table.starved.flag
  blocked := s.table.blocked.flag
  shift := s.ret.shift
  serial := s.ret.serial.getD 0
  timeValid := s.clock.timeValid
  busTrouble := s.bus.trouble

/-! ## Peers as the attributor and the stop list see them -/

/-- The comparable hold start of an entry (R46). -/
def Retained.comparable (r : Retained) (e : PeerEntry) : Option Nat :=
  if e.shift = r.shift ∧ r.serial = some e.serial then e.holdStart else none

/-- The candidate of a zone that shows this hold, when its condition is HOLD (R66). -/
def OwnView.candidate (v : OwnView) (zone : Nat) : Option Candidate :=
  match v.condition, v.holdKind with
  | .hold, some k => some ⟨zone, k, v.holdStart⟩
  | _, _ => none

/-- The candidate of a peer, when its condition is HOLD (R66). -/
def PeerView.hold (v : PeerView) : Option Candidate :=
  OwnView.candidate ⟨v.condition, v.holdKind, v.holdStart⟩ v.zone

/-- An entry as the attributor's copies hold it (R61). -/
def Retained.view (r : Retained) (e : PeerEntry) : PeerView where
  zone := e.zone
  section_ := e.section_
  head := e.head
  tail := e.tail
  countPoint := e.countPoint
  reference := e.reference
  condition := e.condition
  holdKind := e.holdKind
  holdStart := r.comparable e
  starved := e.starved
  blocked := e.blocked
  live := e.live

/-- The mirrored record while it is LIVE (R53). -/
def State.liveMirrored (s : State) : Option PeerEntry :=
  match s.table.mirrored with
  | some e => if e.live then some e else none
  | none => none

/-- The own zone candidate's condition, hold kind and hold start (R61): those of the own zone record, or
on a mirror of the mirrored record while it is LIVE, and RUN with no hold otherwise (R53). -/
def State.ownView (s : State) : OwnView :=
  if s.mirror then
    match s.liveMirrored with
    | some e => ⟨e.condition, e.holdKind, s.ret.comparable e⟩
    | none => .quiet
  else
    ⟨s.zoneCondition, s.ownHolder.map (fun h => h.kind), s.ownHolder.bind (fun h => h.start)⟩

/-- The own zone as a candidate, while it holds (R66, R135); on a mirror the own zone number is the
mirrored zone's (R61). -/
def State.ownCandidate (s : State) : Option Candidate := s.ownView.candidate s.cfg.zone

/-- The attributor's inputs as their owners hold them (R61, R62, R67). -/
def State.attInputs (s : State) : AttInputs where
  mode := s.mode
  motion := s.ownMotion
  own := s.ownView
  peers := s.table.entries.map s.ret.view
  mirror :=
    if s.mirror then
      s.liveMirrored.map (fun e => { s.ret.view e with section_ := s.cfg.section_ })
    else none
  starved := s.table.starved.flag
  blocked := s.table.blocked.flag
  readBack := s.att.readBack.flag
  inBreak := s.inBreak

/-! ## Sampling -/

/-- Whether an input with a tracker is sampled (R1, R3, R4, R92). -/
def State.sampled (s : State) (i : InputId) : Bool :=
  s.mode.awake &&
    match i with
    | .call n => !s.mirror && (s.cfg.cord n).isSome
    | .clr => !s.mirror
    | .shst => s.cfg.roles.reference
    | .shend => s.cfg.roles.reference

/-- Whether a buffer sensor is sampled (R54). -/
def State.sensorSampled (s : State) (x : Sensor) : Bool :=
  s.running &&
    match x with
    | .strv => s.cfg.roles.head
    | .blkd => s.cfg.roles.tail

/-- Whether ADV is sampled (R29). -/
def State.advSampled (s : State) : Bool := s.running && !s.mirror

/-! ## Sources -/

/-- Whether the clock's time source is free; the board itself never is (R87). -/
def Clock.isFree (c : Clock) : Bool := c.source.isNone || (!c.sourceOwn && c.sourceFree)

/-- Whether the count source is free (R109). -/
def Pace.isFree (p : Pace) : Bool := p.source.isNone || p.sourceFree

end Sys2Proof.Machine
end

