-- ==== Sys2Proof/Machine/Ops.lean ====
section
/-! DEFINITION. The named operations the commands are made of: replacing one block of the state, time,
marking slots, charging and closing shift records, the target peak. -/

namespace Sys2Proof.Machine

/-! ## Replacing one block -/

/-- The state with its queue of waiting commands replaced. -/
def State.setPending (s : State) (x : List Instr) : State := { s with pending := x }

/-- The state with its model's clock replaced. -/
def State.setNow (s : State) (x : Time) : State := { s with now := x }

/-- The state with its board mode replaced. -/
def State.setMode (s : State) (x : Mode) : State := { s with mode := x }

/-- The state with its configuration held replaced. -/
def State.setCfg (s : State) (x : Cfg) : State := { s with cfg := x }

/-- The state with its input levels replaced. -/
def State.setPins (s : State) (x : Pins) : State := { s with pins := x }

/-- The state with its output pins replaced. -/
def State.setOut (s : State) (x : Outputs) : State := { s with out := x }

/-- The state with its call unit replaced. -/
def State.setCalls (s : State) (x : CallUnit) : State := { s with calls := x }

/-- The state with its section monitor replaced. -/
def State.setSec (s : State) (x : SectionMonitor) : State := { s with sec := x }

/-- The state with its zone table replaced. -/
def State.setTable (s : State) (x : ZoneTable) : State := { s with table := x }

/-- The state with its stop attributor replaced. -/
def State.setAtt (s : State) (x : Attributor) : State := { s with att := x }

/-- The state with its retained area replaced; the check word follows at the same change (R83, R193). -/
def State.setRet (s : State) (x : Retained) : State :=
  { s with ret := x, check := if x = s.ret then s.check else checkWordOf x }

/-- The state with its check word replaced. -/
def State.setCheck (s : State) (x : BitVec 16) : State := { s with check := x }

/-- The state with its shift clock replaced. -/
def State.setClock (s : State) (x : Clock) : State := { s with clock := x }

/-- The state with its pace unit replaced. -/
def State.setPace (s : State) (x : Pace) : State := { s with pace := x }

/-- The state with its display engine replaced. -/
def State.setDisp (s : State) (x : Display) : State := { s with disp := x }

/-- The state with its bus controller replaced. -/
def State.setBus (s : State) (x : Bus) : State := { s with bus := x }

/-- The state with its request server replaced. -/
def State.setReq (s : State) (x : Requests) : State := { s with req := x }

/-- The state with its start-up controller replaced. -/
def State.setStart (s : State) (x : StartUp) : State := { s with start := x }

/-! ## Time -/

/-- The moment of a command: time does not run backwards (log 1). -/
def State.atTime (t : Time) (s : State) : State := s.setNow (max s.now t)

/-! ## Transmit slots (R156) -/

/-- The slot of a name. -/
def Bus.slot (b : Bus) : SlotId → Slot
  | .reply => b.reply
  | .status => b.status
  | .count => b.count
  | .time => b.time

/-- The bus controller with one slot replaced. -/
def Bus.setSlot (b : Bus) (i : SlotId) (x : Slot) : Bus :=
  match i with
  | .reply => { b with reply := x }
  | .status => { b with status := x }
  | .count => { b with count := x }
  | .time => { b with time := x }

/-- A mark: EMPTY becomes PENDING with c = 0, PENDING stays, SENDING takes the re-mark flag (R156). -/
def Slot.mark (x : Slot) : Slot :=
  match x.state with
  | .empty => ⟨.pending, 0, false⟩
  | .pending => x
  | .sending => { x with remark := true }

/-- An owner marks its slot: in STANDBY and SHIFT, and never on a mirror (R56, R57, R96, R124, R156). -/
def State.mark (i : SlotId) (s : State) : State :=
  if s.running && !s.mirror then s.setBus (s.bus.setSlot i (s.bus.slot i).mark) else s

/-! ## Shift records (R75 to R78) -/

/-- Stop seconds added; past 32 bits the sum is a free value (log 8). -/
def addSeconds (a b : Nat) : Nat :=
  if a + b < 4294967296 then a + b else (Config.secondsBeyond (a + b)).toNat

/-- A version advance, which sets the changed flag (R78). -/
def Record.advance (r : Record) : Record :=
  { r with version := (r.version + 1) % 65536, changed := true }

/-- The key of the OTHER entry (R76). -/
def otherKey : CauseKey := ⟨0, 0, .other, .direct⟩

/-- A stop counted unless the interval's charged flag is set, saturating (R76, R77). -/
def countStop (charged : Bool) (n : Nat) : Nat := if charged then n else min 65535 (n + 1)

/-- Seconds and stop added to the first entry with a key, which is appended if there is none (R77). -/
def chargeTally (k : CauseKey) (secs : Nat) (charged : Bool) : List TallyEntry → List TallyEntry
  | [] => [⟨k, countStop charged 0, secs⟩]
  | e :: rest =>
    if e.key = k then ⟨k, countStop charged e.stops, addSeconds e.seconds secs⟩ :: rest
    else e :: chargeTally k secs charged rest

/-- How many keyed entries a tally holds (R76). -/
def keyedCount (tally : List TallyEntry) : Nat := (tally.filter (fun e => e.key ≠ otherKey)).length

/-- The stop count of a key's entry; none when there is no entry. -/
def stopsOf (tally : List TallyEntry) (k : CauseKey) : Option Nat :=
  (tally.find? (fun e => e.key = k)).map (fun e => e.stops)

/-- The key an interval is charged under: its own, or OTHER when it has no entry and 31 keyed entries
are present (R76, R77). -/
def chargeKey (tally : List TallyEntry) (k : CauseKey) : CauseKey :=
  if (stopsOf tally k).isSome ∨ keyedCount tally < maxKeyed then k else otherKey

/-- Whether closing an interval changes the record: an entry created, seconds above 0, or a count
raised (R77). -/
def closeChanges (tally : List TallyEntry) (k : CauseKey) (i : Interval) : Bool :=
  match stopsOf tally k with
  | none => true
  | some n => 0 < i.seconds || (!i.charged && n < 65535)

/-- Closing an interval into a record (R77). -/
def Record.close_ (r : Record) (i : Interval) : Record :=
  let k := chargeKey r.tally i.key
  let r' := { r with
    tally := chargeTally k i.seconds i.charged r.tally
    total := addSeconds r.total i.seconds }
  if closeChanges r.tally k i then r'.advance else r'

/-- The open interval, if any, closed into the current record (R77). -/
def Retained.closeInterval (r : Retained) : Retained :=
  match r.interval with
  | none => r
  | some i => { r with interval := none, current := r.current.map (fun c => c.close_ i) }

/-- A raised count, saturating at 65,535, with its version advance (R24). -/
def Record.countRaised (r : Record) (k : CallKind) : Record :=
  if r.raised.get k < 65535 then
    { r with raised := r.raised.set k (r.raised.get k + 1) }.advance
  else r

/-- A holds count, saturating at 255, with its version advance (R24). -/
def Record.countHold (r : Record) (k : CallKind) : Record :=
  if r.holds.get k < 255 then
    { r with holds := r.holds.set k (r.holds.get k + 1) }.advance
  else r

/-- A record at the start of its shift (R78, R80). -/
def Record.begin_ (shift serial : Nat) : Record :=
  ⟨shift, serial, [], 0, ⟨0, 0, 0, 0⟩, ⟨0, 0, 0, 0⟩, none, 0, false⟩

/-- A change of the current record, made in SHIFT only (R24). -/
def State.charge (f : Record → Record) (s : State) : State :=
  if s.mode = .shift then s.setRet { s.ret with current := s.ret.current.map f } else s

/-- The downtime seconds: total plus open interval, absent without a current record (R74). -/
def Retained.downtime (r : Retained) : Option Nat :=
  r.current.map (fun c =>
    match r.interval with
    | some i => addSeconds c.total i.seconds
    | none => c.total)

/-! ## Target peak and car counter -/

/-- Evaluation of the target peak (R112): in SHIFT, with the time valid and a usable plan. -/
def State.evalPeak (s : State) : State :=
  match s.pace.plan with
  | some p =>
    if s.mode = .shift ∧ s.clock.timeValid ∧ p.usable then
      s.setRet { s.ret with peak := some (max (s.ret.peak.getD 0) (targetAt p.entries s.clock.s)) }
    else s
  | none => s

/-- A change of the car counter: the pace unit takes it as actual, the COUNT slot is marked and the
count period restarts (R36, R114, R124). -/
def State.setCar (n : Nat) (s : State) : State :=
  if n = s.ret.car then s
  else
    let s := s.setRet { s.ret with car := n, actual := n }
    (s.setPace { s.pace with period := 0 }).mark .count

/-! ## Section motion -/

/-- The hold response timer started afresh (R34). -/
def State.startHoldTimer (s : State) : State :=
  s.setSec { s.sec with holdTimer := some (s.now + seconds s.cfg.holdResponse) }

/-- The hold check cancelled: timer stopped, hold-fail flag clear (R34, R35). -/
def State.cancelHoldCheck (s : State) : State :=
  s.setSec { s.sec with holdTimer := none, holdFail := false }

/-- A new motion state with its effects on the timers and the hold check (R32, R34, R35). -/
def State.setMotion (m : Motion) (s : State) : State :=
  if s.sec.motion = m then s
  else
    let restarted := s.sec.motion = .stopped ∧ m = .moving ∧ s.out.hold
    let s := s.setSec { s.sec with motion := m }
    if m = .stopped then (s.setSec { s.sec with stopTimer := none }).cancelHoldCheck
    else if restarted then s.startHoldTimer
    else s

/-- The derived times for the current takt (R27). -/
def State.currentTimes (s : State) : Times := timesFor s.currentTakt s.cfg.ppp s.cfg.stopMin

/-- When a running stop-detect timer expires (R32). -/
def SectionMonitor.stopDue (m : SectionMonitor) : Option Time :=
  m.stopTimer.map (fun t => t + msec m.times.stopDetect)

/-- The minimum gap, in ms, for a pulse at this moment when every change of the derived times at this
moment was taken first: the one that stood before them (R28, log 31). -/
def SectionMonitor.gapAt (m : SectionMonitor) (now : Time) : Nat :=
  match m.gapChange with
  | some (t, old) => if t = now then old else m.times.minGap
  | none => m.times.minGap

/-- The derived times computed again when the current takt changes; a stop-detect expiry that has
already passed takes place at once (R28). -/
def State.retime (s : State) : State :=
  if s.running then
    if s.sec.times = s.currentTimes then s
    else
      let s := s.setSec { s.sec with
        times := s.currentTimes, gapChange := some (s.now, s.sec.gapAt s.now) }
      match s.sec.stopDue with
      | some d => if d < s.now then s.setMotion .stopped else s
      | none => s
  else s

end Sys2Proof.Machine
end

