-- ==== Sys2Proof/Machine/Attribution.lean ====
section
/-! DEFINITION. Stop attribution: the direct choice, the starved and blocked walks, the evaluation, and
the open interval that follows its result (R61 to R74). -/

namespace Sys2Proof.Machine

/-- Whether a candidate ranks before another: by comparable hold start, absent last, then by zone
number (R66, R135). -/
def Candidate.before (a b : Candidate) : Bool :=
  startBefore a.start b.start || (a.start == b.start && a.zone < b.zone)

/-- The direct choice over a list of candidates: the first in the ranking (R66). -/
def directChoice : List Candidate → Option Candidate
  | [] => none
  | h :: t =>
    match directChoice t with
    | none => some h
    | some g => if g.before h then some g else some h

/-- The candidates for a section: its LIVE holding peers, and for the own section the own zone
candidate (R66). -/
def AttInputs.candidates (c : AttInputs) (cfg : Cfg) (k : Nat) : List Candidate :=
  (if k = cfg.section_ then (c.own.candidate cfg.zone).toList else [])
    ++ (c.peers.filter (fun v => v.live && v.section_ == k)).filterMap (fun v => v.hold)

/-- The lowest-numbered zone of a list of views. -/
def lowestZone : List PeerView → Option PeerView
  | [] => none
  | h :: t =>
    match lowestZone t with
    | none => some h
    | some g => if g.zone < h.zone then some g else some h

/-- The LIVE entries of a section, the mirrored record among those of the own section (R67). -/
def AttInputs.ofSection (c : AttInputs) (ownSection k : Nat) : List PeerView :=
  (if k = ownSection then c.mirror.toList else [])
    ++ c.peers.filter (fun v => v.live && v.section_ == k)

/-- Whether the head of a section reports starved (R67). -/
def AttInputs.headStarved (c : AttInputs) (cfg : Cfg) (k : Nat) : Bool :=
  if k = cfg.section_ ∧ cfg.roles.head then c.starved
  else (lowestZone ((c.ofSection cfg.section_ k).filter (fun v => v.head))).any (fun v => v.starved)

/-- Whether the tail of a section reports blocked (R67). -/
def AttInputs.tailBlocked (c : AttInputs) (cfg : Cfg) (k : Nat) : Bool :=
  if k = cfg.section_ ∧ cfg.roles.tail then c.blocked
  else (lowestZone ((c.ofSection cfg.section_ k).filter (fun v => v.tail))).any (fun v => v.blocked)

/-- The starved walk from section `k` upstream (R68). -/
def starvedWalk (c : AttInputs) (cfg : Cfg) : Nat → CauseKey
  | 0 => ⟨0, 0, .starved, .viaStarved⟩
  | k + 1 =>
    match directChoice (c.candidates cfg (k + 1)) with
    | some x => ⟨x.zone, k + 1, .call x.kind, .viaStarved⟩
    | none =>
      if c.headStarved cfg (k + 1) then starvedWalk c cfg k
      else ⟨0, k + 1, .starved, .viaStarved⟩

/-- The blocked walk downstream, by the number of sections left: with `n` left it stands at section
`N_S + 1 - n` (R69). -/
def blockedWalk (c : AttInputs) (cfg : Cfg) : Nat → CauseKey
  | 0 => ⟨0, 9, .blocked, .viaBlocked⟩
  | n + 1 =>
    let k := cfg.nS - n
    match directChoice (c.candidates cfg k) with
    | some x => ⟨x.zone, k, .call x.kind, .viaBlocked⟩
    | none =>
      if c.tailBlocked cfg k then blockedWalk c cfg n
      else ⟨0, k, .blocked, .viaBlocked⟩

/-- An evaluation: the steps of R65 in order. -/
def evaluate (cfg : Cfg) (c : AttInputs) : Option CauseKey :=
  if c.motion ≠ .stopped ∨ c.inBreak then none
  else
    match directChoice (c.candidates cfg cfg.section_) with
    | some x => some ⟨x.zone, cfg.section_, .call x.kind, .direct⟩
    | none =>
      if c.headStarved cfg cfg.section_ then some (starvedWalk c cfg (cfg.section_ - 1))
      else if c.tailBlocked cfg cfg.section_ then
        some (blockedWalk c cfg (cfg.nS - cfg.section_))
      else if c.readBack then some ⟨0, cfg.section_, .external, .direct⟩
      else some ⟨0, cfg.section_, .drive, .direct⟩

/-- The open interval follows the result of an evaluation (R71), the first interval after a warm
restart taking up the carried key (R84). -/
def State.rekey (result : Option CauseKey) (s : State) : State :=
  if s.ret.interval.map (fun i => i.key) = result then s.setAtt { s.att with cause := result }
  else
    let r := s.ret.closeInterval
    match result with
    | none => (s.setRet r).setAtt { s.att with cause := none }
    | some k =>
      (s.setRet { r with interval := some ⟨k, 0, s.att.carried == some k⟩ }).setAtt
        { s.att with cause := some k, carried := none }

/-- The attributor's copies refreshed; the carried key given up once the motion is MOVING (R61, R84). -/
def State.copyInputs (s : State) : State :=
  let c := s.attInputs
  s.setAtt { s.att with
    copies := c
    carried := if c.motion = .moving then none else s.att.carried }

/-- The attributor acts on what it was handed: in SHIFT one evaluation, elsewhere no cause (R64). -/
def State.attribute (s : State) : State :=
  let s := s.copyInputs
  if s.att.copies.mode = .shift then s.rekey (evaluate s.cfg s.att.copies)
  else s.setAtt { s.att with cause := none }

/-- One second counted in the open interval, in SHIFT (R72). -/
def State.countStopSecond (s : State) : State :=
  if s.mode = .shift then
    s.setRet { s.ret with
      interval := s.ret.interval.map (fun i => { i with seconds := addSeconds i.seconds 1 }) }
  else s

end Sys2Proof.Machine
end

