-- ==== Sys2Proof/Machine/TextLine.lean ====
section
/-! DEFINITION. The text line: texts of banners and alerts, the scroll channel, the choice of the next
item, alerts, and the message store (R138 to R151). -/

namespace Sys2Proof.Machine

/-! ## Text -/

/-- The character codes of a string (R169: one byte per character, in order). -/
def ascii (s : String) : List Byte := s.toList.map (fun c => BitVec.ofNat 8 c.toNat)

/-- A decimal digit's code. -/
def digitCode (d : Nat) : Byte := byteOf (48 + d)

/-- A number in decimal with at most `fuel` digits, without leading zeros. -/
def decimalAux : Nat → Nat → List Byte
  | 0, _ => []
  | fuel + 1, n => if n < 10 then [digitCode n] else decimalAux fuel (n / 10) ++ [digitCode (n % 10)]

/-- A number in decimal, without leading zeros. -/
def decimal (n : Nat) : List Byte := decimalAux 12 n

/-- A number in at least two digits (R142). -/
def twoDigits (n : Nat) : List Byte := if n < 10 then [digitCode 0, digitCode n] else decimal n

/-- Minutes and seconds, each in at least two digits (R136, R142). -/
def minutesSeconds (n : Nat) : List Byte := twoDigits (n / 60) ++ ascii ":" ++ twoDigits (n % 60)

/-- A call kind written in full (R141). -/
def CallKind.name : CallKind → List Byte
  | .quality => ascii "QUALITY"
  | .material => ascii "MATERIAL"
  | .equipment => ascii "EQUIPMENT"
  | .safety => ascii "SAFETY"

/-- A cause kind written in full (R141). -/
def CauseKind.name : CauseKind → List Byte
  | .call k => k.name
  | .drive => ascii "DRIVE"
  | .starved => ascii "STARVED"
  | .blocked => ascii "BLOCKED"
  | .external => ascii "EXTERNAL"
  | .other => ascii "OTHER"

/-- The text of the stop banner for a cause key (R141). -/
def stopText (k : CauseKey) : List Byte :=
  if 0 < k.zone then
    (match k.route with
      | .direct => ascii "STOP Z"
      | .viaStarved => ascii "STARVED BY Z"
      | .viaBlocked => ascii "BLOCKED BY Z")
      ++ decimal k.zone ++ ascii " " ++ k.kind.name
  else
    match k.kind with
    | .starved =>
      if k.section_ = 0 then ascii "STARVED FROM SUPPLY"
      else ascii "STARVED FROM S" ++ decimal k.section_
    | .blocked =>
      if k.section_ = 9 then ascii "BLOCKED FROM DESPATCH"
      else ascii "BLOCKED FROM S" ++ decimal k.section_
    | .external => ascii "EXTERNAL HOLD S" ++ decimal k.section_
    | .drive => ascii "DRIVE S" ++ decimal k.section_
    | .call c => c.name
    | .other => ascii "OTHER"

/-- The text of the break banner for a break remaining in seconds (R142). -/
def breakText (remaining : Nat) : List Byte := ascii "BREAK " ++ minutesSeconds remaining

/-- The text of an alert for the own zone and the hold kind (R144). -/
def alertText (zone : Nat) (k : CallKind) : List Byte :=
  match k with
  | .safety => ascii "SAFETY HOLD Z" ++ decimal zone
  | _ => ascii "HOLD Z" ++ decimal zone ++ ascii " " ++ k.name

/-! ## The scroll channel (R138, R139) -/

/-- F = max(0, n − 20) (R139). -/
def settleEnd (n : Nat) : Nat := n - 20

/-- The first position of a mode (R139). -/
def firstPos : Style → Int
  | .fixed => 0
  | .crawl => -20
  | .settle => -20

/-- The step count of a mode for a text of `n` characters (R139). -/
def stepCount (m : Style) (n : Nat) : Nat :=
  match m with
  | .fixed => 20
  | .crawl => n + 20
  | .settle => settleEnd n + 29

/-- The position after a step (R139). -/
def nextPos (m : Style) (n : Nat) (p : Int) : Int :=
  match m with
  | .fixed => p
  | .crawl => p + 1
  | .settle => if p < (settleEnd n : Int) then p + 1 else p

/-- An item at its first position (R138). -/
def startRun (item : Item) (m : Style) (text : List Byte) (now : Time) : Running :=
  ⟨item, m, text, firstPos m, stepCount m text.length, now + stepTime⟩

/-! ## Choosing the next item (R140) -/

/-- The keys of a store, in store order. -/
def keysOf (store : List Message) : List MsgKey := store.map (fun m => m.key)

/-- The message of a key. -/
def findMessage (store : List Message) (k : MsgKey) : Option Message :=
  store.find? (fun m => m.key = k)

/-- The rotation: stop banner, break banner, then the messages in store order (R140). -/
def State.rotation (s : State) : List Item :=
  (if s.att.cause.isSome then [.stopBanner] else [])
    ++ (if s.breakRemaining.isSome then [.breakBanner] else [])
    ++ (keysOf s.disp.store).map .message

/-- The run of an item from its start; none when it is not present. -/
def State.runOf (s : State) : Item → Option Running
  | .stopBanner => s.att.cause.map (fun k => startRun .stopBanner .settle (stopText k) s.now)
  | .breakBanner => s.breakRemaining.map (fun r => startRun .breakBanner .settle (breakText r) s.now)
  | .alert => none
  | .message k =>
    (findMessage s.disp.store k).map (fun m => startRun (.message k) m.style m.text s.now)

/-- The message that stood after `k` in `old` and is still in `store` (R140 case 4, R150, log 19). -/
def successor (old store : List Message) (k : MsgKey) : Option MsgKey :=
  ((keysOf old).dropWhile (fun x => x ≠ k)).tail.find? (fun x => (keysOf store).contains x)

/-- Cases 2 to 4 of R140: what stands after the item that ended. -/
def State.itemAfter (s : State) (ended : Option Item) (old : List Message) : Option Item :=
  match ended with
  | some .stopBanner =>
    if s.breakRemaining.isSome then some .breakBanner else (keysOf s.disp.store).head?.map .message
  | some .breakBanner => (keysOf s.disp.store).head?.map .message
  | some (.message k) => (successor old s.disp.store k).map .message
  | some .alert => none
  | none => none

/-- The pending message, while it is in the store (R140 case 1). -/
def State.pendingRun (s : State) : Option Running :=
  match s.disp.pending with
  | some k => s.runOf (.message k)
  | none => none

/-- The text line chooses an item after `ended` (none when it was idle), `old` being the store as it
stood when that item ended (R140). -/
def State.chooseItem (ended : Option Item) (old : List Message) (s : State) : State :=
  match s.pendingRun with
  | some r => s.setDisp { s.disp with running := some r, pending := none }
  | none =>
    let item := (s.itemAfter ended old).or s.rotation.head?
    s.setDisp { s.disp with running := item.bind s.runOf }

/-- An alert aborts what runs and starts at once; never on a mirror, only in STANDBY and SHIFT (R144). -/
def State.startAlert (k : CallKind) (s : State) : State :=
  if s.running && !s.mirror then
    s.setDisp { s.disp with running := some (startRun .alert .settle (alertText s.cfg.zone k) s.now) }
  else s

/-- The text line follows the banners: a running banner takes its new text in place or is aborted when
it is no longer present, and an idle line starts what the rotation holds (R140 to R143). -/
def State.followText (s : State) : State :=
  if !s.running then s
  else
    match s.disp.running with
    | none => s.chooseItem none s.disp.store
    | some r =>
      match r.item with
      | .stopBanner =>
        match s.att.cause with
        | some k => s.setDisp { s.disp with running := some { r with text := stopText k } }
        | none => s.chooseItem (some .stopBanner) s.disp.store
      | .breakBanner =>
        match s.breakRemaining with
        | some b => s.setDisp { s.disp with running := some { r with text := breakText b } }
        | none => s.chooseItem (some .breakBanner) s.disp.store
      | .alert => s
      | .message _ => s

/-- A step of the text line (R138): the item completes when its last step is done, otherwise the
position moves and the step timer restarts. -/
def State.stepText (r : Running) (s : State) : State :=
  if r.steps ≤ 1 then s.chooseItem (some r.item) s.disp.store
  else
    s.setDisp { s.disp with running := some { r with
      p := nextPos r.mode r.text.length r.p
      steps := r.steps - 1
      due := s.now + stepTime } }

/-! ## The message store (R147 to R150) -/

/-- A message placed after every message of its own or higher priority (R147). -/
def placeMessage (m : Message) : List Message → List Message
  | [] => [m]
  | x :: rest => if x.priority < m.priority then m :: x :: rest else x :: placeMessage m rest

/-- The store without a key. -/
def withoutKey (store : List Message) (k : MsgKey) : List Message :=
  store.filter (fun m => m.key ≠ k)

/-- The lowest priority present (R148). -/
def lowestPriority : List Message → Option Nat
  | [] => none
  | m :: rest =>
    match lowestPriority rest with
    | none => some m.priority
    | some p => some (min m.priority p)

/-- The store after a message arrives, and the key that left it (replaced or evicted); none when the
message is dropped (R147, R148). -/
def storeAfter (m : Message) (store : List Message) : Option (List Message × Option MsgKey) :=
  if (keysOf store).contains m.key then
    some (placeMessage m (withoutKey store m.key), some m.key)
  else if store.length < maxMessages then some (placeMessage m store, none)
  else
    match lowestPriority store with
    | none => none
    | some low =>
      if low < m.priority then
        match store.find? (fun x => x.priority = low) with
        | some victim => some (placeMessage m (withoutKey store victim.key), some victim.key)
        | none => none
      else none

/-- Messages that left the store are no longer pending, and the item is aborted when it was one of
them (R143, R150). `old` is the store before they left. -/
def State.messagesLeft (gone : List MsgKey) (old : List Message) (s : State) : State :=
  let s :=
    match s.disp.pending with
    | some k => if gone.contains k then s.setDisp { s.disp with pending := none } else s
    | none => s
  match s.disp.running with
  | some r =>
    match r.item with
    | .message k => if gone.contains k then s.chooseItem (some (.message k)) old else s
    | _ => s
  | none => s

/-- A priority-3 message taken into the store cuts in (R145): in place of a message or on an idle line
it starts at once, behind a banner or alert it becomes pending. -/
def State.cutIn (m : Message) (s : State) : State :=
  let start := s.setDisp { s.disp with
    running := some (startRun (.message m.key) m.style m.text s.now) }
  match s.disp.running with
  | none => start
  | some r =>
    match r.item with
    | .message _ => start
    | _ => s.setDisp { s.disp with pending := some m.key }

/-- A message to be stored (R147, R148, R145). -/
def State.storeMessage (m : Message) (s : State) : State :=
  let old := s.disp.store
  match storeAfter m old with
  | none => s
  | some (store, gone) =>
    let s := s.setDisp { s.disp with store := store }
    if m.priority = 3 then
      let s :=
        match s.disp.pending with
        | some k => if gone = some k then s.setDisp { s.disp with pending := none } else s
        | none => s
      s.cutIn m
    else s.messagesLeft gone.toList old

/-- A withdrawal (R149). -/
def State.withdrawMessage (k : MsgKey) (s : State) : State :=
  let old := s.disp.store
  if (keysOf old).contains k then
    (s.setDisp { s.disp with store := withoutKey old k }).messagesLeft [k] old
  else s

/-- The messages whose duration has run out leave the store, all of them together (R150). -/
def State.expireMessages (s : State) : State :=
  let old := s.disp.store
  let gone := keysOf (old.filter (fun m => m.remaining = 0))
  if gone.isEmpty then s
  else
    (s.setDisp { s.disp with store := old.filter (fun m => m.remaining ≠ 0) }).messagesLeft gone old

/-! ## The stop list (R135 to R137) -/

/-- A candidate placed into a list ordered as the stop list is (R135). -/
def placeLine (c : Candidate) : List Candidate → List Candidate
  | [] => [c]
  | x :: rest => if x.before c then x :: placeLine c rest else c :: x :: rest

/-- The stop list: every holding zone this board knows of, in the order of R135. -/
def State.stopLines (s : State) : List Candidate :=
  (s.ownCandidate.toList
    ++ (s.table.entries.filter (fun e => e.live)).filterMap (fun e => (s.ret.view e).hold)).foldr
    placeLine []

/-- The number of pages of a list of `n` lines (R137). -/
def pagesOf (n : Nat) : Nat := (n + 2) / 3

/-- The stop-list channel follows a rebuilt list (R137). -/
def State.followPages (s : State) : State :=
  if !s.running then s
  else
    let pages := pagesOf s.stopLines.length
    if pages ≤ 1 then s.setDisp { s.disp with page := 1, pageTimer := none }
    else
      match s.disp.pageTimer with
      | none => s.setDisp { s.disp with page := 1, pageTimer := some (s.now + pageTime) }
      | some _ => if pages < s.disp.page then s.setDisp { s.disp with page := 1 } else s

end Sys2Proof.Machine
end

