-- ==== Sys2Proof/Machine/Picture.lean ====
section
/-! DEFINITION. What the board shows: the figures handed to the display (R118 to R123), the display's
copies, the picture drawn from them (R128 to R138), the beacon and horn outputs, the display link. -/

namespace Sys2Proof.Machine

/-! ## Figures (R123) -/

/-- A figure that is absent: unknown with no shift, no plan under an unusable plan (R123). -/
def absentFigure (shift : Nat) : Figure := if shift = 0 then .unknown else .noPlan

/-- The gap limited to −999..+999 (R118). -/
def gapOf (actual peak : Nat) : Int := max (-999) (min 999 ((actual : Int) - (peak : Int)))

/-- The projection with the peak present (R121). -/
def projectionOf (actual peak tEnd : Nat) (pastEnd : Bool) : Nat :=
  if pastEnd then actual
  else if 10 ≤ peak then min (actual * tEnd / peak) 9999
  else tEnd

/-- Whether the shift second has reached L of the plan (R113, R121). -/
def State.pastPlan (s : State) : Bool :=
  match s.pace.plan with
  | some p => p.usable && lengthOf p.entries ≤ s.clock.s
  | none => false

/-- The figures of the moment (R118 to R123). -/
def State.figures (s : State) : Figures where
  target :=
    match s.ret.peak with
    | some p => .value p
    | none => absentFigure s.ret.shift
  actual := .value s.ret.actual
  gap :=
    match s.ret.peak with
    | some p => .value (gapOf s.ret.actual p)
    | none => .unknown
  ratio :=
    match s.ret.peak with
    | some 0 => .unknown
    | some p => .value (min (s.ret.actual * 1000 / p) 1999 : Nat)
    | none => absentFigure s.ret.shift
  projection :=
    match s.ret.peak with
    | some p => .value (projectionOf s.ret.actual p (s.pace.tEnd.getD 0) s.pastPlan : Nat)
    | none => absentFigure s.ret.shift
  downtime :=
    match s.pace.downtime with
    | some d => .value (min (d / 60) 999 : Nat)
    | none => .unknown

/-! ## The copies (R127) -/

/-- How severe a call state is for a lamp (R130). -/
def severity : CallState → Nat
  | .holding => 4
  | .overdue => 3
  | .opened => 2
  | .answered => 1

/-- The most severe state among the calls of a station (R130). -/
def lampState (station : Nat) : List Call → Option CallState
  | [] => none
  | c :: rest =>
    let r := lampState station rest
    if c.station = station then
      match r with
      | none => some c.state
      | some x => if severity x < severity c.state then some c.state else some x
    else r

/-- Whether any part of the horn request is present (R23). -/
def CallUnit.hornRequested (c : CallUnit) : Bool :=
  c.list.any (fun x => x.kind = .safety)
    || c.overflow.any (fun o => o.kind = .safety)
    || c.holdSound.isSome || c.chirp.isSome

/-- An entry as the zone table of a mirror hands it to the display (R127). -/
def PeerEntry.mirrorView (e : PeerEntry) : MirrorView :=
  ⟨e.condition, e.live, e.encFault, e.holdFail⟩

/-- The figures the pace unit hands to the display: in LOADING and HALTED those of its start, since the
retained items are handed to it only when the board leaves LOADING (R126, R153, R192, log 39). -/
def State.handedFigures (s : State) : Figures := if s.mode.awake then s.figures else .initial

/-- The display's inputs as their owners hold them (R127); the mirrored record's on a mirror alone. -/
def State.dispInputs (s : State) : DispInputs where
  lamps := (List.range 12).map (fun i => lampState (i + 1) s.calls.list)
  horn := s.running && s.calls.hornRequested
  motion := s.ownMotion
  encFault := s.sec.encFault
  holdFail := s.sec.holdFail
  condition := s.zoneCondition
  holders := s.stopLines
  clash := s.table.clash
  mirrored := if s.mirror then s.table.mirrored.map PeerEntry.mirrorView else none
  cause := s.att.cause
  inBreak := s.inBreak
  breakRemaining := s.breakRemaining
  timeOfDay := s.timeOfDay
  timeValid := s.clock.timeValid
  second := s.clock.s
  planUsable := s.usablePlan.isSome
  figures := s.handedFigures
  busTrouble := s.bus.trouble
  mode := s.mode
  roles := s.cfg.roles
  halt := s.start.halt
  bpol := s.start.bpol

/-! ## What the copies say -/

/-- The mirrored record while it is LIVE (R131, R134). -/
def DispInputs.liveMirrored (c : DispInputs) : Option MirrorView :=
  c.mirrored.filter (fun v => v.live)

/-- The zone condition the beacon shows: on a mirror the LIVE mirrored record's, else RUN (R131). -/
def DispInputs.shownCondition (c : DispInputs) : Condition :=
  if c.roles.mirror then (c.liveMirrored.map (fun v => v.condition)).getD .run else c.condition

/-- The six flags the indicators show (R134). -/
def DispInputs.indicators (c : DispInputs) : Indicators where
  bus := c.busTrouble
  time := !c.timeValid
  plan := c.mode = .shift && !c.planUsable
  clash := c.clash
  enc := if c.roles.mirror then c.liveMirrored.any (fun v => v.encFault) else c.encFault
  holdFail := if c.roles.mirror then c.liveMirrored.any (fun v => v.holdFail) else c.holdFail

/-- The shift second the elapsed times are taken at: in SHIFT, with the time valid (R136). -/
def DispInputs.knownSecond (c : DispInputs) : Option Nat :=
  if c.mode = .shift ∧ c.timeValid then some c.second else none

/-! ## Drawing -/

/-- Places padded on the left to a width (R133). -/
def padLeft (width : Nat) (l : List Byte) : List Byte :=
  List.replicate (width - l.length) (byteOf 32) ++ l

/-- A whole number limited to its field and right-aligned (R133). -/
def numberField (width limit : Nat) (n : Int) : List Byte :=
  padLeft width (decimal (min n.toNat limit))

/-- The gap with its sign (R133). -/
def gapField (n : Int) : List Byte :=
  (if n < 0 then ascii "-" else if n = 0 then ascii " " else ascii "+")
    ++ padLeft 3 (decimal (min n.natAbs 999))

/-- The pace ratio with its tenths digit (R133). -/
def paceField (n : Int) : List Byte :=
  let t := min n.toNat 1999
  padLeft 5 (decimal (t / 10) ++ ascii "." ++ [digitCode (t % 10)])

/-- The time of day (R133). -/
def clockField (minutes : Nat) : List Byte :=
  twoDigits (minutes / 60) ++ ascii ":" ++ twoDigits (minutes % 60)

/-- A figure drawn in SHIFT (R123, R133). -/
def figureView (draw : Int → List Byte) : Figure → FieldView
  | .value n => .shown (draw n)
  | .unknown => .dashes
  | .noPlan => .shown (ascii "PLAN")

/-- A digit field by mode: figures in SHIFT, dashes in STANDBY, dark elsewhere (R128). -/
def fieldView (m : Mode) (v : FieldView) : FieldView :=
  match m with
  | .shift => v
  | .standby => .dashes
  | .loading => .dark
  | .halted => .dark
  | .dormant => .dark

/-- The halt code, left-aligned in the four TARGET digits (R128). -/
def haltField : HaltCode → List Byte
  | .e1 => ascii "E1  "
  | .e2 => ascii "E2  "
  | .e3 => ascii "E3  "
  | .e4 => ascii "E4  "
  | .e5 => ascii "E5  "
  | .e6 => ascii "E6  "

/-- The TARGET field (R128, R133). -/
def targetView (c : DispInputs) : FieldView :=
  match c.mode, c.halt with
  | .halted, some h => .shown (haltField h)
  | m, _ => fieldView m (figureView (numberField 4 9999) c.figures.target)

/-- The short label of a hold kind (R136). -/
def kindLabel : CallKind → List Byte
  | .quality => ascii "QUA"
  | .material => ascii "MAT"
  | .equipment => ascii "EQP"
  | .safety => ascii "SAF"

/-- The elapsed part of a line: s less the hold start, limited to 0..5,999 (R136). -/
def elapsedField (second start : Option Nat) : List Byte :=
  match second, start with
  | some x, some y => minutesSeconds (min (x - y) 5999)
  | _, _ => ascii "--:--"

/-- The lines of a page (R137). -/
def pageLines (c : DispInputs) (page : Nat) : List StopLine :=
  ((c.holders.drop (3 * (page - 1))).take 3).map (fun h =>
    ⟨h.zone, kindLabel h.kind, elapsedField c.knownSecond h.start⟩)

/-- A lamp with the flash phase applied (R130). -/
def lampColour (flash : Bool) : Option CallState → Option Colour
  | some .holding => some .red
  | some .overdue => if flash then some .red else none
  | some .opened => some .amber
  | some .answered => if flash then some .amber else none
  | none => none

/-- One character place (R138). -/
def placeOf (b : Byte) : Place := if 0x20 ≤ b.toNat ∧ b.toNat ≤ 0x7E then .char b else .block

/-- The 20 places of the window (R138). -/
def windowOf (r : Running) : List Place :=
  (List.range 20).map (fun i =>
    let j : Int := r.p + i
    if 0 ≤ j ∧ j < r.text.length then placeOf (r.text.getD j.toNat (byteOf 32))
    else .char (byteOf 32))

/-- Whether a board in this mode is lit (R128). -/
def DispInputs.lit (c : DispInputs) : Bool := c.mode.runs

/-- The picture drawn from the copies and the engine's own state (R128, R129). -/
def render (c : DispInputs) (d : Display) : Picture where
  target := targetView c
  actual := fieldView c.mode (figureView (numberField 4 9999) c.figures.actual)
  gap := fieldView c.mode (figureView gapField c.figures.gap)
  pace := fieldView c.mode (figureView paceField c.figures.ratio)
  projected := fieldView c.mode (figureView (numberField 4 9999) c.figures.projection)
  down := fieldView c.mode (figureView (numberField 3 999) c.figures.downtime)
  clock := fieldView c.mode
    (match c.timeOfDay with
      | some m => .shown (clockField m)
      | none => .dashes)
  indicators := if c.lit then c.indicators else .dark
  stopList := if c.lit then pageLines c d.page else []
  text := if c.lit then d.running.map windowOf else none
  lamps := if c.lit then c.lamps.map (lampColour d.flash) else List.replicate 12 none

/-- The beacon's colour (R131). -/
def beacon (c : DispInputs) : Option Colour :=
  if c.lit then
    match c.shownCondition with
    | .hold => some .red
    | .call => some .amber
    | .run => if c.mode = .shift ∧ c.motion = .moving then some .green else none
  else none

/-- The level of a beacon output: lit at high when BPOL was low, and the reverse (R191). -/
def beaconLevel (c : DispInputs) (x : Colour) : Bool := (beacon c == some x) != c.bpol

/-! ## The display link (R129) -/

/-- A picture is due: it is sent now, or follows the one being sent. -/
def Link.send (l : Link) (p : Picture) : Link :=
  match l.sending with
  | none => { l with sending := some p }
  | some _ => { l with again := true }

/-- The copies refreshed, the beacon and horn outputs driven, and the picture drawn and sent when it
has changed; nothing is sent in LOADING (R127, R129, R131, R132). -/
def State.redraw (s : State) : State :=
  let c := s.dispInputs
  let d := { s.disp with copies := c }
  let p := render c d
  let d := if p = d.picture then d
    else if s.mode = .loading then { d with picture := p }
    else { d with picture := p, link := d.link.send p }
  (s.setDisp d).setOut { s.out with
    bcnRed := beaconLevel c .red
    bcnAmb := beaconLevel c .amber
    bcnGrn := beaconLevel c .green
    horn := c.horn }

end Sys2Proof.Machine
end

