-- ==== Sys2Proof/Machine/HandOn.lean ====
section
/-! DEFINITION. Handing changes on: after what a command does to the block it reaches, the other blocks
follow, each from what its neighbours now hold. One command hands on once, at its end, but where a rule
orders two hand-overs inside it (log 10). -/

namespace Sys2Proof.Machine

/-- The hold output follows the call list and the mode (R20). Its assertion starts the hold check unless
the section is STOPPED and gives a hold start event; its release cancels the check (R22, R34, R35). -/
def State.followHold (s : State) : State :=
  if s.holdWanted = s.out.hold then s
  else if s.holdWanted then
    let s := s.setOut { s.out with hold := true }
    let s := if s.sec.motion = .stopped then s else s.startHoldTimer
    match s.ownHolder with
    | some h => s.startAlert h.kind
    | none => s
  else (s.setOut { s.out with hold := false }).cancelHoldCheck

/-- In STANDBY the dormant count is 0 while the list holds a call or the overflow hold is set (R195). -/
def State.followDormant (s : State) : State :=
  if s.mode = .standby ∧ (!s.calls.list.isEmpty || s.calls.overflow.isSome) then
    s.setStart { s.start with dormantCount := 0 }
  else s

/-- The own zone record of a board that is awake and no mirror follows its sources (R53, R55); a change of
a marking field marks the STATUS slot (R56). -/
def State.followOwn (s : State) : State :=
  if !s.mode.awake || s.mirror then s
  else if s.ownRecord = s.table.own then s
  else (s.setTable { s.table with own := s.ownRecord }).mark .status

/-- The downtime seconds handed to the pace unit while the board is awake (R74). -/
def State.handDowntime (s : State) : State :=
  if s.mode.awake then s.setPace { s.pace with downtime := s.ret.downtime } else s

/-- Every block but the picture follows. -/
def State.handOn (s : State) : State :=
  s.followHold.retime.followDormant.followOwn.attribute.handDowntime.followText.followPages

/-- The end of a command: every block follows, then the picture. -/
def State.finish (s : State) : State := s.handOn.redraw

end Sys2Proof.Machine
end

