-- ==== Sys2Proof/Machine/Shift.lean ====
section
/-! DEFINITION. Shift boundaries (R91) as one shared operation, the ends and starts that make one
(R90, R93, R94), and the adoption of TIME MARKs (R97 to R100). -/

namespace Sys2Proof.Machine

/-- The record frozen at the end of its shift (R80, step 2). -/
def Record.freeze (r : Record) (p : ClosePair) : Record := { r with close := some p }.advance

/-- The store's steps at a boundary (R80, R81), with the retained items of the new boundary: interval
closed, pair of the ending shift frozen, records moved on, shift number and serial taken. -/
def Retained.cross (r : Retained) (shift serial : Nat) : Retained :=
  let r := r.closeInterval
  { r with
    last := match r.current with
      | some c => some (c.freeze ⟨r.actual, r.peak⟩)
      | none => r.last
    current := if shift = 0 then none else some (.begin_ shift serial)
    shift := shift
    serial := some serial }

/-- Recorded times made absent at a boundary (R25). -/
def CallUnit.forgetTimes (c : CallUnit) : CallUnit :=
  { c with
    list := c.list.map (fun x => { x with holdStart := none })
    overflow := c.overflow.map (fun o => { o with setAt := none }) }

/-- SILENT entries removed at a boundary, a SILENT mirrored record made absent (R49, R53). -/
def ZoneTable.dropSilent (z : ZoneTable) : ZoneTable :=
  { z with
    entries := z.entries.filter (fun e => e.live)
    mirrored := match z.mirrored with
      | some e => if e.live then some e else none
      | none => none }

/-- The pace unit at a boundary, after the pair is formed (R125, steps 2 and 3): plan data and T_end of
the new shift, peak 0 or absent, actual 0, count source none. -/
def State.crossPace (s : State) : State :=
  let p := s.runningPlan
  let s := s.setPace { s.pace with
    plan := p, tEnd := tEndOf p, source := none, sourceFree := false, silence := 0 }
  s.setRet { s.ret with peak := (tEndOf p).map (fun _ => 0), actual := 0 }

/-- The mode at a boundary (R91, R194): SHIFT under shift 1..3, STANDBY under shift 0, the dormant count
starting anew where that enters STANDBY (R195). -/
def State.crossMode (shift : Nat) (s : State) : State :=
  if shift ≠ 0 then s.setMode .shift
  else if s.mode = .standby then s
  else (s.setMode .standby).setStart { s.start with dormantCount := 0 }

/-- A shift boundary handed to every block (R91). The clock's own second and flags are set by the
caller, before. -/
def State.boundary (shift serial : Nat) (s : State) : State :=
  let s := s.setRet (s.ret.cross shift serial)
  let s := s.setCalls s.calls.forgetTimes
  let s := (s.setTable s.table.dropSilent).setAtt { s.att with carried := none }
  let s := s.crossMode shift
  let s := (s.setCar 0).setSec { s.sec with lastCar := none }
  s.crossPace.evalPeak

/-- A reference board with authority, or one that gains it, marks its TIME slot at once and restarts its
mark count (R90, R93, R94). -/
def State.markTime (s : State) : State :=
  (s.setClock { s.clock with markCount := 0 }).mark .time

/-- The next serial modulo 256 (R90, R93); a board with no serial takes 1 (R93). -/
def nextSerial : Option Nat → Nat
  | some x => (x + 1) % 256
  | none => 1

/-- The board ends its shift by itself at the overtime limit (R90). -/
def State.endOvertime (s : State) : State :=
  let s := s.setClock { s.clock with s := 0, pause := 0 }
  let s := s.boundary 0 (nextSerial s.ret.serial)
  if s.clock.authority then s.markTime else s

/-- Whether the overtime limit has been reached in SHIFT (R90). -/
def State.overtimeReached (s : State) : Bool :=
  s.mode = .shift && s.overtimeLimit ≤ s.clock.s

/-- The clock of a reference board that has just counted its own shift input (R93, R94). -/
def Clock.ownInput (c : Clock) (zone : Nat) : Clock :=
  { c with
    s := 0, pause := 0, timeValid := true, source := some zone, sourceOwn := true
    sourceFree := false, silence := 0, authority := true }

/-- A counted shift start pulse with the code read from the lines, 0 taken as 1 (R92, R93). -/
def State.shiftStart (code : Nat) (s : State) : State :=
  let s := s.setClock (s.clock.ownInput s.cfg.zone)
  let s := s.boundary (if code = 0 then 1 else code) (nextSerial s.ret.serial)
  s.markTime

/-- A counted shift end pulse (R94). -/
def State.shiftEnd (s : State) : State :=
  match s.ret.serial with
  | none => s
  | some x =>
    if s.ret.shift = 0 then
      s.setClock { s.clock with timeValid := true, s := 0, authority := true }
    else
      let s := s.setClock (s.clock.ownInput s.cfg.zone)
      let s := s.boundary 0 ((x + 1) % 256)
      s.markTime

/-- The end of the shift when an adoption set s at or above the overtime limit (R98, R100). The blocks
follow the adoption first. -/
def State.checkOvertime (s : State) : State :=
  if s.overtimeReached then s.handOn.endOvertime else s

/-- Authority gained by a reference board at an adoption, its mark count starting at 0 (R98, R99). -/
def State.gainAuthority (s : State) : State :=
  if s.cfg.roles.reference ∧ !s.clock.authority then
    s.setClock { s.clock with authority := true, markCount := 0 }
  else s

/-- What every adopted mark makes of the time source, the silence count and the time-valid flag (R98, R99).
The sender is another station, under the own zone number too (R165, log 38). -/
def Clock.heed (c : Clock) (sender : Nat) : Clock :=
  { c with
    timeValid := true, source := some sender, sourceOwn := false, sourceFree := false, silence := 0 }

/-- A mark adopted as a new boundary (R98). -/
def State.adoptBoundary (sender shift serial second : Nat) (s : State) : State :=
  let s := s.setClock { s.clock.heed sender with s := if shift = 0 then 0 else second, pause := 0 }
  let s := s.gainAuthority
  (s.boundary shift serial).checkOvertime

/-- The shift second and pause remainder after a mark of the same boundary with second `m` (R100). -/
def Clock.follow (c : Clock) (m : Nat) : Clock :=
  if !c.timeValid then { c with s := m, pause := 0 }
  else if c.s ≤ m then { c with s := m, pause := 0 }
  else if c.s - m ≤ 60 then { c with pause := c.s - m }
  else { c with s := m, pause := 0 }

/-- A mark adopted within the same boundary (R99, R100): a time step evaluates the target peak (R112).
In shift 0 the second stays 0 (log 18). -/
def State.adoptSame (sender second : Nat) (s : State) : State :=
  let c := s.clock.follow (if s.ret.shift = 0 then 0 else second)
  let stepped := c.s ≠ s.clock.s ∨ !s.clock.timeValid
  let s := s.setClock (c.heed sender)
  let s := s.gainAuthority
  (if stepped then s.evalPeak else s).checkOvertime

/-- Whether a mark of the same boundary is adopted from this sender (R99). That one from another station
under the own number is adopted while the source is the board itself, as the rule's first sentence says and
its sentence on such a board does not, is the model's choice (log 37). -/
def Clock.follows (c : Clock) (sender : Nat) : Bool :=
  c.isFree || c.source.any (fun x => sender ≤ x)

/-- A TIME MARK judged (R97). -/
def State.judgeMark (sender shift serial second : Nat) (s : State) : State :=
  if 3 < shift ∨ maxSecond < second then s
  else
    match s.ret.serial with
    | none => s.adoptBoundary sender shift serial second
    | some own =>
      let d := (serial + 256 - own) % 256
      if d = 0 then
        if shift = s.ret.shift ∧ s.clock.follows sender then s.adoptSame sender second else s
      else if d ≤ 127 then s.adoptBoundary sender shift serial second
      else s

end Sys2Proof.Machine
end

