-- ==== Sys2Proof/Machine/Modes.lean ====
section
/-! DEFINITION. Changes of the board mode made by the start-up controller: entering LOADING, leaving it,
entering DORMANT, waking (R188 to R196 and each block's table of mode changes). -/

namespace Sys2Proof.Machine

/-! ## Beginning to sample -/

/-- A tracker when sampling begins: ARMED, and QUALIFYING at once if its input already reads active
(R3). -/
def Tracker.begin_ (sampled level : Bool) (now : Time) : Tracker :=
  if sampled && level then ⟨.qualifying (now + qualifyTime), none⟩ else .rest

/-- All trackers when sampling begins at the end of LOADING (R3). That CLR, SHST and SHEND begin as R3
states for the call inputs is the model's reading of R4 and R92 (log 33). -/
def State.beginTrackers (s : State) : State :=
  let s := s.setCalls { s.calls with
    trackers := (List.finRange 20).map (fun n =>
      .begin_ (s.sampled (.call n)) (s.pins.call.getD n false) s.now)
    clr := .begin_ (s.sampled .clr) s.pins.clr s.now }
  s.setClock { s.clock with
    shst := .begin_ (s.sampled .shst) s.pins.shst s.now
    shend := .begin_ (s.sampled .shend) s.pins.shend s.now }

/-- What LOADING to STANDBY or SHIFT and DORMANT to STANDBY have in common: sampling of ADV, of the
buffer sensors and of HOLDRB begins, the refresh count starts at 0, STATUS and (on a count point with a
serial) COUNT are marked, the flash phase starts on, the stop list at page 1 (R40, R54, R59, R62, R86,
R124, R152). -/
def State.takeUpWork (s : State) : State :=
  let times := s.currentTimes
  let s := s.setSec { s.sec with
    times := times
    motion := .unknown
    lastPulse := none
    stopTimer := if s.advSampled then some s.now else none }
  let s := s.setTable { s.table with
    starved := ⟨s.now, false⟩, blocked := ⟨s.now, false⟩, refreshCount := 0 }
  let s := s.setAtt { s.att with readBack := ⟨s.now, false⟩ }
  let s := s.setDisp { s.disp with
    running := none, pending := none, page := 1, pageTimer := none
    flash := true, flashDue := some (s.now + flashTime) }
  let s := (s.setStart { s.start with dormantCount := 0 }).mark .status
  if s.cfg.roles.countPoint && s.ret.serial.isSome then
    (s.setPace { s.pace with period := 0 }).mark .count
  else s

/-! ## Entering LOADING (R188) -/

/-- Every block takes the values its chapter gives for a start; the retained area is not touched. The
pins keep the levels the outside gives them. -/
def State.enterLoading (bpol : Bool) (link : Link) (startup : StartUp) (s : State) : State :=
  { s with
    mode := .loading
    cfg := .blank
    out := .unlit bpol
    calls := .initial
    sec := .initial
    table := .initial
    att := .initial
    clock := .initial
    pace := .initial
    disp := .initial bpol link
    bus := .initial
    req := ⟨none, none⟩
    start := startup }

/-- The retained area cleared, its check word set to agree (R188, R192). -/
def State.clearArea (s : State) : State :=
  (s.setRet .cleared).setCheck (checkWordOf .cleared)

/-! ## Leaving LOADING (R192) -/

/-- Steps 1 and 2 of R192: an area judged invalid at a warm restart is cleared; without the count point
role the retained counter is not used. -/
def State.judgeArea (s : State) : State :=
  let s := if s.start.warm && s.check != checkWordOf s.ret then s.clearArea else s
  if s.cfg.roles.countPoint then s else s.setRet { s.ret with car := 0 }

/-- Step 3 of R192: the retained open interval is closed and its key becomes the carried key (R84). -/
def State.closeRetained (s : State) : State :=
  (s.setAtt { s.att with carried := s.ret.interval.map (fun i => i.key) }).setRet s.ret.closeInterval

/-- The target peak and actual of a warm restart under the reloaded plan (R126); a peak that is absent
under a usable plan is a free value (log 9). -/
def State.restorePace (s : State) : State :=
  let p := s.runningPlan
  let s := s.setPace { s.pace with plan := p, tEnd := tEndOf p }
  s.setRet { s.ret with
    peak := (tEndOf p).map (fun t => min (s.ret.peak.getD (Config.restoredPeak s.ret.shift)) t)
    actual := if s.cfg.roles.countPoint then s.ret.car else s.ret.actual }

/-- The seed of the random generator (R161). -/
def seedOf (imageId : BitVec 16) (zone : Nat) : BitVec 16 :=
  let x := imageId ^^^ BitVec.ofNat 16 (zone * 257)
  if x = 0 then 1#16 else x

/-- The bus controller at the end of LOADING: generator seeded, line busy until the first gap (R155,
R161, R168). -/
def Bus.begin_ (b : Bus) (seed : BitVec 16) (now : Time) : Bus :=
  { b with rng := some seed, idle := false, gapFrom := now, armed := false, activityReady := false }

/-- Every check passed: the steps of R192, and each block takes up its work. -/
def State.leaveLoading (cfg : Cfg) (plans : PlanStore) (s : State) : State :=
  let s := (s.setCfg cfg).setClock { s.clock with plans := plans }
  let s := s.judgeArea.closeRetained
  let s := s.setStart { s.start with reading := false, halt := none }
  let s := s.setMode (if s.ret.shift = 0 then .standby else .shift)
  let s := s.restorePace
  let s := s.setBus (s.bus.begin_ (seedOf cfg.imageId cfg.zone) s.now)
  let s := s.takeUpWork.beginTrackers.finish
  s

/-- A check of R189 failed: HALTED with its code (R190). -/
def State.halt (c : HaltCode) (s : State) : State :=
  ((s.setMode .halted).setStart { s.start with halt := some c, reading := false }).finish

/-! ## DORMANT (R195, R196) -/

/-- A slot when the board goes DORMANT: emptied unless it is SENDING; what its re-mark flag stood for is
lost with the other waiting frames (R168, log 16). -/
def Slot.sleep (x : Slot) : Slot :=
  match x.state with
  | .sending => { x with remark := false }
  | .empty => .clear
  | .pending => .clear

/-- The bus controller when the board goes DORMANT; an attempt in hand goes on and bears that the board
has slept (R168). -/
def Bus.sleep (b : Bus) : Bus :=
  { b with
    tx := b.tx.map (fun x => { x with slept := true })
    reply := b.reply.sleep, status := b.status.sleep, count := b.count.sleep, time := b.time.sleep
    backoff := none, armed := false, wake := .waiting, activityReady := b.idle }

/-- The board enters DORMANT (R195; R40, R59, R86, R108, R152, R168, R187). R152 stops the stop-list
channel; that its page index returns to 1 there is the model's choice (log 34). -/
def State.enterDormant (s : State) : State :=
  let s := (s.setMode .dormant).setStart { s.start with dormantCount := 0 }
  let s := s.setSec { s.sec with
    motion := .unknown, lastPulse := none, window := [], run := 0, encFault := false
    stopTimer := none, holdTimer := none, holdFail := false }
  let s := s.setTable { s.table with
    starved := ⟨s.now, false⟩, blocked := ⟨s.now, false⟩ }
  let s := s.setAtt { s.att with readBack := ⟨s.now, false⟩ }
  let s := s.setDisp { s.disp with
    running := none, pending := none, page := 1, pageTimer := none, flashDue := none }
  let s := (s.setBus s.bus.sleep).setReq { s.req with waiting := none }
  s.finish

/-- The board wakes from DORMANT to STANDBY (R196; R40, R59, R86, R108, R124, R152, R168). The receiver is
armed at the next gap, on a line that is already idle too (R168, log 15). -/
def State.wake (s : State) : State :=
  let s := s.setMode .standby
  let s := s.setBus { s.bus with wake := .off, activityReady := false, armed := false }
  let s := s.takeUpWork
  let s := if s.clock.authority then s.markTime else s
  s.finish

/-- A local input counted in DORMANT first wakes the board (R3, R4, R92, R196). -/
def State.wakeIfDormant (s : State) : State := if s.mode = .dormant then s.wake else s

end Sys2Proof.Machine
end

