-- ==== Sys2Proof/Machine/Seconds.lean ====
section
/-! DEFINITION. The seconds expiry (R88, R89) and the counts that reach their limit at one: each limit
is acted on by a command of its own; any other command first acts on what is outstanding (log 3). -/

namespace Sys2Proof.Machine

/-! ## Limits reached at a seconds expiry -/

/-- Whether a call is a HOLDING call of a TIMED kind at its hold limit (R14). -/
def Cfg.timedOut (c : Cfg) (x : Call) : Bool :=
  x.state = .holding && x.kind ≠ .safety && (c.policy x.kind).policy = .timed
    && (c.policy x.kind).limit ≤ x.heldFor

/-- Calls at their hold limit move to OVERDUE, all of them together (R14). -/
def State.expireHolds (s : State) : State :=
  if s.running && s.calls.list.any s.cfg.timedOut then
    (s.setCalls { s.calls with
      list := s.calls.list.map (fun x =>
        if s.cfg.timedOut x then { x with state := .overdue } else x) }).finish
  else s

/-- Whether an entry has not been heard for its threshold 3R + 1 (R47). -/
def PeerEntry.overdue (e : PeerEntry) : Bool := e.live && 3 * e.refresh + 1 ≤ e.age

/-- Entries at their threshold, and the mirrored record at its own, become SILENT, all together (R47,
R50, R53). -/
def State.silenceEntries (s : State) : State :=
  if s.mode.awake
      && (s.table.entries.any (fun e => e.overdue) || s.table.mirrored.any (fun e => e.overdue)) then
    let quiet (e : PeerEntry) : PeerEntry := if e.overdue then { e with live := false } else e
    (s.setTable { s.table with
      entries := s.table.entries.map quiet
      mirrored := s.table.mirrored.map quiet }).finish
  else s

/-- The clash flag cleared at a clash count of 60 (R51). The rule gives the count no value from then on;
that it returns to 0 is the model's choice (log 32). -/
def State.expireClash (s : State) : State :=
  if s.mode.awake && s.table.clash && 60 ≤ s.table.clashCount then
    (s.setTable { s.table with clash := false, clashCount := 0 }).finish
  else s

/-- The refresh count at R marks STATUS and returns to 0 (R57). Where the dormant count is taken first the
refresh count stands at R through DORMANT, the model's choice (log 42). -/
def State.expireRefresh (s : State) : State :=
  if s.running && s.cfg.refresh ≤ s.table.refreshCount then
    (s.setTable { s.table with refreshCount := 0 }).mark .status
  else s

/-- The mark count at 10 marks TIME and returns to 0 (R96). Where the dormant count is taken first the mark
count stands at 10 through DORMANT, the model's choice (log 42). -/
def State.expireMarkCount (s : State) : State :=
  if s.running && s.clock.authority && 10 ≤ s.clock.markCount then s.markTime else s

/-- The count period at 10 marks COUNT and returns to 0 (R124). No rule orders it against the other limits of
one expiry: DESIGN CHOICE, the order in which their commands are sent. Where the dormant count is taken first
the board no longer runs, so the period stands at 10 through DORMANT, unmarked, until the wake returns it to 0
(log 42). -/
def State.expirePeriod (s : State) : State :=
  if s.running && s.cfg.roles.countPoint && s.ret.serial.isSome && 10 ≤ s.pace.period then
    (s.setPace { s.pace with period := 0 }).mark .count
  else s

/-- Whether the time source is a station other than the board itself (R87): one whose mark was adopted,
whatever its number (R165, log 38). -/
def State.sourceIsOther (s : State) : Bool := s.clock.source.isSome && !s.clock.sourceOwn

/-- The silence count at 30 frees a time source that is another station (R87). -/
def State.expireSilence (s : State) : State :=
  if s.mode.awake && s.sourceIsOther && 30 ≤ s.clock.silence then
    s.setClock { s.clock with sourceFree := true }
  else s

/-- The count silence at 30 frees the count source (R109, R116). -/
def State.expireCountSilence (s : State) : State :=
  if s.mode.awake && s.pace.source.isSome && 30 ≤ s.pace.silence then
    s.setPace { s.pace with sourceFree := true }
  else s

/-- Messages whose duration has run out are removed (R150). -/
def State.expireDurations (s : State) : State :=
  if s.mode.awake && s.disp.store.any (fun m => m.remaining = 0) then s.expireMessages.finish else s

/-- s has reached L: the target peak is evaluated, which sets it to T_end (R113). -/
def State.reachPlanEnd (s : State) : State :=
  if s.mode = .shift ∧ s.clock.timeValid ∧ s.pastPlan then s.evalPeak.finish else s

/-- The overtime limit is reached: the board ends the shift by itself (R90). -/
def State.expireOvertime (s : State) : State :=
  if s.overtimeReached then s.endOvertime.finish else s

/-- Whether the dormant count has reached its limit (R195). -/
def State.dormantReached (s : State) : Bool :=
  s.mode = .standby && s.cfg.dormantOn && s.cfg.dormantMinutes * 60 ≤ s.start.dormantCount

/-- The dormant count at its limit takes the board to DORMANT (R195). A count of the same expiry that is
still at its limit stays there, since those counts stand still in DORMANT: DESIGN CHOICE (log 42). -/
def State.expireDormant (s : State) : State := if s.dormantReached then s.enterDormant else s

/-- Everything the last seconds expiry left outstanding, in the table's order (log 3): DESIGN CHOICE, no rule
orders limits that one expiry brings (log 42). -/
def State.settle (s : State) : State :=
  s.expireHolds.silenceEntries.expireClash.expireRefresh.expireMarkCount.expirePeriod.expireSilence.expireCountSilence.expireDurations.expireOvertime.expireDormant

/-- The board as a command finds it at moment `t`: what was outstanding is done (log 3). -/
def State.begin_ (t : Time) (s : State) : State := s.settle.atTime t

/-! ## The expiry itself -/

/-- s advanced, or one taken from the pause remainder (R89); the silence count (R88). -/
def State.tickClock (s : State) : State :=
  let c := s.clock
  let c :=
    if s.mode = .shift ∧ c.timeValid then
      if 0 < c.pause then { c with pause := c.pause - 1 } else { c with s := min maxSecond (c.s + 1) }
    else c
  s.setClock { c with silence := if s.sourceIsOther then min 30 (c.silence + 1) else c.silence }

/-- held-for counted in every HOLDING call, in STANDBY and SHIFT (R14). -/
def State.tickCalls (s : State) : State :=
  if s.running then
    s.setCalls { s.calls with
      list := s.calls.list.map (fun x =>
        if x.state = .holding then { x with heldFor := min 65535 (x.heldFor + 1) } else x) }
  else s

/-- An entry's time since last heard counted (R47). -/
def PeerEntry.tick (e : PeerEntry) : PeerEntry := { e with age := min 255 (e.age + 1) }

/-- The clash count at an expiry at moment `now` (R51): counted while the flag is set, and 0 where the
expiry falls together with a clash frame that came before it would have brought the count to 60, as the
rule's last sentence says; any other expiry counts, also at a clash frame's own moment (log 32). -/
def ZoneTable.tickClash (z : ZoneTable) (now : Time) : Nat :=
  if !z.clash then z.clashCount
  else if z.clashMet = some now then 0
  else min 60 (z.clashCount + 1)

/-- Entry ages, clash count, and in STANDBY and SHIFT the refresh count (R47, R51, R53, R57). -/
def State.tickTable (s : State) : State :=
  let z := s.table
  s.setTable { z with
    entries := z.entries.map PeerEntry.tick
    mirrored := z.mirrored.map PeerEntry.tick
    clashCount := z.tickClash s.now
    clashMet := none
    refreshCount := if s.running then z.refreshCount + 1 else z.refreshCount }

/-- The mark count, the count silence and the count period (R96, R116, R124). -/
def State.tickMarks (s : State) : State :=
  let s := if s.running && s.clock.authority then
      s.setClock { s.clock with markCount := s.clock.markCount + 1 } else s
  let s := if s.pace.source.isSome then
      s.setPace { s.pace with silence := min 30 (s.pace.silence + 1) } else s
  if s.running && s.cfg.roles.countPoint && s.ret.serial.isSome then
    s.setPace { s.pace with period := s.pace.period + 1 }
  else s

/-- Message durations (R150). -/
def State.tickMessages (s : State) : State :=
  s.setDisp { s.disp with
    store := s.disp.store.map (fun m => { m with remaining := m.remaining - 1 }) }

/-- The dormant count, in STANDBY with dormant entry enabled (R195). -/
def State.tickDormant (s : State) : State :=
  if s.mode = .standby && s.cfg.dormantOn && s.calls.list.isEmpty && s.calls.overflow.isNone then
    s.setStart { s.start with dormantCount := s.start.dormantCount + 1 }
  else s

/-- A seconds expiry (R88): the clock first, whose changes of break and takt are taken before the second
is counted (R72, R89), then every per-second count. -/
def State.tick (s : State) : State :=
  s.tickClock.handOn.countStopSecond.tickCalls.tickTable.tickMarks.evalPeak.tickMessages.tickDormant.finish

/-! ## The commands -/

/-- SECONDS_EXPIRY (R88): acted on in STANDBY, SHIFT and DORMANT. -/
def execSecondsExpiry (t : Time) (s : State) : Host.Outcome State Fault Refusal :=
  let b := s.begin_ t
  .next (if b.mode.awake then b.tick else b)

/-- HOLD_LIMIT_EXPIRY (R14). -/
def execHoldLimitExpiry (t : Time) (s : State) : Host.Outcome State Fault Refusal :=
  .next (s.atTime t).expireHolds

/-- ENTRY_SILENT (R47). -/
def execEntrySilent (t : Time) (s : State) : Host.Outcome State Fault Refusal :=
  .next (s.atTime t).silenceEntries

/-- CLASH_COUNT_EXPIRY (R51). -/
def execClashCountExpiry (t : Time) (s : State) : Host.Outcome State Fault Refusal :=
  .next (s.atTime t).expireClash

/-- REFRESH_COUNT_EXPIRY (R57). -/
def execRefreshCountExpiry (t : Time) (s : State) : Host.Outcome State Fault Refusal :=
  .next (s.atTime t).expireRefresh

/-- MARK_COUNT_EXPIRY (R96). -/
def execMarkCountExpiry (t : Time) (s : State) : Host.Outcome State Fault Refusal :=
  .next (s.atTime t).expireMarkCount

/-- COUNT_PERIOD_EXPIRY (R124). Sent after a DORMANT_COUNT_EXPIRY due at the same expiry it finds DORMANT and
changes nothing; sent before it marks COUNT, which the entry empties (R168): DESIGN CHOICE (log 42). -/
def execCountPeriodExpiry (t : Time) (s : State) : Host.Outcome State Fault Refusal :=
  .next (s.atTime t).expirePeriod

/-- SILENCE_COUNT_EXPIRY (R87). -/
def execSilenceCountExpiry (t : Time) (s : State) : Host.Outcome State Fault Refusal :=
  .next (s.atTime t).expireSilence

/-- COUNT_SILENCE_EXPIRY (R116). -/
def execCountSilenceExpiry (t : Time) (s : State) : Host.Outcome State Fault Refusal :=
  .next (s.atTime t).expireCountSilence

/-- MESSAGE_DURATION_EXPIRY (R150). -/
def execMessageDurationExpiry (t : Time) (s : State) : Host.Outcome State Fault Refusal :=
  .next (s.atTime t).expireDurations

/-- END_OF_PLAN (R113). -/
def execEndOfPlan (t : Time) (s : State) : Host.Outcome State Fault Refusal :=
  .next (s.atTime t).reachPlanEnd

/-- OVERTIME_LIMIT (R90). -/
def execOvertimeLimit (t : Time) (s : State) : Host.Outcome State Fault Refusal :=
  .next (s.atTime t).expireOvertime

/-- DORMANT_COUNT_EXPIRY (R195). Sent before a COUNT_PERIOD_EXPIRY, MARK_COUNT_EXPIRY or
REFRESH_COUNT_EXPIRY due at the same expiry it leaves that count at its limit through DORMANT: the rules give
these limits no order, and that each acts in the order sent is DESIGN CHOICE (log 42). -/
def execDormantCountExpiry (t : Time) (s : State) : Host.Outcome State Fault Refusal :=
  .next (s.atTime t).expireDormant

end Sys2Proof.Machine
end

