-- ==== Sys2Proof/Machine/BusAccess.lean ====
section
/-! DEFINITION. The bus controller's commands: the line, attempts, collisions and backoff, dropped
frames, the wake detector (R155 to R163, R167, R168). -/

namespace Sys2Proof.Machine

/-! ## The wave on BUS_TX and BUS_DE (R154) -/

/-- The bit an attempt sends at moment `t` of it; `true` is mark, which stands after the last bit too
(R154, R157). -/
def Tx.bitAt (x : Tx) (t : Time) : Bool := (frameBits x.frame).getD ((t - x.start) / bitTime) true

/-- Whether a jam that began at `start` is driven at moment `t` (R159). -/
def jammed (start t : Time) : Bool := start ≤ t && t < start + jamTime

/-- The level of BUS_TX at moment `t`, from this state on until a command changes the attempt or the jam;
`true` is mark. During an attempt it is the bit sent, during a jam space, otherwise mark (R154, R159,
log 24). -/
def Bus.txLevel (b : Bus) (t : Time) : Bool :=
  match b.tx with
  | some x => x.bitAt t
  | none => !(b.jam.any (fun m => jammed m t))

/-- The level of BUS_DE at moment `t`: the driver is enabled exactly for space (R154). -/
def Bus.driverEnabled (b : Bus) (t : Time) : Bool := !b.txLevel t

/-! ## One attempt -/

/-- The first PENDING slot in the service order (R157). -/
def Bus.firstPending (b : Bus) : Option SlotId :=
  [SlotId.reply, .status, .count, .time].find? (fun i => (b.slot i).state = .pending)

/-- The frame a slot sends, composed from the state of the moment; for REPLY the waiting reply
(R157, R55, R96, R124, R172, R173). -/
def State.frameFor (s : State) : SlotId → Option (List Byte)
  | .reply => s.req.waiting.map (fun r => frameOf 6 s.cfg.zone r.target r.payload)
  | .status => some (frameOf 1 s.cfg.zone 127
      (statusPayload s.cfg s.ownRecord s.table.restarted
        (if s.ret.shift = 0 then 0 else s.clock.s) s.ret.actual))
  | .count => some (frameOf 3 s.cfg.zone 127
      ([byteOf s.ret.shift, byteOf (s.ret.serial.getD 0)] ++ be16 s.ret.car))
  | .time => some (frameOf 2 s.cfg.zone 127
      ([byteOf s.ret.shift, byteOf (s.ret.serial.getD 0)]
        ++ be16 (if s.ret.shift = 0 then 0 else s.clock.s)))

/-- Whether a transmission may start (R157). -/
def State.mayTransmit (s : State) : Bool :=
  s.running && !s.mirror && s.bus.idle && s.bus.backoff.isNone && s.bus.tx.isNone

/-- An attempt starts: content fixed, its first bit on the line, slot SENDING with its re-mark flag clear,
line busy, receiver disarmed; a waiting reply becomes the reply in flight (R154, R157, R163, R185). -/
def State.startAttempt (i : SlotId) (frame : List Byte) (s : State) : State :=
  let b := s.bus.setSlot i { s.bus.slot i with state := .sending, remark := false }
  let s := s.setBus { b with
    tx := some ⟨i, frame, s.now, false⟩, jam := none
    idle := false, armed := false, gapFrom := s.now + bitTime }
  match i with
  | .reply => s.setReq ⟨none, s.req.waiting⟩
  | _ => s

/-- A slot after its frame was sent or discarded: PENDING again when re-marked (R158, R159). -/
def Slot.ended (x : Slot) : Slot := if x.remark then ⟨.pending, 0, false⟩ else .clear

/-- The owner learns that its frame was sent (R58, R158, R185). -/
def State.reportSent (x : Tx) (s : State) : State :=
  match x.slot with
  | .status => s.setTable { s.table with
      refreshCount := 0, restarted := s.table.restarted && !frameRestarted x.frame }
  | .reply => s.setReq { s.req with inFlight := none }
  | .count => s
  | .time => s

/-- The request server at the end of an attempt that carried a reply; other attempts do not reach it. -/
def State.replyEnded (x : Tx) (f : Requests → Requests) (s : State) : State :=
  match x.slot with
  | .reply => s.setReq (f s.req)
  | _ => s

/-- The request server after an attempt that outlived an entry into DORMANT: it holds no reply (R168,
R187). -/
def Requests.lost (_r : Requests) : Requests := ⟨none, none⟩

/-- The frame is sent (R158). An attempt that was in hand at an entry into DORMANT empties its slot and
keeps the bus-trouble flag (R168, log 16). The command's moment is the start of the last stop bit, so the
idle count runs from one bit time later (log 14). -/
def State.sent (x : Tx) (s : State) : State :=
  let b := { s.bus with tx := none, gapFrom := s.now + bitTime }
  if x.slept then
    (((s.setBus (b.setSlot x.slot .clear)).reportSent x).replyEnded x Requests.lost).finish
  else
    ((s.setBus { b.setSlot x.slot (b.slot x.slot).ended with trouble := false }).reportSent x).finish

/-! ## Collisions and backoff -/

/-- The random generator's next state (R161). -/
def nextRandom (x : BitVec 16) : BitVec 16 :=
  if x.getLsbD 0 then (x >>> 1) ^^^ 0xB400#16 else x >>> 1

/-- The k least significant bits of a state, k = min(c, 5) (R160, R161). -/
def drawOf (x : BitVec 16) (c : Nat) : Nat := x.toNat % 2 ^ min c 5

/-- The moment the jam begins: at the bit time after the collision (R159). -/
def jamStart (now : Time) : Time := now + bitTime

/-- The moment the jam ends (R159). -/
def jamEnd (now : Time) : Time := jamStart now + jamTime

/-- A reply that collided below the limit: it waits again, unless another waits, which takes its place
(R185). -/
def Requests.collided (r : Requests) : Requests :=
  match r.waiting with
  | some w => ⟨some w, none⟩
  | none => ⟨r.inFlight, none⟩

/-- A slot after a collision that leaves c below 8 (R159). -/
def Slot.collided (x : Slot) (i : SlotId) : Slot :=
  ⟨.pending, if i = .reply ∧ x.remark then 0 else x.c + 1, false⟩

/-- The backoff drawn for a collision count, from the end of the jam (R160). -/
def Bus.draw (b : Bus) (c : Nat) (from_ : Time) : Bus :=
  let x := nextRandom (b.rng.getD 0)
  { b with
    rng := some x
    backoff := if drawOf x c = 0 then none else some (from_ + drawOf x c * slotTime) }

/-- A collision (R159): the jam begins, and the count with the backoff or the discard follows it. Of an
attempt that was in hand at an entry into DORMANT only the jam is left: nothing is counted, drawn or
reported, and its slot is emptied (R168, log 16). -/
def State.collide (x : Tx) (s : State) : State :=
  let b := { s.bus with
    tx := none, jam := some (jamStart s.now), idle := false, gapFrom := jamEnd s.now }
  let slot := b.slot x.slot
  let drop (r : Requests) : Requests := { r with inFlight := none }
  if x.slept then ((s.setBus (b.setSlot x.slot .clear)).replyEnded x Requests.lost).finish
  else if slot.c + 1 < 8 then
    let b := (b.draw (slot.c + 1) (jamEnd s.now)).setSlot x.slot (slot.collided x.slot)
    ((s.setBus b).replyEnded x Requests.collided).finish
  else
    let b := { b.setSlot x.slot slot.ended with trouble := true }
    ((s.setBus b).replyEnded x drop).finish

/-! ## The end of a gap (R155, R162, R163) -/

/-- Whether the line, busy until now, has read mark for the inter-frame gap (R155): 24 bit times since the
idle count last started anew, the board not sending. -/
def State.gapOver (s : State) : Bool :=
  s.mode.awake && !s.bus.idle && s.bus.tx.isNone && s.bus.gapFrom + gapTime ≤ s.now

/-- Whether another station's start bit was taken first at this moment, the end of a gap (R162, log 43). -/
def State.gapCutNow (s : State) : Bool :=
  s.mode.awake && s.bus.tx.isNone && s.bus.gapCut == some s.now

/-- The end of a gap: the receiver is armed in STANDBY and SHIFT, and in DORMANT a start bit begins a new
activity (R163, R167). The line is idle, or already busy where a start bit was taken first (R162). -/
def State.endGap (idle : Bool) (s : State) : State :=
  s.setBus { s.bus with
    idle := idle, jam := none, armed := s.running, activityReady := s.mode = .dormant, gapCut := none }

/-! ## The wake detector (R167) -/

/-- Whether a start bit begins a new activity (R167): the line has been idle for the gap, also where the
gap ends at this very moment and LINE_IDLE is still to be taken (R162, log 43). -/
def State.beginsActivity (s : State) : Bool :=
  s.mode = .dormant && (s.bus.activityReady || s.gapOver || s.gapCutNow)

/-- An activity in DORMANT: the line is busy, and the wake is completed or the window starts (R167). An
activity at the very end of the window counts as within it, the model's choice (log 35). -/
def State.activity (s : State) : State :=
  let s := s.setBus { s.bus with
    idle := false, gapFrom := s.now + bitTime, activityReady := false, gapCut := none }
  let seen := s.setBus { s.bus with wake := .seen (s.now + wakeWindow) }
  if !s.cfg.twoActivity then s.wake
  else
    match s.bus.wake with
    | .seen d => if s.now ≤ d then s.wake else seen
    | .waiting => seen
    | .off => seen

/-! ## The commands -/

/-- LINE_IDLE (R155, R163): 24 bit times of mark since the idle count last started anew, the board not
sending. Taken after a LINE_BUSY of the same moment it leaves the line busy, and arms the receiver for the
other station's frame (R162, log 43). -/
def execLineIdle (t : Time) (s : State) : Host.Outcome State Fault Refusal :=
  let b := s.begin_ t
  .next (if b.gapOver then b.endGap true else if b.gapCutNow then b.endGap false else b)

/-- LINE_BUSY (R155). At the end of a gap for which LINE_IDLE is still to be taken it keeps its moment
(R162, log 43). -/
def execLineBusy (t : Time) (s : State) : Host.Outcome State Fault Refusal :=
  let b := s.begin_ t
  .next (if b.mode.awake then
      b.setBus { b.bus with
        idle := false
        gapFrom := max b.bus.gapFrom (b.now + bitTime)
        gapCut := if b.gapOver then some b.now else b.bus.gapCut }
    else b)

/-- TRANSMISSION_START (R157). -/
def execTransmissionStart (t : Time) (s : State) : Host.Outcome State Fault Refusal :=
  let b := s.begin_ t
  .next (match b.bus.firstPending with
    | some i =>
      match b.frameFor i with
      | some f => if b.mayTransmit then b.startAttempt i f else b
      | none => b
    | none => b)

/-- FRAME_SENT (R158): the attempt in hand is taken as sent whole at the command's moment, also where that
lies before the last stop bit of its frame. DESIGN CHOICE (log 40). -/
def execFrameSent (t : Time) (s : State) : Host.Outcome State Fault Refusal :=
  let b := s.begin_ t
  .next (match b.bus.tx with
    | some x => b.sent x
    | none => b)

/-- COLLISION (R159): taken as a collision of the attempt in hand at the command's moment, whatever bit is
being sent then, at space or after the frame's end too. DESIGN CHOICE (log 40). -/
def execCollision (t : Time) (s : State) : Host.Outcome State Fault Refusal :=
  let b := s.begin_ t
  .next (match b.bus.tx with
    | some x => b.collide x
    | none => b)

/-- BACKOFF_END (R160). -/
def execBackoffEnd (t : Time) (s : State) : Host.Outcome State Fault Refusal :=
  let b := s.begin_ t
  .next (if due b.bus.backoff b.now then b.setBus { b.bus with backoff := none } else b)

/-- FRAME_DROPPED (R163): whatever the cause, the assembly disarms and no block learns of it. -/
def execFrameDropped (t : Time) (_why : DropCause) (s : State) : Host.Outcome State Fault Refusal :=
  let b := s.begin_ t
  .next (b.setBus { b.bus with armed := false })

/-- WAKE_ACTIVITY (R167, R196). Taken after a local wake at the same moment it finds STANDBY and changes
nothing, the line state included: its start bit makes the line busy (R155) only where it is sent as LINE_BUSY
too. DESIGN CHOICE (log 41). -/
def execWakeActivity (t : Time) (s : State) : Host.Outcome State Fault Refusal :=
  let b := s.begin_ t
  .next (if b.beginsActivity then b.activity else b)

/-- WAKE_WINDOW_EXPIRY (R167). -/
def execWakeWindowExpiry (t : Time) (s : State) : Host.Outcome State Fault Refusal :=
  let b := s.begin_ t
  .next (match b.bus.wake with
    | .seen d =>
      if b.mode = .dormant ∧ d ≤ b.now then b.setBus { b.bus with wake := .waiting } else b
    | .waiting => b
    | .off => b)

end Sys2Proof.Machine
end

