-- ==== Sys2Proof/Machine/DisplayTimers.lean ====
section
/-! DEFINITION. The display's own commands: flash phase, picture, page and step timers, and the ends of
the two timed parts of the horn request (R23, R129, R130, R137, R138). -/

namespace Sys2Proof.Machine

/-- The flash phase changes, the next change 500 ms after this one was due (R130). -/
def State.changeFlash (s : State) : State :=
  (s.setDisp { s.disp with
    flash := !s.disp.flash
    flashDue := s.disp.flashDue.map (fun d => d + flashTime) }).redraw

/-- The page after a page timer expiry (R137). -/
def nextPage (page pages : Nat) : Nat := if pages ≤ page then 1 else page + 1

/-- The picture that was being sent has arrived; another follows if one is due (R129). -/
def Link.arrived (l : Link) (now : Picture) : Link :=
  match l.sending with
  | none => l
  | some p => if l.again then ⟨some now, false, p⟩ else ⟨none, false, p⟩

/-- FLASH_PHASE_CHANGE (R130). -/
def execFlashPhaseChange (t : Time) (s : State) : Host.Outcome State Fault Refusal :=
  let b := s.begin_ t
  .next (if b.running && due b.disp.flashDue b.now then b.changeFlash else b)

/-- PICTURE_REFRESH (R129): the whole picture is sent, in any mode other than LOADING. -/
def execPictureRefresh (t : Time) (s : State) : Host.Outcome State Fault Refusal :=
  let b := s.begin_ t
  .next (if b.mode = .loading then b
    else b.setDisp { b.disp with link := b.disp.link.send b.disp.picture })

/-- PICTURE_SENT (R129). -/
def execPictureSent (t : Time) (s : State) : Host.Outcome State Fault Refusal :=
  let b := s.begin_ t
  .next (b.setDisp { b.disp with link := b.disp.link.arrived b.disp.picture })

/-- PAGE_TIMER_EXPIRY (R137). The timer restarts from this command's moment, the model's choice (log 19). -/
def execPageTimerExpiry (t : Time) (s : State) : Host.Outcome State Fault Refusal :=
  let b := s.begin_ t
  .next (if b.running && due b.disp.pageTimer b.now then
      (b.setDisp { b.disp with
        page := nextPage b.disp.page (pagesOf b.stopLines.length)
        pageTimer := some (b.now + pageTime) }).redraw
    else b)

/-- STEP_TIMER_EXPIRY (R138). -/
def execStepTimerExpiry (t : Time) (s : State) : Host.Outcome State Fault Refusal :=
  let b := s.begin_ t
  .next (match b.disp.running with
    | some r => if b.running && r.due ≤ b.now then (b.stepText r).redraw else b
    | none => b)

/-- HOLD_SOUND_END (R23). -/
def execHoldSoundEnd (t : Time) (s : State) : Host.Outcome State Fault Refusal :=
  let b := s.begin_ t
  .next (if due b.calls.holdSound b.now then
      (b.setCalls { b.calls with holdSound := none }).redraw
    else b)

/-- RAISE_CHIRP_END (R23). -/
def execRaiseChirpEnd (t : Time) (s : State) : Host.Outcome State Fault Refusal :=
  let b := s.begin_ t
  .next (if due b.calls.chirp b.now then
      (b.setCalls { b.calls with chirp := none }).redraw
    else b)

end Sys2Proof.Machine
end

