-- ==== Sys2Proof/Machine/Calls.lean ====
section
/-! DEFINITION. Pulls, the clear key and the countdown on the call list (R9 to R19, R22 to R24). -/

namespace Sys2Proof.Machine

/-- An entry into a hold: the hold count of its kind and the hold sound, started afresh (R23, R24). -/
def State.enterHold (k : CallKind) (s : State) : State :=
  (s.charge (fun r => r.countHold k)).setCalls { s.calls with holdSound := some (s.now + holdSoundTime) }

/-- A call appended, with its raised count and the raise chirp (R7, R23, R24). -/
def State.appendCall (x : Call) (s : State) : State :=
  let s := s.setCalls { s.calls with
    list := s.calls.list ++ [x]
    chirp := if s.cfg.chirpOn then some (s.now + chirpTime) else s.calls.chirp }
  s.charge (fun r => r.countRaised x.kind)

/-- A SAFETY raise: HOLDING at once, with the SAFETY raise event (R10, R22, R144). -/
def State.raiseSafety (station : Nat) (s : State) : State :=
  let s := s.appendCall ⟨station, .safety, .holding, s.knownSecond, 0, 0⟩
  (s.enterHold .safety).startAlert .safety

/-- A new OPEN call at its full hold-point distance (R9). -/
def State.raiseOpen (station : Nat) (k : CallKind) (s : State) : State :=
  s.appendCall ⟨station, k, .opened, none, s.cfg.holdPoint station, 0⟩

/-- The overflow hold set (R17). -/
def State.setOverflow (k : CallKind) (s : State) : State :=
  (s.setCalls { s.calls with overflow := some ⟨k, s.knownSecond⟩ }).enterHold k

/-- A pull whose pair has no call: nothing while the overflow hold is set, the overflow hold on a full
list, otherwise a new call (R9, R10, R17, R18). -/
def State.pullNew (cord : Cord) (s : State) : State :=
  if s.calls.overflow.isSome then s
  else if maxCalls ≤ s.calls.list.length then s.setOverflow cord.kind
  else if cord.kind = .safety then s.raiseSafety cord.station
  else s.raiseOpen cord.station cord.kind

/-- Whether a call is the one of a cord (R7). -/
def Call.isOf (x : Call) (cord : Cord) : Bool := x.station = cord.station && x.kind = cord.kind

/-- The call of a cord. -/
def CallUnit.find (c : CallUnit) (cord : Cord) : Option Call := c.list.find? (fun x => x.isOf cord)

/-- A pull on a cord whose call is OPEN answers it (R11). -/
def State.answer (cord : Cord) (s : State) : State :=
  s.setCalls { s.calls with
    list := s.calls.list.map (fun x => if x.isOf cord then { x with state := .answered } else x) }

/-- A pull that resolves a call removes it (R12). -/
def State.resolve (cord : Cord) (s : State) : State :=
  s.setCalls { s.calls with list := s.calls.list.filter (fun x => !x.isOf cord) }

/-- A counted pull applied to the call list in STANDBY or SHIFT (R9 to R12, R17, R18). -/
def State.pull (cord : Cord) (s : State) : State :=
  if (s.cfg.policy cord.kind).policy = .off then s
  else
    match s.calls.find cord with
    | none => s.pullNew cord
    | some x =>
      if cord.kind = .safety then s
      else
        match x.state with
        | .opened => s.answer cord
        | .answered => s.resolve cord
        | .holding => s.resolve cord
        | .overdue => s.resolve cord

/-- A clear key press (R19): list emptied, overflow hold cleared, horn silenced. -/
def State.clearZone (s : State) : State :=
  s.setCalls { s.calls with list := [], overflow := none, holdSound := none, chirp := none }

/-- One call at an accepted pulse: OPEN and ANSWERED calls count down, and at 0 move by their kind's
policy (R13). -/
def Call.advance (cfg : Cfg) (second : Option Nat) (x : Call) : Call :=
  match x.state with
  | .holding => x
  | .overdue => x
  | _ =>
    if 1 < x.remaining then { x with remaining := x.remaining - 1 }
    else
      match (cfg.policy x.kind).policy with
      | .signal => { x with remaining := 0, state := .overdue }
      | _ => { x with remaining := 0, state := .holding, holdStart := second, heldFor := 0 }

/-- The kinds of the calls that enter HOLDING when `x` counts down. -/
def Call.enters (cfg : Cfg) (x : Call) : Bool :=
  x.state ≠ .holding && (x.advance cfg none).state = .holding

/-- The call list at an accepted pulse (R13), each entry into HOLDING with its effects (R23, R24). -/
def State.countDown (s : State) : State :=
  let entering := s.calls.list.filter (fun x => x.enters s.cfg)
  let s := s.setCalls { s.calls with list := s.calls.list.map (fun x => x.advance s.cfg s.knownSecond) }
  entering.foldl (fun s x => s.enterHold x.kind) s

end Sys2Proof.Machine
end

