-- ==== Sys2Proof/Machine/Inputs.lean ====
section
/-! DEFINITION. The tracked inputs (R2 to R4, R92) and what a counted pull, press or pulse does. -/

namespace Sys2Proof.Machine

/-- The level of a tracked input. -/
def Pins.level (p : Pins) : InputId → Bool
  | .call n => p.call.getD n false
  | .clr => p.clr
  | .shst => p.shst
  | .shend => p.shend

/-- The pins with the level of one tracked input replaced. -/
def Pins.setLevel (p : Pins) (i : InputId) (v : Bool) : Pins :=
  match i with
  | .call n => { p with call := p.call.set n v }
  | .clr => { p with clr := v }
  | .shst => { p with shst := v }
  | .shend => { p with shend := v }

/-- The tracker of an input. -/
def State.tracker (s : State) : InputId → Tracker
  | .call n => s.calls.trackers.getD n .rest
  | .clr => s.calls.clr
  | .shst => s.clock.shst
  | .shend => s.clock.shend

/-- The state with one tracker replaced. -/
def State.setTracker (s : State) (i : InputId) (x : Tracker) : State :=
  match i with
  | .call n => s.setCalls { s.calls with trackers := s.calls.trackers.set n x }
  | .clr => s.setCalls { s.calls with clr := x }
  | .shst => s.setClock { s.clock with shst := x }
  | .shend => s.setClock { s.clock with shend := x }

/-- A tracker when its input becomes active (R2). -/
def Tracker.activated (x : Tracker) (now : Time) : Tracker :=
  match x.state with
  | .armed => { x with state := .qualifying (now + qualifyTime) }
  | .qualifying _ => x
  | .taken => x
  | .releasing _ => { x with state := .taken }

/-- A tracker when its input becomes inactive (R2). -/
def Tracker.deactivated (x : Tracker) (now : Time) : Tracker :=
  match x.state with
  | .armed => x
  | .qualifying _ => { x with state := .armed }
  | .taken => { x with state := .releasing (now + releaseTime) }
  | .releasing _ => x

/-- A change of level of a tracked input; an unsampled input moves no tracker (R1, R3). -/
def State.changeLevel (i : InputId) (v : Bool) (s : State) : State :=
  if s.pins.level i = v then s
  else
    let s := s.setPins (s.pins.setLevel i v)
    if s.sampled i then
      s.setTracker i (if v then (s.tracker i).activated s.now else (s.tracker i).deactivated s.now)
    else s

/-- Whether a qualified pull is counted: none before on this input, or at least 1 s ago (R2). -/
def Tracker.counts (x : Tracker) (now : Time) : Bool :=
  match x.last with
  | none => true
  | some l => l + pullSpacing ≤ now

/-- Whether the qualify time of a tracker has expired (R2). -/
def Tracker.qualified (x : Tracker) (now : Time) : Bool :=
  match x.state with
  | .qualifying d => d ≤ now
  | _ => false

/-- Whether the release time of a tracker has expired (R2). -/
def Tracker.released (x : Tracker) (now : Time) : Bool :=
  match x.state with
  | .releasing d => d ≤ now
  | _ => false

/-- The shift code on the code lines (R92). -/
def shiftCode (shc0 shc1 : Bool) : Nat := shc0.toNat + 2 * shc1.toNat

/-- What a counted pull, press or pulse does; in DORMANT it first wakes the board, but a pull of an OFF
kind is ignored in every mode (R3, R4, R92). -/
def State.counted (i : InputId) (code : Nat) (s : State) : State :=
  match i with
  | .call n =>
    match s.cfg.cord n with
    | none => s
    | some c => if (s.cfg.policy c.kind).policy = .off then s else (s.wakeIfDormant.pull c).finish
  | .clr => s.wakeIfDormant.clearZone.finish
  | .shst => (s.wakeIfDormant.shiftStart code).finish
  | .shend => s.wakeIfDormant.shiftEnd.finish

/-- The expiry of a qualify time with the input still active (R2). -/
def State.qualify (i : InputId) (code : Nat) (s : State) : State :=
  let x := s.tracker i
  if s.sampled i && x.qualified s.now then
    if x.counts s.now then (s.setTracker i ⟨.taken, some s.now⟩).counted i code
    else s.setTracker i { x with state := .taken }
  else s

/-- INPUT_ACTIVE (R2, R3, R4, R92). -/
def execInputActive (t : Time) (i : InputId) (s : State) : Host.Outcome State Fault Refusal :=
  .next ((s.begin_ t).changeLevel i true)

/-- INPUT_INACTIVE (R2, R3, R4, R92). -/
def execInputInactive (t : Time) (i : InputId) (s : State) : Host.Outcome State Fault Refusal :=
  .next ((s.begin_ t).changeLevel i false)

/-- QUALIFY_TIME_EXPIRY (R2), with the levels of the code lines at that moment (R92). -/
def execQualifyTimeExpiry (t : Time) (i : InputId) (shc0 shc1 : Bool) (s : State) :
    Host.Outcome State Fault Refusal :=
  .next ((s.begin_ t).qualify i (shiftCode shc0 shc1))

/-- RELEASE_TIME_EXPIRY (R2). -/
def execReleaseTimeExpiry (t : Time) (i : InputId) (s : State) : Host.Outcome State Fault Refusal :=
  let b := s.begin_ t
  let x := b.tracker i
  .next (if b.sampled i && x.released b.now then b.setTracker i { x with state := .armed } else b)

end Sys2Proof.Machine
end

