-- ==== Sys2Proof/Machine/Rows.lean ====
section
/-! DEFINITION. Which row of the table a valid frame belongs to: frames of one kind are told apart by
their contents (R146, R165, R174, R175, R181). -/

namespace Sys2Proof.Machine

/-- A ZONE STATUS (R165). -/
def Envelope.isZoneStatus (e : Envelope) : Bool := e.kind == 1

/-- A TIME MARK (R165). -/
def Envelope.isTimeMark (e : Envelope) : Bool := e.kind == 2

/-- A COUNT (R165). -/
def Envelope.isCount (e : Envelope) : Bool := e.kind == 3

/-- A MESSAGE with a duration above 0 (R146, R174). -/
def Envelope.isMessage (e : Envelope) : Bool := e.kind == 4 && wordAt e.payload 3 != 0

/-- A withdrawal: a MESSAGE with duration 0 (R146, R174). -/
def Envelope.isWithdrawal (e : Envelope) : Bool := e.kind == 4 && wordAt e.payload 3 == 0

/-- A REQUEST of payload length 6 and a request kind (R175, R181). -/
def Envelope.isRequestOf (e : Envelope) (k : Nat) : Bool :=
  e.kind == 5 && e.payload.length == 6 && byteAt e.payload 1 == k

/-- The selector names a record: 1 CURRENT or 2 LAST (R175, R181). -/
def Envelope.selectorKnown (e : Envelope) : Bool :=
  byteAt e.payload 2 == 1 || byteAt e.payload 2 == 2

/-- An IDENTIFY (R181). -/
def Envelope.isIdentify (e : Envelope) : Bool := e.isRequestOf 1

/-- A READ RECORD with a known selector (R181). -/
def Envelope.isReadRecord (e : Envelope) : Bool := e.isRequestOf 2 && e.selectorKnown

/-- A MARK COLLECTED with a known selector (R181). -/
def Envelope.isMarkCollected (e : Envelope) : Bool := e.isRequestOf 3 && e.selectorKnown

/-- A REQUEST that fails check 1, 2 or 3 of R181. -/
def Envelope.isBadRequest (e : Envelope) : Bool :=
  e.kind == 5 && !(e.isIdentify || e.isReadRecord || e.isMarkCollected)

/-- A REPLY (R165). -/
def Envelope.isReply (e : Envelope) : Bool := e.kind == 6

end Sys2Proof.Machine
end

