-- ==== Sys2Proof/Machine/Reception.lean ====
section
/-! DEFINITION. Frames taken from the line and handed to their owners: ZONE STATUS, TIME MARK, COUNT,
MESSAGE, withdrawal and REPLY (R38, R44, R45, R51, R52, R97, R115 to R117, R146, R163, R165). -/

namespace Sys2Proof.Machine

/-- The end of a reception: the assembly disarms until the next gap (R163). -/
def State.endReception (s : State) : State :=
  s.setBus { s.bus with armed := false, idle := false, gapFrom := max s.bus.gapFrom s.now }

/-- A complete frame at an armed assembly (R163, R165): a valid frame of the row is handed to its owner,
any other is dropped. -/
def State.receive (frame : List Byte) (row : Envelope → Bool) (owner : Envelope → State → State)
    (s : State) : State :=
  if s.bus.armed && s.running then
    match parseFrame frame with
    | some e => if row e then owner e s.endReception else s.endReception
    | none => s.endReception
  else s

/-! ## ZONE STATUS -/

/-- An entry written into the table, which stays in ascending zone number (R43, R45). -/
def placeEntry (e : PeerEntry) : List PeerEntry → List PeerEntry
  | [] => [e]
  | x :: rest =>
    if e.zone < x.zone then e :: x :: rest
    else if e.zone = x.zone then e :: rest
    else x :: placeEntry e rest

/-- What a clash frame leaves of the moment at which one met the count's end: its own moment where the
next expiry would have brought the count to 60, which an expiry at the same moment then does not count
(R51, log 32). -/
def ZoneTable.meetsClash (z : ZoneTable) (now : Time) : Option Time :=
  if z.clash && 59 ≤ z.clashCount then some now
  else if z.clashMet = some now then some now
  else none

/-- The zone table takes a ZONE STATUS (R44, R45, R51, R52). -/
def State.takeStatus (e : Envelope) (s : State) : State :=
  if !statusAccepted s.cfg.nS e.sender e.payload then s
  else
    let x := entryOfStatus e.sender e.payload
    if e.sender ≠ s.cfg.zone then s.setTable { s.table with entries := placeEntry x s.table.entries }
    else if s.mirror then s.setTable { s.table with mirrored := some x }
    else s.setTable { s.table with
      clash := true, clashCount := 0, clashMet := s.table.meetsClash s.now }

/-- Count recovery from a ZONE STATUS (R38). -/
def State.recoverCount (e : Envelope) (s : State) : State :=
  let f := actualOfCode (wordAt e.payload 13)
  if s.cfg.roles.countPoint ∧ s.mode = .shift ∧ byteAt e.payload 0 = s.ret.shift
      ∧ s.ret.serial = some (byteAt e.payload 1) ∧ e.sender ≠ s.cfg.zone ∧ s.ret.car < f
  then s.setCar f
  else s

/-- A ZONE STATUS handed to zone table and section monitor (R165). -/
def State.onZoneStatus (e : Envelope) (s : State) : State :=
  ((s.takeStatus e).recoverCount e).finish

/-! ## TIME MARK -/

/-- A TIME MARK handed to the shift clock (R97, R173). -/
def State.onTimeMark (e : Envelope) (s : State) : State :=
  (s.judgeMark e.sender (byteAt e.payload 0) (byteAt e.payload 1) (wordAt e.payload 2)).finish

/-! ## COUNT -/

/-- Whether a COUNT frame passes the checks of R115. -/
def State.countAccepted (e : Envelope) (s : State) : Bool :=
  !s.cfg.roles.countPoint
    && s.ret.serial == some (byteAt e.payload 1) && byteAt e.payload 0 == s.ret.shift
    && e.sender ≤ 64

/-- A COUNT frame judged by source and max rule (R116, R117). -/
def State.useCount (e : Envelope) (s : State) : State :=
  if s.countAccepted e && (s.pace.isFree || s.pace.source.any (fun z => z ≤ e.sender)) then
    let s := s.setPace { s.pace with source := some e.sender, sourceFree := false, silence := 0 }
    s.setRet { s.ret with actual := max s.ret.actual (min (wordAt e.payload 2) 9999) }
  else s

/-- A COUNT handed to the pace unit (R165). -/
def State.onCount (e : Envelope) (s : State) : State := (s.useCount e).finish

/-! ## MESSAGE -/

/-- Whether the target of a MESSAGE matches this board (R146). -/
def Cfg.targeted (c : Cfg) (target : Nat) : Bool :=
  target == 127 || target == c.zone || c.groups.any (fun g => target == 128 + g)

/-- Whether the contents of a MESSAGE pass the checks of R146. -/
def messageAccepted (p : List Byte) : Bool :=
  byteAt p 1 ≤ 3 && byteAt p 2 ≤ 2 && !(wordAt p 3 != 0 && p.length ≤ 5)

/-- The message a MESSAGE frame carries (R147, R174). -/
def messageOf (sender : Nat) (p : List Byte) : Message :=
  ⟨⟨sender, byteAt p 0⟩, byteAt p 1, (styleOfCode (byteAt p 2)).getD .fixed, wordAt p 3, p.drop 5⟩

/-- A MESSAGE handed to the display engine (R146, R147). -/
def State.onMessage (e : Envelope) (s : State) : State :=
  if s.cfg.targeted e.target && messageAccepted e.payload then
    (s.storeMessage (messageOf e.sender e.payload)).finish
  else s

/-- A withdrawal handed to the display engine (R146, R149). -/
def State.onWithdrawal (e : Envelope) (s : State) : State :=
  if s.cfg.targeted e.target && messageAccepted e.payload then
    (s.withdrawMessage ⟨e.sender, byteAt e.payload 0⟩).finish
  else s

/-! ## The commands -/

/-- ZONE_STATUS (R45). -/
def execZoneStatus (t : Time) (frame : List Byte) (s : State) : Host.Outcome State Fault Refusal :=
  .next ((s.begin_ t).receive frame Envelope.isZoneStatus State.onZoneStatus)

/-- TIME_MARK (R97). -/
def execTimeMark (t : Time) (frame : List Byte) (s : State) : Host.Outcome State Fault Refusal :=
  .next ((s.begin_ t).receive frame Envelope.isTimeMark State.onTimeMark)

/-- COUNT (R115). -/
def execCount (t : Time) (frame : List Byte) (s : State) : Host.Outcome State Fault Refusal :=
  .next ((s.begin_ t).receive frame Envelope.isCount State.onCount)

/-- MESSAGE (R147). -/
def execMessage (t : Time) (frame : List Byte) (s : State) : Host.Outcome State Fault Refusal :=
  .next ((s.begin_ t).receive frame Envelope.isMessage State.onMessage)

/-- WITHDRAWAL (R149). -/
def execWithdrawal (t : Time) (frame : List Byte) (s : State) : Host.Outcome State Fault Refusal :=
  .next ((s.begin_ t).receive frame Envelope.isWithdrawal State.onWithdrawal)

/-- REPLY (R165): taken by the receiver and handed to no block. -/
def execReply (t : Time) (frame : List Byte) (s : State) : Host.Outcome State Fault Refusal :=
  .next ((s.begin_ t).receive frame Envelope.isReply (fun _ s => s))

end Sys2Proof.Machine
end

