-- ==== Sys2Proof/Machine/Section.lean ====
section
/-! DEFINITION. The section monitor's work and the filtered sensors: how a pulse is judged, stop detection,
the hold check, car-out edges, STRV, BLKD and HOLDRB (R30 to R36, R54, R62). What an advance pulse does to
the board stands in Machine/Pulses.lean. -/

namespace Sys2Proof.Machine

/-- A pulse's outcome entered in the window of the last 16 (R31). -/
def pushOutcome (w : List Bool) (rejected : Bool) : List Bool :=
  if w.length < 16 then w ++ [rejected] else (w ++ [rejected]).drop (w.length + 1 - 16)

/-- The rejected outcomes in a window (R31). -/
def rejectedIn (w : List Bool) : Nat := (w.filter (fun x => x)).length

/-- Whether a pulse comes sooner than a minimum gap, in ms, after the last accepted one (R30). -/
def SectionMonitor.tooSoon (m : SectionMonitor) (gap : Nat) (now : Time) : Bool :=
  match m.lastPulse with
  | some l => now < l + msec gap
  | none => false

/-- A rejected pulse (R30, R31). -/
def SectionMonitor.reject (m : SectionMonitor) : SectionMonitor :=
  let w := pushOutcome m.window true
  { m with window := w, run := 0, encFault := m.encFault || 4 ≤ rejectedIn w }

/-- An accepted pulse, motion apart (R30, R31). -/
def SectionMonitor.accept (m : SectionMonitor) (now : Time) : SectionMonitor :=
  let run := min 64 (m.run + 1)
  { m with
    lastPulse := some now, window := pushOutcome m.window false, run := run
    encFault := m.encFault && run ≠ 64, stopTimer := some now }

/-- Whether a car-out edge is counted (R36). -/
def State.countsCar (s : State) : Bool :=
  s.cfg.roles.countPoint && s.mode = .shift && s.ret.car < 9999
    && (match s.sec.lastCar with
        | some l => l + seconds s.cfg.carSpacing ≤ s.now
        | none => true)

/-- A counted car-out edge (R36). -/
def State.countCar (s : State) : State :=
  ((s.setSec { s.sec with lastCar := some s.now }).setCar (s.ret.car + 1)).finish

/-- The filter of a buffer sensor. -/
def ZoneTable.filter (z : ZoneTable) : Sensor → Filter
  | .strv => z.starved
  | .blkd => z.blocked

/-- The table with a buffer sensor's filter replaced. -/
def ZoneTable.setFilter (z : ZoneTable) (x : Sensor) (f : Filter) : ZoneTable :=
  match x with
  | .strv => { z with starved := f }
  | .blkd => { z with blocked := f }

/-- The level of a buffer sensor. -/
def Pins.sensor (p : Pins) : Sensor → Bool
  | .strv => p.strv
  | .blkd => p.blkd

/-- The pins with a buffer sensor's level replaced. -/
def Pins.setSensor (p : Pins) (x : Sensor) (v : Bool) : Pins :=
  match x with
  | .strv => { p with strv := v }
  | .blkd => { p with blkd := v }

/-- STOP_DETECT_EXPIRY (R32). -/
def execStopDetectExpiry (t : Time) (s : State) : Host.Outcome State Fault Refusal :=
  let b := s.begin_ t
  .next (if b.advSampled && due b.sec.stopDue b.now then (b.setMotion .stopped).finish else b)

/-- HOLD_RESPONSE_EXPIRY (R35). -/
def execHoldResponseExpiry (t : Time) (s : State) : Host.Outcome State Fault Refusal :=
  let b := s.begin_ t
  .next (if due b.sec.holdTimer b.now then
      (b.setSec { b.sec with holdTimer := none, holdFail := true }).finish
    else b)

/-- CAR_OUT_EDGE (R36): an edge that is not counted changes nothing. -/
def execCarOutEdge (t : Time) (s : State) : Host.Outcome State Fault Refusal :=
  let b := s.begin_ t
  .next (if b.countsCar then b.countCar else b)

/-- BUFFER_SENSOR_CHANGE (R54): the 1 s filter starts anew. -/
def execBufferSensorChange (t : Time) (x : Sensor) (level : Bool) (s : State) :
    Host.Outcome State Fault Refusal :=
  let b := s.begin_ t
  .next (if b.pins.sensor x = level then b
    else
      (b.setPins (b.pins.setSensor x level)).setTable
        (b.table.setFilter x { b.table.filter x with since := b.now }))

/-- BUFFER_SENSOR_QUALIFY_EXPIRY (R54): after 1 s of unbroken level the flag follows the input. -/
def execBufferSensorQualifyExpiry (t : Time) (x : Sensor) (s : State) :
    Host.Outcome State Fault Refusal :=
  let b := s.begin_ t
  let f := b.table.filter x
  .next (if b.sensorSampled x && f.since + bufferFilter ≤ b.now then
      (b.setTable (b.table.setFilter x { f with flag := b.pins.sensor x })).finish
    else b)

/-- READ_BACK_CHANGE (R62): the 100 ms filter starts anew. -/
def execReadBackChange (t : Time) (level : Bool) (s : State) : Host.Outcome State Fault Refusal :=
  let b := s.begin_ t
  .next (if b.pins.holdrb = level then b
    else
      (b.setPins { b.pins with holdrb := level }).setAtt
        { b.att with readBack := { b.att.readBack with since := b.now } })

/-- READ_BACK_QUALIFY_EXPIRY (R62): after 100 ms of unbroken level the read-back state takes it. -/
def execReadBackQualifyExpiry (t : Time) (s : State) : Host.Outcome State Fault Refusal :=
  let b := s.begin_ t
  .next (if b.running && b.att.readBack.since + readBackFilter ≤ b.now then
      (b.setAtt { b.att with readBack := { b.att.readBack with flag := b.pins.holdrb } }).finish
    else b)

end Sys2Proof.Machine
end

