-- ==== Sys2Proof/Machine/Pulses.lean ====
section
/-! DEFINITION. The command ADVANCE_PULSE, and what falls together with it: the minimum gap a pulse is
measured against when the current takt changes at its own moment (R28 to R30), and the stop re-keyed when
the calls it brings to their hold points are resolved at that moment (R15, R16, R73). -/

namespace Sys2Proof.Machine

/-- The moment a command carries (log 1). -/
def momentOf : Instr → Time
  | .powerOn t _ => t
  | .restartInput t _ => t
  | .rstwRelease t => t
  | .configImageRead t _ => t
  | .inputActive t _ => t
  | .inputInactive t _ => t
  | .qualifyTimeExpiry t _ _ _ => t
  | .releaseTimeExpiry t _ => t
  | .advancePulse t => t
  | .stopDetectExpiry t => t
  | .holdResponseExpiry t => t
  | .carOutEdge t => t
  | .bufferSensorChange t _ _ => t
  | .bufferSensorQualifyExpiry t _ => t
  | .readBackChange t _ => t
  | .readBackQualifyExpiry t => t
  | .secondsExpiry t => t
  | .holdLimitExpiry t => t
  | .entrySilent t => t
  | .clashCountExpiry t => t
  | .refreshCountExpiry t => t
  | .markCountExpiry t => t
  | .countPeriodExpiry t => t
  | .silenceCountExpiry t => t
  | .countSilenceExpiry t => t
  | .messageDurationExpiry t => t
  | .endOfPlan t => t
  | .overtimeLimit t => t
  | .dormantCountExpiry t => t
  | .flashPhaseChange t => t
  | .pictureRefresh t => t
  | .pictureSent t => t
  | .pageTimerExpiry t => t
  | .stepTimerExpiry t => t
  | .holdSoundEnd t => t
  | .raiseChirpEnd t => t
  | .lineIdle t => t
  | .transmissionStart t => t
  | .frameSent t => t
  | .collision t => t
  | .backoffEnd t => t
  | .frameDropped t _ => t
  | .zoneStatus t _ => t
  | .timeMark t _ => t
  | .count t _ => t
  | .message t _ => t
  | .withdrawal t _ => t
  | .identify t _ => t
  | .readRecord t _ => t
  | .markCollected t _ => t
  | .badRequest t _ => t
  | .reply t _ => t
  | .wakeActivity t => t
  | .wakeWindowExpiry t => t
  | .lineBusy t => t
  | .rstwActive t => t
  | .supplyDisturbance t => t

/-- The state a command leaves, the state itself where it leaves none. -/
def State.orNext (s : State) (o : Host.Outcome State Fault Refusal) : State :=
  match o with
  | .next u => u
  | .fault _ => s
  | .refused _ => s

/-- The board after a waiting command that can change the current takt: a seconds expiry, the overtime
limit, a TIME MARK or a counted shift input; any other is left out (R28). -/
def State.takeTaktChange (s : State) (c : Instr) : State :=
  match c with
  | .secondsExpiry t => s.orNext (execSecondsExpiry t s)
  | .overtimeLimit t => s.orNext (execOvertimeLimit t s)
  | .timeMark t frame => s.orNext (execTimeMark t frame s)
  | .qualifyTimeExpiry t .shst c0 c1 => s.orNext (execQualifyTimeExpiry t .shst c0 c1 s)
  | .qualifyTimeExpiry t .shend c0 c1 => s.orNext (execQualifyTimeExpiry t .shend c0 c1 s)
  | _ => s

/-- The commands that fall together with the one being taken: the next ones in the queue whose moment is
not later than the present (log 27, 31). -/
def State.together (s : State) : List Instr :=
  s.pending.takeWhile (fun c => momentOf c ≤ s.now)

/-- The minimum gap, in ms, that a pulse at this moment is measured against: where a change of the derived
times falls together with it, the old gap if the change was taken first and the new gap if the pulse is
taken first (R28, log 31). An overtime end that a waiting SECONDS_EXPIRY only leaves outstanding, with no
OVERTIME_LIMIT or other change of takt queued behind it at this moment, is not looked at: DESIGN CHOICE
(log 31). -/
def State.pulseGap (s : State) : Nat :=
  let u := s.together.foldl State.takeTaktChange s
  if u.sec.times = s.sec.times then s.sec.gapAt s.now else u.sec.times.minGap

/-- The board after a waiting command that can take calls from the list: a pull, or a zone clear key press;
any other is left out (R15, R16). -/
def State.takeListEvent (s : State) (c : Instr) : State :=
  match c with
  | .qualifyTimeExpiry t (.call n) c0 c1 => s.orNext (execQualifyTimeExpiry t (.call n) c0 c1 s)
  | .qualifyTimeExpiry t .clr c0 c1 => s.orNext (execQualifyTimeExpiry t .clr c0 c1 s)
  | _ => s

/-- One waiting list event: `ahead` is the board that has taken the events before it, `s` the one whose
stop is re-keyed. Where the event takes a call from the list, the open interval follows the evaluation
made after it (R73). -/
def rekeyAfter : State × State → Instr → State × State
  | (ahead, s), c =>
    let v := ahead.takeListEvent c
    (v, if v.calls.list.length < ahead.calls.list.length then s.rekey (evaluate v.cfg v.attInputs)
      else s)

/-- The attributor takes the pulls and clear key presses that fall together with a pulse and resolve calls,
before the motion state is handed on: the way back of a stop that a call re-keyed to the own zone as it
entered HOLDING (R15, R73). The events themselves are taken when their turn in the queue comes (log 36). -/
def State.rekeyTogether (s : State) : State :=
  if s.mode = .shift then (s.together.foldl rekeyAfter (s, s)).2 else s

/-- An advance pulse at a sampled time, measured against a minimum gap (R30). What the call unit makes of
an accepted pulse is handed on before the motion state is: a call that enters HOLDING on a section that
stands re-keys the stop to the own zone before the motion becomes MOVING, and one that did and is resolved
at the same moment re-keys it back (R73, log 10, 36). -/
def State.pulse (gap : Nat) (s : State) : State :=
  if s.sec.tooSoon gap s.now then (s.setSec s.sec.reject).finish
  else
    let u := (s.setSec (s.sec.accept s.now)).countDown.handOn
    ((if u.att.cause = s.att.cause then u else u.rekeyTogether).setMotion .moving).finish

/-- ADVANCE_PULSE (R29, R30): an edge at an unsampled time is not a pulse. -/
def execAdvancePulse (t : Time) (s : State) : Host.Outcome State Fault Refusal :=
  let b := s.begin_ t
  .next (if b.advSampled then b.pulse b.pulseGap else b)

end Sys2Proof.Machine
end

