-- ==== Sys2Proof/Machine/Requests.lean ====
section
/-! DEFINITION. The request server: checks, replies and the REPLY slot (R175 to R185). -/

namespace Sys2Proof.Machine

/-- A REQUEST reaches the server when its target is the board's zone and the board is no mirror
(R165). -/
def State.addressed (e : Envelope) (s : State) : Bool := e.target == s.cfg.zone && !s.mirror

/-- A new reply handed to the REPLY slot (R156, R185). -/
def State.handReply (target : Nat) (payload : List Byte) (s : State) : State :=
  let slot := s.bus.reply
  let slot' := match slot.state with
    | .empty => ⟨.pending, 0, false⟩
    | .pending => { slot with c := 0 }
    | .sending => { slot with remark := true }
  (s.setBus { s.bus with reply := slot' }).setReq { s.req with waiting := some ⟨target, payload⟩ }

/-- A reply with its tag and status; the target is the sender of the request (R176, R181). -/
def State.answerRequest (e : Envelope) (status : Nat) (body : List Byte) (s : State) : State :=
  s.handReply e.sender ([byteOf (byteAt e.payload 0), byteOf status] ++ body)

/-- The record a selector names; CURRENT is present only in SHIFT (R181). -/
def State.record (sel : Nat) (s : State) : Option Record :=
  if sel = 1 then (if s.mode = .shift then s.ret.current else none) else s.ret.last

/-- The identity body (R176, R182). -/
def State.identity (s : State) : List Byte :=
  be16 2614 ++ be16 s.cfg.imageId.toNat
    ++ [byteOf s.cfg.zone, byteOf s.cfg.section_,
        flagByte [s.cfg.roles.head, s.cfg.roles.tail, s.cfg.roles.countPoint,
          s.cfg.roles.reference, s.cfg.roles.mirror],
        byteOf s.mode.code]

/-- The key and seconds of an open interval, zeros when none is open (R177). -/
def intervalBytes : Option Interval → List Byte
  | some i => keyBytes i.key ++ be32 i.seconds
  | none => [0, 0, 0, 0, 0, 0, 0, 0]

/-- The four bytes that begin every record block (R177). -/
def blockHead (block sel : Nat) (r : Record) : List Byte :=
  [byteOf block, byteOf sel] ++ be16 r.version

/-- The header block's fields that follow (R177), with actual, target and interval as the selector has
them (R183). -/
def headerFields (r : Record) (pair : ClosePair) (i : Option Interval) : List Byte :=
  [byteOf r.shift, byteOf r.serial, byteOf r.changed.toNat, byteOf r.tally.length] ++ be32 r.total
    ++ be16 r.raised.quality ++ be16 r.raised.material ++ be16 r.raised.equipment
    ++ be16 r.raised.safety
    ++ [byteOf r.holds.quality, byteOf r.holds.material, byteOf r.holds.equipment,
        byteOf r.holds.safety]
    ++ be16 pair.actual ++ optWord pair.target ++ intervalBytes i

/-- An entry block's fields that follow: first index, number of entries, entries (R177, R183). -/
def entryFields (r : Record) (block : Nat) : List Byte :=
  let first := 4 * (block - 1)
  let es := (r.tally.drop first).take 4
  [byteOf first, byteOf es.length] ++ es.flatMap entryBytes

/-- Whether a block of a record can be read (R181, check 5). -/
def blockPresent (r : Record) (block : Nat) : Bool :=
  block == 0 || (block ≤ 8 && 4 * (block - 1) < r.tally.length)

/-- The actual and target of a header block (R183). -/
def State.headerPair (sel : Nat) (r : Record) (s : State) : ClosePair :=
  if sel = 1 then ⟨s.ret.actual, s.ret.peak⟩ else r.close.getD ⟨0, none⟩

/-- The block of a record as it stands (R183). -/
def State.blockBody (sel block : Nat) (r : Record) (s : State) : List Byte :=
  blockHead block sel r ++
    (if block = 0 then headerFields r (s.headerPair sel r) (if sel = 1 then s.ret.interval else none)
      else entryFields r block)

/-- READ RECORD served (R181, R183). -/
def State.serveRead (e : Envelope) (s : State) : State :=
  let sel := byteAt e.payload 2
  let block := byteAt e.payload 3
  match s.record sel with
  | none => s.answerRequest e 4 []
  | some r =>
    if blockPresent r block then s.answerRequest e 0 (s.blockBody sel block r)
    else s.answerRequest e 2 []

/-- The named record's changed flag cleared (R184). -/
def State.clearChanged (sel : Nat) (s : State) : State :=
  if sel = 1 then
    s.setRet { s.ret with current := s.ret.current.map (fun r => { r with changed := false }) }
  else s.setRet { s.ret with last := s.ret.last.map (fun r => { r with changed := false }) }

/-- MARK COLLECTED served (R181, R184). -/
def State.serveMark (e : Envelope) (s : State) : State :=
  let sel := byteAt e.payload 2
  match s.record sel with
  | none => s.answerRequest e 4 []
  | some r =>
    let body := byteOf sel :: be16 r.version
    if wordAt e.payload 4 = r.version then (s.clearChanged sel).answerRequest e 0 body
    else s.answerRequest e 3 body

/-- A request served when it is addressed to this board (R165, R181). -/
def State.serve (f : Envelope → State → State) (e : Envelope) (s : State) : State :=
  if s.addressed e then f e s else s

/-- IDENTIFY (R182). -/
def execIdentify (t : Time) (frame : List Byte) (s : State) : Host.Outcome State Fault Refusal :=
  .next ((s.begin_ t).receive frame Envelope.isIdentify
    (State.serve (fun e s => s.answerRequest e 0 s.identity)))

/-- READ_RECORD (R183). -/
def execReadRecord (t : Time) (frame : List Byte) (s : State) : Host.Outcome State Fault Refusal :=
  .next ((s.begin_ t).receive frame Envelope.isReadRecord (State.serve State.serveRead))

/-- MARK_COLLECTED (R184). -/
def execMarkCollected (t : Time) (frame : List Byte) (s : State) :
    Host.Outcome State Fault Refusal :=
  .next ((s.begin_ t).receive frame Envelope.isMarkCollected (State.serve State.serveMark))

/-- BAD_REQUEST (R181): answered with status BAD-REQUEST and an empty body. -/
def execBadRequest (t : Time) (frame : List Byte) (s : State) : Host.Outcome State Fault Refusal :=
  .next ((s.begin_ t).receive frame Envelope.isBadRequest
    (State.serve (fun e s => s.answerRequest e 1 [])))

end Sys2Proof.Machine
end

