-- ==== Sys2Proof/Machine/StartUp.lean ====
section
/-! DEFINITION. The start-up controller's commands: power-on, the restart input, the image read, and a
supply disturbance (R188 to R193). -/

namespace Sys2Proof.Machine

/-- Whether RSTW is active. -/
def Rstw.isActive : Rstw → Bool
  | .inactive => false
  | .active _ => true
  | .taken => true

/-- Whether the restart input is taken: RSTW active without a break for 50 ms, once per activation
(R188, log 12). -/
def Rstw.restarts (r : Rstw) (now : Time) : Bool :=
  match r with
  | .active since => since + restartFilter ≤ now
  | .inactive => false
  | .taken => false

/-- Power-on (R188): the retained area cleared and its check word set to agree, the strap sampled, one
dark picture sent. RSTW keeps its level; reading begins when it is inactive. An RSTW that is active here
counts its 50 ms from the power-on, the model's choice (log 12). -/
def State.powerOn (bpol : Bool) (s : State) : State :=
  let startup : StartUp :=
    ⟨none, bpol, if s.start.rstw.isActive then .active s.now else .inactive,
      !s.start.rstw.isActive, false, 0⟩
  (s.enterLoading bpol ⟨some .dark, false, s.disp.link.shown⟩ startup).clearArea

/-- The restart input taken (R188): the retained area stands as it is, not yet judged. -/
def State.restart (bpol : Bool) (s : State) : State :=
  s.enterLoading bpol (s.disp.link.send .dark)
    ⟨none, bpol, .taken, false, true, 0⟩

/-- POWER_ON (R188). -/
def execPowerOn (t : Time) (bpol : Bool) (s : State) : Host.Outcome State Fault Refusal :=
  .next ((s.begin_ t).powerOn bpol)

/-- RESTART_INPUT (R188), sampled in every mode. -/
def execRestartInput (t : Time) (bpol : Bool) (s : State) : Host.Outcome State Fault Refusal :=
  let b := s.begin_ t
  .next (if b.start.rstw.restarts b.now then b.restart bpol else b)

/-- RSTW_RELEASE (R188): in LOADING, reading begins. -/
def execRstwRelease (t : Time) (s : State) : Host.Outcome State Fault Refusal :=
  let b := s.begin_ t
  .next (b.setStart { b.start with
    rstw := .inactive
    reading := b.start.reading || b.mode = .loading })

/-- RSTW_ACTIVE (R188): the 50 ms filter starts. -/
def execRstwActive (t : Time) (s : State) : Host.Outcome State Fault Refusal :=
  let b := s.begin_ t
  .next (if b.start.rstw.isActive then b else b.setStart { b.start with rstw := .active b.now })

/-- CONFIG_IMAGE_READ (R189, R190, R192): the image checked in order; the board halts, or leaves
LOADING. -/
def execConfigImageRead (t : Time) (mem : List Byte) (s : State) :
    Host.Outcome State Fault Refusal :=
  let b := s.begin_ t
  .next (if b.mode = .loading ∧ b.start.reading then
      match imageFault mem with
      | some c => b.halt c
      | none => b.leaveLoading (cfgOf mem) (plansOf mem)
    else b)

/-- SUPPLY_DISTURBANCE (R193): contents and check word are left in disagreement, in which bits is a free
value (log 7). -/
def execSupplyDisturbance (t : Time) (s : State) : Host.Outcome State Fault Refusal :=
  let b := s.begin_ t
  let bits := Config.disturbedBits b.now
  .next (b.setCheck (checkWordOf b.ret ^^^ (if bits = 0 then 1 else bits)))

end Sys2Proof.Machine
end

