-- ==== Sys2Proof/Machine/Dispatch.lean ====
section
/-! DEFINITION. The meaning of each command, one arm per row of the table. -/

namespace Sys2Proof.Machine

def exec (i : Instr) (s : State) : Host.Outcome State Fault Refusal :=
  match i with
  | .powerOn t bpol => Sys2Proof.Machine.execPowerOn t bpol s
  | .restartInput t bpol => Sys2Proof.Machine.execRestartInput t bpol s
  | .rstwRelease t => Sys2Proof.Machine.execRstwRelease t s
  | .configImageRead t mem => Sys2Proof.Machine.execConfigImageRead t mem s
  | .inputActive t x => Sys2Proof.Machine.execInputActive t x s
  | .inputInactive t x => Sys2Proof.Machine.execInputInactive t x s
  | .qualifyTimeExpiry t x shc0 shc1 => Sys2Proof.Machine.execQualifyTimeExpiry t x shc0 shc1 s
  | .releaseTimeExpiry t x => Sys2Proof.Machine.execReleaseTimeExpiry t x s
  | .advancePulse t => Sys2Proof.Machine.execAdvancePulse t s
  | .stopDetectExpiry t => Sys2Proof.Machine.execStopDetectExpiry t s
  | .holdResponseExpiry t => Sys2Proof.Machine.execHoldResponseExpiry t s
  | .carOutEdge t => Sys2Proof.Machine.execCarOutEdge t s
  | .bufferSensorChange t x level => Sys2Proof.Machine.execBufferSensorChange t x level s
  | .bufferSensorQualifyExpiry t x => Sys2Proof.Machine.execBufferSensorQualifyExpiry t x s
  | .readBackChange t level => Sys2Proof.Machine.execReadBackChange t level s
  | .readBackQualifyExpiry t => Sys2Proof.Machine.execReadBackQualifyExpiry t s
  | .secondsExpiry t => Sys2Proof.Machine.execSecondsExpiry t s
  | .holdLimitExpiry t => Sys2Proof.Machine.execHoldLimitExpiry t s
  | .entrySilent t => Sys2Proof.Machine.execEntrySilent t s
  | .clashCountExpiry t => Sys2Proof.Machine.execClashCountExpiry t s
  | .refreshCountExpiry t => Sys2Proof.Machine.execRefreshCountExpiry t s
  | .markCountExpiry t => Sys2Proof.Machine.execMarkCountExpiry t s
  | .countPeriodExpiry t => Sys2Proof.Machine.execCountPeriodExpiry t s
  | .silenceCountExpiry t => Sys2Proof.Machine.execSilenceCountExpiry t s
  | .countSilenceExpiry t => Sys2Proof.Machine.execCountSilenceExpiry t s
  | .messageDurationExpiry t => Sys2Proof.Machine.execMessageDurationExpiry t s
  | .endOfPlan t => Sys2Proof.Machine.execEndOfPlan t s
  | .overtimeLimit t => Sys2Proof.Machine.execOvertimeLimit t s
  | .dormantCountExpiry t => Sys2Proof.Machine.execDormantCountExpiry t s
  | .flashPhaseChange t => Sys2Proof.Machine.execFlashPhaseChange t s
  | .pictureRefresh t => Sys2Proof.Machine.execPictureRefresh t s
  | .pictureSent t => Sys2Proof.Machine.execPictureSent t s
  | .pageTimerExpiry t => Sys2Proof.Machine.execPageTimerExpiry t s
  | .stepTimerExpiry t => Sys2Proof.Machine.execStepTimerExpiry t s
  | .holdSoundEnd t => Sys2Proof.Machine.execHoldSoundEnd t s
  | .raiseChirpEnd t => Sys2Proof.Machine.execRaiseChirpEnd t s
  | .lineIdle t => Sys2Proof.Machine.execLineIdle t s
  | .transmissionStart t => Sys2Proof.Machine.execTransmissionStart t s
  | .frameSent t => Sys2Proof.Machine.execFrameSent t s
  | .collision t => Sys2Proof.Machine.execCollision t s
  | .backoffEnd t => Sys2Proof.Machine.execBackoffEnd t s
  | .frameDropped t why => Sys2Proof.Machine.execFrameDropped t why s
  | .zoneStatus t frame => Sys2Proof.Machine.execZoneStatus t frame s
  | .timeMark t frame => Sys2Proof.Machine.execTimeMark t frame s
  | .count t frame => Sys2Proof.Machine.execCount t frame s
  | .message t frame => Sys2Proof.Machine.execMessage t frame s
  | .withdrawal t frame => Sys2Proof.Machine.execWithdrawal t frame s
  | .identify t frame => Sys2Proof.Machine.execIdentify t frame s
  | .readRecord t frame => Sys2Proof.Machine.execReadRecord t frame s
  | .markCollected t frame => Sys2Proof.Machine.execMarkCollected t frame s
  | .badRequest t frame => Sys2Proof.Machine.execBadRequest t frame s
  | .reply t frame => Sys2Proof.Machine.execReply t frame s
  | .wakeActivity t => Sys2Proof.Machine.execWakeActivity t s
  | .wakeWindowExpiry t => Sys2Proof.Machine.execWakeWindowExpiry t s
  | .lineBusy t => Sys2Proof.Machine.execLineBusy t s
  | .rstwActive t => Sys2Proof.Machine.execRstwActive t s
  | .supplyDisturbance t => Sys2Proof.Machine.execSupplyDisturbance t s

end Sys2Proof.Machine
end

