-- ==== Sys2Proof/Safety.lean ====
section
/-! DEFINITION. What a sound state of the board is: the laws the spec states of the state as a whole,
block by block, and `State.Ok`, all of them together. -/

namespace Sys2Proof.Machine

/-! ## Start-up and configuration -/

/-- While the board is in LOADING or HALTED every block holds the values of its start (R26, R41, R60,
R107, R126, R153, R168, R187). -/
abbrev State.AtRest (s : State) : Prop :=
  ¬ s.mode.awake →
    s.cfg = .blank ∧ s.calls = .initial ∧ s.sec = .initial ∧ s.clock = .initial ∧ s.pace = .initial ∧
    s.bus = .initial ∧ s.req = ⟨none, none⟩ ∧
    s.table = { ZoneTable.initial with starved := s.table.starved, blocked := s.table.blocked } ∧
    s.table.starved.flag = false ∧ s.table.blocked.flag = false ∧ s.att.readBack.flag = false ∧
    s.disp.store = [] ∧ s.disp.running = none ∧ s.disp.pending = none ∧
    s.disp.page = 1 ∧ s.disp.pageTimer = none ∧ s.disp.flash = false ∧
    s.disp.copies = { DispInputs.initial s.start.bpol with mode := s.mode, halt := s.start.halt }

/-- The configuration a board runs with passed the checks of R189. -/
abbrev Cfg.Ok (c : Cfg) : Prop :=
  1 ≤ c.zone ∧ c.zone ≤ 64 ∧ 1 ≤ c.nS ∧ c.nS ≤ 8 ∧ 1 ≤ c.section_ ∧ c.section_ ≤ c.nS ∧
  c.roles.coherent = true ∧ c.groups.length ≤ 3 ∧ (∀ g ∈ c.groups, 1 ≤ g ∧ g ≤ 15) ∧
  c.inputMap.length = 20 ∧ (∀ x ∈ c.inputMap, ∀ y ∈ x, 1 ≤ y.station ∧ y.station ≤ 12) ∧
  (∀ k ∈ [c.quality, c.material, c.equipment], 10 ≤ k.limit ∧ k.limit ≤ 1800) ∧
  1 ≤ c.refresh ∧ c.refresh ≤ 10 ∧ 1 ≤ c.pitches ∧ c.pitches ≤ 8 ∧ 8 ≤ c.ppp ∧ c.ppp ≤ 64 ∧
  c.offsets.length = 12 ∧ (∀ o ∈ c.offsets, o < c.zoneLength) ∧
  1 ≤ c.stopMin ∧ c.stopMin ≤ 10 ∧ 2 ≤ c.holdResponse ∧ c.holdResponse ≤ 30 ∧
  1 ≤ c.carSpacing ∧ c.carSpacing ≤ 10 ∧ 200 ≤ c.defaultTakt ∧ c.defaultTakt ≤ 9999 ∧
  (c.dormantOn = true → 5 ≤ c.dormantMinutes ∧ c.dormantMinutes ≤ 240)

/-- A board that has left LOADING without a halt runs with a checked configuration (R189, R190). -/
abbrev State.CfgOk (s : State) : Prop := s.mode.awake → s.cfg.Ok

/-! ## Call unit -/

/-- The hold output is asserted exactly when R20 says so. -/
abbrev State.HoldFollows (s : State) : Prop := s.out.hold = s.holdWanted

/-- One call record: its ranges, and remaining 0 exactly at the hold point (R6, R9, R10, R13). -/
abbrev Call.Ok (x : Call) : Prop :=
  1 ≤ x.station ∧ x.station ≤ 12 ∧ x.remaining ≤ 512 ∧ x.heldFor ≤ 65535 ∧
  (x.remaining = 0 ↔ x.state = .holding ∨ x.state = .overdue) ∧ (∀ y ∈ x.holdStart, y ≤ 57599) ∧
  (x.kind = .safety → x.state = .holding)

/-- The call list: at most 16 calls, no two of one cord, every SAFETY call HOLDING (R7, R10). -/
abbrev State.CallsOk (s : State) : Prop :=
  s.calls.list.length ≤ 16 ∧
  s.calls.list.Pairwise (fun x y => ¬ (x.station = y.station ∧ x.kind = y.kind)) ∧
  (∀ x ∈ s.calls.list, x.Ok) ∧ (∀ o ∈ s.calls.overflow, ∀ y ∈ o.setAt, y ≤ 57599) ∧
  s.calls.trackers.length = 20 ∧ s.pins.call.length = 20

/-- No call and no overflow hold stands in DORMANT, and in STANDBY the dormant count is 0 while one
stands (R25, R195). -/
abbrev State.DormantOk (s : State) : Prop :=
  (s.mode = .dormant → s.calls.list = [] ∧ s.calls.overflow = none) ∧
  (s.mode = .standby → (s.calls.list ≠ [] ∨ s.calls.overflow ≠ none) → s.start.dormantCount = 0)

/-! ## Section monitor -/

/-- The section monitor: ranges of window and run counter; a set encoder-fault flag has not seen 64
accepted pulses; no timer runs and no hold-fail flag stands in STOPPED; the stop-detect timer runs in
UNKNOWN and MOVING while ADV is sampled; the derived times are those of the current takt (R27, R28, R30
to R32, R34, R35). -/
abbrev State.SectionOk (s : State) : Prop :=
  s.sec.window.length ≤ 16 ∧ s.sec.run ≤ 64 ∧ (s.sec.encFault = true → s.sec.run < 64) ∧
  (s.sec.motion = .stopped →
    s.sec.stopTimer = none ∧ s.sec.holdTimer = none ∧ s.sec.holdFail = false) ∧
  (s.advSampled = true → s.sec.motion ≠ .stopped → s.sec.stopTimer ≠ none) ∧
  (s.running = true → s.sec.times = s.currentTimes) ∧
  (s.out.hold = false → s.sec.holdTimer = none ∧ s.sec.holdFail = false)

/-! ## Zone table -/

/-- One entry: its ranges, and a hold kind exactly under condition HOLD (R42). -/
abbrev PeerEntry.Ok (e : PeerEntry) : Prop :=
  1 ≤ e.zone ∧ e.zone ≤ 64 ∧ (e.holdKind.isSome ↔ e.condition = .hold) ∧ e.openCalls ≤ 16 ∧
  (∀ x ∈ e.holdStart, x ≤ 57599) ∧ e.shift ≤ 3 ∧ e.serial ≤ 255 ∧ e.actual ≤ 9999 ∧
  1 ≤ e.refresh ∧ e.refresh ≤ 10 ∧ e.age ≤ 255

/-- The zone table: ascending zones, none the board's own; a mirrored record only on a mirror and of its
own zone number; no clash on a mirror (R42, R43, R51, R52). -/
abbrev State.TableOk (s : State) : Prop :=
  s.table.entries.Pairwise (fun x y => x.zone < y.zone) ∧
  (∀ e ∈ s.table.entries, e.Ok ∧ e.zone ≠ s.cfg.zone) ∧
  (∀ e ∈ s.table.mirrored, e.Ok ∧ e.zone = s.cfg.zone ∧ s.mirror = true) ∧
  s.table.clashCount ≤ 60 ∧
  (s.table.clashMet ≠ none → s.table.clash = true ∧ s.table.clashCount = 0)

/-- The own zone record of a board that is awake and no mirror is the one its sources compose; a mirror
composes none (R53, R55). -/
abbrev State.OwnFollows (s : State) : Prop :=
  (s.mode.awake → s.mirror = false → s.table.own = s.ownRecord) ∧
  (s.mirror = true → s.table.own = .initial)

/-! ## Stop attributor and shift record store -/

/-- In SHIFT the current cause is the result of an evaluation over the inputs as they stand and is the
open interval's key; elsewhere there is no cause, and while awake no open interval (R64, R65, R71). -/
abbrev State.CauseFollows (s : State) : Prop :=
  (s.mode = .shift →
    s.att.cause = evaluate s.cfg s.attInputs ∧ s.ret.interval.map (fun i => i.key) = s.att.cause) ∧
  (s.mode ≠ .shift → s.att.cause = none ∧ (s.mode.awake → s.ret.interval = none))

/-- A shift record: ranges; no two entries of one key; at most 31 keyed entries; the OTHER entry only
when 31 keyed ones stand (R75, R76). -/
abbrev Record.Ok (r : Record) : Prop :=
  1 ≤ r.shift ∧ r.shift ≤ 3 ∧ r.version ≤ 65535 ∧ r.total < 4294967296 ∧
  r.raised.quality ≤ 65535 ∧ r.raised.material ≤ 65535 ∧ r.raised.equipment ≤ 65535 ∧
  r.raised.safety ≤ 65535 ∧
  r.holds.quality ≤ 255 ∧ r.holds.material ≤ 255 ∧ r.holds.equipment ≤ 255 ∧ r.holds.safety ≤ 255 ∧
  r.tally.Pairwise (fun x y => x.key ≠ y.key) ∧
  (∀ x ∈ r.tally, x.stops ≤ 65535 ∧ x.seconds < 4294967296) ∧
  keyedCount r.tally ≤ 31 ∧ (∀ x ∈ r.tally, x.key = otherKey → keyedCount r.tally = 31)

/-- The two records are sound, the closing pair stands in the last record only, and the open interval
has a key other than OTHER and seconds of 32 bits (R71, R75). -/
abbrev State.RecordsOk (s : State) : Prop :=
  (∀ r ∈ s.ret.current, r.Ok ∧ r.close = none) ∧ (∀ r ∈ s.ret.last, r.Ok ∧ r.close ≠ none) ∧
  (∀ i ∈ s.ret.interval, i.key.kind ≠ .other ∧ i.seconds < 4294967296)

/-! ## Shift clock and pace unit -/

/-- A current record stands exactly while a shift runs and bears its shift number and serial; an awake
board is in SHIFT exactly under shift 1..3; no interval is open without a current record (R75, R91,
R194). -/
abbrev State.ShiftOk (s : State) : Prop :=
  s.ret.shift ≤ 3 ∧ (s.ret.current.isSome ↔ s.ret.shift ≠ 0) ∧
  (∀ r ∈ s.ret.current, r.shift = s.ret.shift ∧ s.ret.serial = some r.serial) ∧
  (∀ x ∈ s.ret.serial, x ≤ 255) ∧
  (s.mode.awake → (s.mode = .shift ↔ s.ret.shift ≠ 0)) ∧
  (s.ret.interval.isSome → s.ret.current.isSome)

/-- The shift clock: ranges; s is 0 outside SHIFT; authority only with the reference role, a serial and
a valid time; a source that is the board itself bears its number, is never free and comes with authority;
each plan bears the flag that R103 gives it (R87, R89, R93, R94, R96, R103). -/
abbrev State.ClockOk (s : State) : Prop :=
  s.clock.s ≤ 57599 ∧ s.clock.pause ≤ 60 ∧ s.clock.silence ≤ 30 ∧
  (s.mode.awake → s.mode ≠ .shift → s.clock.s = 0) ∧
  (s.clock.authority = true →
    s.cfg.roles.reference = true ∧ s.ret.serial ≠ none ∧ s.clock.timeValid = true) ∧
  (s.clock.sourceOwn = true →
    s.clock.source = some s.cfg.zone ∧ s.clock.isFree = false ∧ s.clock.authority = true) ∧
  (∀ p ∈ [s.clock.plans.p1, s.clock.plans.p2, s.clock.plans.p3], p.usable = usableEntries p.entries)

/-- The pace unit of an awake board: plan data and T_end of the running shift, a peak exactly where T_end
is present and never above it, an actual in range that on a count point is the car counter (R109, R111,
R112, R114, R117). -/
abbrev State.PaceOk (s : State) : Prop :=
  s.ret.actual ≤ 9999 ∧ s.ret.car ≤ 9999 ∧ s.pace.silence ≤ 30 ∧
  (s.mode.awake →
    s.pace.plan = s.runningPlan ∧ s.pace.tEnd = tEndOf s.runningPlan ∧
    (s.ret.peak.isSome ↔ s.pace.tEnd.isSome) ∧
    (∀ p ∈ s.ret.peak, ∀ e ∈ s.pace.tEnd, p ≤ e) ∧
    (s.cfg.roles.countPoint = true → s.ret.actual = s.ret.car) ∧
    (s.cfg.roles.countPoint = false → s.ret.car = 0))

/-! ## Display engine -/

/-- The message store: at most 8 messages, no two of one key, by priority, highest first (R147). -/
abbrev State.StoreOk (s : State) : Prop :=
  s.disp.store.length ≤ 8 ∧ s.disp.store.Pairwise (fun x y => x.key ≠ y.key) ∧
  s.disp.store.Pairwise (fun x y => y.priority ≤ x.priority) ∧
  (∀ m ∈ s.disp.store, m.priority ≤ 3 ∧ 1 ≤ m.text.length ∧ m.text.length ≤ 40)

/-- What is shown is what the rules make of the state as it stands: the picture, the beacon outputs and
the horn (R127 to R136). -/
abbrev State.ShownFollows (s : State) : Prop :=
  s.disp.picture = render s.dispInputs s.disp ∧
  s.out.bcnRed = beaconLevel s.dispInputs .red ∧ s.out.bcnAmb = beaconLevel s.dispInputs .amber ∧
  s.out.bcnGrn = beaconLevel s.dispInputs .green ∧
  s.out.horn = (s.running && s.calls.hornRequested)

/-! ## What is shown, element by element -/

/-- The lamp of a station in a list of calls: steady red while one of its calls is HOLDING, else flashing
red for OVERDUE, steady amber for OPEN, flashing amber for ANSWERED, else off (R130). -/
abbrev lampShown (calls : List Call) (flash : Bool) (station : Nat) : Option Colour :=
  let has (x : CallState) : Bool := calls.any (fun c => c.station = station && c.state = x)
  if has .holding then some .red
  else if has .overdue then (if flash then some .red else none)
  else if has .opened then some .amber
  else if has .answered then (if flash then some .amber else none)
  else none

/-- The twelve lamps, dark outside STANDBY and SHIFT (R128, R130). -/
abbrev State.LampsShown (s : State) : Prop :=
  s.disp.picture.lamps.length = 12 ∧
  ∀ i, i < 12 → s.disp.picture.lamps[i]? =
    some (if s.running = true then lampShown s.calls.list s.disp.flash (i + 1) else none)

/-- The beacon: red under HOLD, amber under CALL, green under RUN in SHIFT while MOVING, else off; on a
mirror by the LIVE mirrored record. A colour that shows drives its output high where BPOL was low, and low
where it was high (R128, R131, R191). -/
abbrev State.BeaconShown (s : State) : Prop :=
  let condition :=
    if s.mirror = true then (s.liveMirrored.map (fun e => e.condition)).getD .run else s.zoneCondition
  let moving :=
    if s.mirror = true then s.liveMirrored.any (fun e => e.motion = .moving)
    else s.sec.motion = .moving
  let lit (x : Colour) : Bool := s.running &&
    match x with
    | .red => condition = .hold
    | .amber => condition = .call
    | .green => condition = .run && s.mode = .shift && moving
  s.out.bcnRed = (lit .red != s.start.bpol) ∧ s.out.bcnAmb = (lit .amber != s.start.bpol) ∧
  s.out.bcnGrn = (lit .green != s.start.bpol)

/-- The horn sounds in STANDBY and SHIFT while a part of the horn request is present (R23, R132). -/
abbrev State.HornShown (s : State) : Prop :=
  s.out.horn = true ↔
    s.running = true ∧
    ((∃ x ∈ s.calls.list, x.kind = .safety) ∨ (∃ o ∈ s.calls.overflow, o.kind = .safety) ∨
      s.calls.holdSound ≠ none ∨ s.calls.chirp ≠ none)

/-- A figure that depends on the plan, without a peak: dashes with no shift, PLAN in one (R123). -/
abbrev State.withoutPeak (s : State) : FieldView :=
  if s.ret.shift = 0 then .dashes else .shown (ascii "PLAN")

/-- A number right-aligned in a field of `width` places (R133). -/
abbrev rightAligned (width n : Nat) : FieldView :=
  .shown (List.replicate (width - (decimal n).length) (byteOf 32) ++ decimal n)

/-- The digit fields in SHIFT (R106, R118, R119, R121 to R123, R133), their places as log 29 has them. -/
abbrev State.DigitsInShift (s : State) : Prop :=
  let a := s.ret.actual
  let tEnd := s.pace.tEnd.getD 0
  let pastL : Bool := s.pace.plan.any (fun p => p.usable && lengthOf p.entries ≤ s.clock.s)
  s.disp.picture.actual = rightAligned 4 (min a 9999) ∧
  (s.ret.peak = none →
    s.disp.picture.target = s.withoutPeak ∧ s.disp.picture.gap = .dashes ∧
    s.disp.picture.pace = s.withoutPeak ∧ s.disp.picture.projected = s.withoutPeak) ∧
  (∀ p ∈ s.ret.peak,
    s.disp.picture.target = rightAligned 4 (min p 9999) ∧
    (a = p → s.disp.picture.gap = .shown (ascii "   0")) ∧
    (p < a → s.disp.picture.gap = .shown (ascii "+" ++ padLeft 3 (decimal (min (a - p) 999)))) ∧
    (a < p → s.disp.picture.gap = .shown (ascii "-" ++ padLeft 3 (decimal (min (p - a) 999)))) ∧
    (p = 0 → s.disp.picture.pace = .dashes) ∧
    (0 < p → s.disp.picture.pace = .shown (padLeft 5
      (decimal (min (a * 1000 / p) 1999 / 10) ++ ascii "." ++
        decimal (min (a * 1000 / p) 1999 % 10)))) ∧
    s.disp.picture.projected = rightAligned 4 (min 9999
      (if pastL = true then a else if 10 ≤ p then a * tEnd / p else tEnd))) ∧
  (s.pace.downtime = none → s.disp.picture.down = .dashes) ∧
  (∀ d ∈ s.pace.downtime, s.disp.picture.down = rightAligned 3 (min (d / 60) 999)) ∧
  (s.clock.timeValid = false ∨ s.usablePlan = none → s.disp.picture.clock = .dashes) ∧
  (∀ p ∈ s.usablePlan, s.clock.timeValid = true →
    let m := (startOfDay p.entries + s.clock.s / 60) % 1440
    s.disp.picture.clock = .shown (twoDigits (m / 60) ++ ascii ":" ++ twoDigits (m % 60)))

/-- The digit fields by mode: dark in LOADING and DORMANT, the halt code in TARGET in HALTED, dashes in
STANDBY, figures in SHIFT (R128, R133). -/
abbrev State.DigitsShown (s : State) : Prop :=
  let p := s.disp.picture
  (s.mode = .loading ∨ s.mode = .dormant → p = .dark) ∧
  (s.mode = .halted → ∀ c ∈ s.start.halt,
    p = { Picture.dark with target := .shown (match c with
      | .e1 => ascii "E1  " | .e2 => ascii "E2  " | .e3 => ascii "E3  "
      | .e4 => ascii "E4  " | .e5 => ascii "E5  " | .e6 => ascii "E6  ") }) ∧
  (s.mode = .standby →
    p.target = .dashes ∧ p.actual = .dashes ∧ p.gap = .dashes ∧ p.pace = .dashes ∧
    p.projected = .dashes ∧ p.down = .dashes ∧ p.clock = .dashes) ∧
  (s.mode = .shift → s.DigitsInShift)

/-- The indicators in STANDBY and SHIFT (R134). -/
abbrev State.IndicatorsShown (s : State) : Prop :=
  s.running = true →
    s.disp.picture.indicators.bus = s.bus.trouble ∧
    s.disp.picture.indicators.time = !s.clock.timeValid ∧
    (s.disp.picture.indicators.plan = true ↔ s.mode = .shift ∧ s.usablePlan = none) ∧
    s.disp.picture.indicators.clash = s.table.clash ∧
    s.disp.picture.indicators.enc =
      (if s.mirror = true then s.liveMirrored.any (fun e => e.encFault) else s.sec.encFault) ∧
    s.disp.picture.indicators.holdFail =
      (if s.mirror = true then s.liveMirrored.any (fun e => e.holdFail) else s.sec.holdFail)

/-- A line of the stop list ranks no later than another: by hold start, absent last, then by zone
(R135). -/
abbrev ranked (x y : Candidate) : Prop :=
  match x.start, y.start with
  | some a, some b => a < b ∨ (a = b ∧ x.zone ≤ y.zone)
  | some _, none => True
  | none, some _ => False
  | none, none => x.zone ≤ y.zone

/-- The stop list of STANDBY and SHIFT: every holding zone the board knows of, in its order, three lines a
page, with label and elapsed time (R46, R135 to R137). -/
abbrev State.StopListShown (s : State) : Prop :=
  s.running = true →
    (∀ x, x ∈ s.stopLines ↔
      x ∈ s.ownCandidate ∨
      ∃ e ∈ s.table.entries, e.live = true ∧ e.condition = .hold ∧ e.holdKind = some x.kind ∧
        x.zone = e.zone ∧
        x.start = if e.shift = s.ret.shift ∧ s.ret.serial = some e.serial then e.holdStart else none) ∧
    s.stopLines.Pairwise ranked ∧
    s.disp.picture.stopList = ((s.stopLines.drop (3 * (s.disp.page - 1))).take 3).map (fun h =>
      ⟨h.zone,
        (match h.kind with
          | .quality => ascii "QUA" | .material => ascii "MAT"
          | .equipment => ascii "EQP" | .safety => ascii "SAF"),
        (match h.start with
          | some y =>
            if s.mode = .shift ∧ s.clock.timeValid = true then
              twoDigits (min (s.clock.s - y) 5999 / 60) ++ ascii ":" ++
                twoDigits (min (s.clock.s - y) 5999 % 60)
            else ascii "--:--"
          | none => ascii "--:--")⟩)

/-- The window of the text line in STANDBY and SHIFT: 20 places of the running item's text from its
position on, spaces beyond it, a block for a code outside 20h..7Eh; dark when no item runs (R138). -/
abbrev State.WindowShown (s : State) : Prop :=
  s.running = true →
    (s.disp.running = none → s.disp.picture.text = none) ∧
    (∀ r ∈ s.disp.running, ∃ places, s.disp.picture.text = some places ∧ places.length = 20 ∧
      ∀ i : Nat, i < 20 →
        (∀ (j : Nat) (c : Byte), r.p + (i : Int) = (j : Int) → r.text[j]? = some c →
          places[i]? = some (if 0x20 ≤ c.toNat ∧ c.toNat ≤ 0x7E then .char c else .block)) ∧
        (r.p + (i : Int) < 0 ∨ (r.text.length : Int) ≤ r.p + (i : Int) →
          places[i]? = some (.char (byteOf 32))))

/-- Everything the board shows, element by element (R128, R130 to R138). -/
abbrev State.ShownByRules (s : State) : Prop :=
  s.LampsShown ∧ s.BeaconShown ∧ s.HornShown ∧ s.DigitsShown ∧ s.IndicatorsShown ∧ s.StopListShown ∧
  s.WindowShown

/-- The target peak of a shift just begun at second `x`: T(x) under a usable plan, else absent (R112,
R125). -/
abbrev PlanStore.freshPeak (ps : PlanStore) (shift x : Nat) : Option Nat :=
  match ps.get shift with
  | some p => if p.usable = true then some (targetAt p.entries x) else none
  | none => none

/-! ## Bus controller and request server -/

/-- A slot: c in 0..7, and nothing held while EMPTY (R156). -/
abbrev Slot.Ok (x : Slot) : Prop :=
  x.c ≤ 7 ∧ (x.state = .empty → x.c = 0) ∧ (x.state ≠ .sending → x.remark = false)

/-- The transmit slots and the replies they carry: a slot is SENDING exactly during an attempt of its
own; the waiting reply stands exactly while REPLY is PENDING or re-marked, the reply in flight exactly
while REPLY is SENDING; the receiver is armed only in STANDBY and SHIFT and never while the board
transmits; an attempt in hand in DORMANT bears that the board has slept (R156, R163, R168, R180,
R185). -/
abbrev State.SlotsOk (s : State) : Prop :=
  (∀ i ∈ [SlotId.reply, .status, .count, .time],
    (s.bus.slot i).Ok ∧ ((s.bus.slot i).state = .sending ↔ s.bus.tx.map (fun x => x.slot) = some i)) ∧
  (s.req.waiting.isSome ↔ s.bus.reply.state = .pending ∨ s.bus.reply.remark = true) ∧
  (s.req.inFlight.isSome ↔ s.bus.reply.state = .sending) ∧
  (s.mode = .dormant → s.bus.reply.remark = false) ∧
  (s.bus.armed = true → s.running = true ∧ s.bus.tx = none) ∧
  (s.mode = .dormant → ∀ x ∈ s.bus.tx, x.slept = true) ∧
  (∀ x ∈ s.bus.tx, x.start ≤ s.now)

/-- The random generator's state is never 0, and it is seeded while the board is awake (R161). -/
abbrev State.GeneratorOk (s : State) : Prop :=
  s.bus.rng ≠ some 0 ∧ (s.mode.awake → s.bus.rng ≠ none)

/-- A mirror board never transmits, holds, calls, judges motion of its own or composes an own zone record
(R21, R23, R39, R53, R156, R166). -/
abbrev State.MirrorQuiet (s : State) : Prop :=
  s.mirror = true →
    s.bus.tx = none ∧ s.bus.jam = none ∧ s.bus.backoff = none ∧ s.bus.trouble = false ∧
    s.bus.reply.state = .empty ∧ s.bus.status.state = .empty ∧ s.bus.count.state = .empty ∧
    s.bus.time.state = .empty ∧ s.req.waiting = none ∧
    s.calls.list = [] ∧ s.calls.overflow = none ∧ s.calls.holdSound = none ∧ s.calls.chirp = none ∧
    s.out.hold = false ∧ s.out.horn = false ∧
    s.sec.motion = .unknown ∧ s.sec.window = [] ∧ s.sec.encFault = false ∧ s.sec.holdFail = false ∧
    s.table.clash = false ∧ s.table.own = .initial ∧ s.clock.authority = false

/-! ## What the text line runs -/

/-- The steps of a SETTLE item of `n` characters (R139). -/
abbrev settleSteps (n : Nat) : Nat := (n - 20) + 29

/-- `r` is the run of an item that starts in `u`, at its first position (R138 to R142). -/
abbrev State.StartsItem (u : State) (x : Item) (r : Option Running) : Prop :=
  match x with
  | .stopBanner => ∃ k ∈ u.att.cause,
      r = some ⟨.stopBanner, .settle, stopText k, -20, settleSteps (stopText k).length, u.now + 250000⟩
  | .breakBanner => ∃ n ∈ u.breakRemaining,
      r = some ⟨.breakBanner, .settle, breakText n, -20, settleSteps (breakText n).length, u.now + 250000⟩
  | .message k => ∃ m, findMessage u.disp.store k = some m ∧
      r = some ⟨.message k, m.style, m.text, if m.style = .fixed then 0 else -20,
        (match m.style with
          | .fixed => 20
          | .crawl => m.text.length + 20
          | .settle => settleSteps m.text.length),
        u.now + 250000⟩
  | .alert => False

/-- What R140 chooses in `u` when an item ended: the message `pending` if it is in the store, else `next`,
which stands after the item that ended, else the first of the rotation; with none of them the line is
dark. -/
abbrev State.RunsNext (u : State) (pending : Option MsgKey) (next : Option Item) : Prop :=
  (∀ k ∈ pending, findMessage u.disp.store k ≠ none →
    u.StartsItem (.message k) u.disp.running ∧ u.disp.pending = none) ∧
  ((∀ k ∈ pending, findMessage u.disp.store k = none) →
    u.disp.pending = pending ∧
    (match next.or u.rotation.head? with
      | some x => u.StartsItem x u.disp.running
      | none => u.disp.running = none))

/-- The first message in store order (R140). -/
abbrev State.firstMessage (u : State) : Option Item := u.disp.store.head?.map (fun m => .message m.key)

/-- The alert of a hold of kind `k` (R144), started at moment `now`. -/
abbrev alertRun (zone : Nat) (k : CallKind) (now : Time) : Running :=
  ⟨.alert, .settle, alertText zone k, -20, settleSteps (alertText zone k).length, now + 250000⟩

/-- How the text line of `u` follows from that of `b` at the end of a command: a hold start event starts
its alert; otherwise a banner takes its new text in place, or gives way when it is no longer present, an
idle line takes up what the rotation holds, and an alert or a message runs on (R140 to R144). -/
abbrev State.TextFollows (b u : State) : Prop :=
  let asserted := b.out.hold = false ∧ b.holdWanted = true
  let same := u.disp.running = b.disp.running ∧ u.disp.pending = b.disp.pending
  (b.running = false → same) ∧
  (asserted → ∃ h ∈ b.ownHolder, u.disp.running = some (alertRun b.cfg.zone h.kind b.now) ∧
    u.disp.pending = b.disp.pending) ∧
  (b.running = true → ¬ asserted →
    (b.disp.running = none → u.RunsNext b.disp.pending none) ∧
    (∀ r ∈ b.disp.running,
      match r.item with
      | .stopBanner =>
        (∀ k ∈ u.att.cause,
          u.disp.running = some { r with text := stopText k } ∧ u.disp.pending = b.disp.pending) ∧
        (u.att.cause = none → u.RunsNext b.disp.pending
          (if u.breakRemaining.isSome then some .breakBanner else u.firstMessage))
      | .breakBanner =>
        (∀ n ∈ u.breakRemaining,
          u.disp.running = some { r with text := breakText n } ∧ u.disp.pending = b.disp.pending) ∧
        (u.breakRemaining = none → u.RunsNext b.disp.pending u.firstMessage)
      | .alert => same
      | .message _ => same))

/-- How the text line of `v` follows from that of `b` when the messages of the keys `gone` have left the
store: one of them that was running is aborted, and the next item is chosen by what stood behind it; one
that was pending is pending no more (R140 case 4, R143, R150). -/
abbrev State.TextAfterLeaving (b v : State) (gone : MsgKey → Bool) : Prop :=
  let pending := b.disp.pending.filter (fun k => !gone k)
  (∀ r k i m, b.disp.running = some r → r.item = .message k → gone k = true →
    b.disp.store[i]? = some m → m.key = k →
    v.RunsNext pending (((b.disp.store.drop (i + 1)).find? (fun x =>
      v.disp.store.any (fun y => y.key = x.key))).map (fun x => .message x.key))) ∧
  ((∀ r k, b.disp.running = some r → r.item = .message k → gone k = false) →
    v.disp.running = b.disp.running ∧ v.disp.pending = pending)

/-! ## What the end of a command may change -/

/-- How the display link of `u` follows from that of `b` when the picture is drawn once between them:
outside LOADING a picture that has changed is sent at once, or follows the one being sent; an unchanged
one leaves the link as it was (R129). -/
abbrev State.LinkFollows (b u : State) : Prop :=
  (u.disp.picture = b.disp.picture ∨ u.mode = .loading → u.disp.link = b.disp.link) ∧
  (u.disp.picture ≠ b.disp.picture → u.mode ≠ .loading →
    (b.disp.link.sending = none →
      u.disp.link = { b.disp.link with sending := some u.disp.picture }) ∧
    (b.disp.link.sending ≠ none → u.disp.link = { b.disp.link with again := true }))

/-- `u` is `b` after every block has followed it (the end of a command, log 10): the hold output, the
section monitor's derived times and what follows from them, the own zone record with the STATUS slot,
the attributor with the open interval and the record it is closed into, the downtime figure, the text
line, the stop-list page, the copies, the picture with the display link and the outputs may have changed,
and nothing else. -/
abbrev State.FollowedFrom (b u : State) : Prop :=
  u.pending = b.pending ∧ u.now = b.now ∧ u.mode = b.mode ∧ u.cfg = b.cfg ∧ u.pins = b.pins ∧
  u.calls = b.calls ∧ u.clock = b.clock ∧ u.req = b.req ∧
  u.sec = { b.sec with
    times := u.sec.times, gapChange := u.sec.gapChange, motion := u.sec.motion
    stopTimer := u.sec.stopTimer, holdTimer := u.sec.holdTimer, holdFail := u.sec.holdFail } ∧
  (b.sec.times = b.currentTimes ∨ b.running = false →
    u.sec.motion = b.sec.motion ∧ u.sec.times = b.sec.times ∧ u.sec.gapChange = b.sec.gapChange ∧
    u.sec.stopTimer = b.sec.stopTimer ∧
    (b.out.hold = b.holdWanted → u.sec = b.sec)) ∧
  u.table = { b.table with own := u.table.own } ∧
  u.bus = { b.bus with
    status :=
      if u.table.own = b.table.own ∨ b.running = false ∨ b.mirror = true then b.bus.status
      else b.bus.status.mark } ∧
  u.att.readBack = b.att.readBack ∧
  u.ret = { b.ret with interval := u.ret.interval, current := u.ret.current } ∧
  (b.mode ≠ .shift ∨ u.ret.interval.map (fun i => i.key) = b.ret.interval.map (fun i => i.key) →
    u.ret = b.ret) ∧
  u.ret.current.map (fun r => (r.raised, r.holds)) = b.ret.current.map (fun r => (r.raised, r.holds)) ∧
  (u.ret = b.ret → u.check = b.check) ∧ (u.ret ≠ b.ret → u.check = checkWordOf u.ret) ∧
  u.pace = { b.pace with downtime := u.pace.downtime } ∧
  u.disp.store = b.disp.store ∧ u.disp.flash = b.disp.flash ∧ u.disp.flashDue = b.disp.flashDue ∧
  b.TextFollows u ∧ b.LinkFollows u ∧
  u.start = { b.start with dormantCount := u.start.dormantCount } ∧
  (u.start.dormantCount = b.start.dormantCount ∨ u.start.dormantCount = 0)

/-- `u` is `b` with only what is shown redrawn: the display's copies, picture and link, the beacon
outputs and the horn. -/
abbrev State.RedrawnFrom (b u : State) : Prop :=
  u = { b with
    disp := { b.disp with copies := u.disp.copies, picture := u.disp.picture, link := u.disp.link }
    out := { u.out with hold := b.out.hold } } ∧
  b.LinkFollows u

/-- Nothing is outstanding from the last seconds expiry: no limit that a command of its own acts on has
been reached (log 3). -/
abbrev State.Quiet (s : State) : Prop :=
  (s.running = true → ∀ x ∈ s.calls.list, s.cfg.timedOut x = false) ∧
  (s.mode.awake = true → ∀ e ∈ s.table.entries, e.overdue = false) ∧
  (s.mode.awake = true → ∀ e ∈ s.table.mirrored, e.overdue = false) ∧
  (s.mode.awake = true → s.table.clash = true → s.table.clashCount < 60) ∧
  (s.running = true → s.table.refreshCount < s.cfg.refresh) ∧
  (s.running = true → s.clock.authority = true → s.clock.markCount < 10) ∧
  (s.running = true → s.cfg.roles.countPoint = true → s.ret.serial ≠ none → s.pace.period < 10) ∧
  (s.mode.awake = true → s.sourceIsOther = true → s.clock.silence < 30 ∨ s.clock.sourceFree = true) ∧
  (s.mode.awake = true → s.pace.source ≠ none → s.pace.silence < 30 ∨ s.pace.sourceFree = true) ∧
  (s.mode.awake = true → ∀ m ∈ s.disp.store, m.remaining ≠ 0) ∧
  s.overtimeReached = false ∧ s.dormantReached = false

/-! ## What commands find and leave -/

/-- The qualify time of input `i` expires at `b` with a pull that is counted (R2). -/
abbrev Counted (b : State) (i : InputId) : Prop :=
  b.calls.trackers.length = 20 ∧ b.sampled i = true ∧ (b.tracker i).qualified b.now = true ∧
  (b.tracker i).counts b.now = true

/-- The bytes are a valid frame with these contents, and the receiver of a running board is armed
(R163). -/
abbrev Taken (b : State) (frame : List Byte) (kind sender target : Nat) (p : List Byte) : Prop :=
  b.running = true ∧ b.bus.armed = true ∧ parseFrame frame = some ⟨kind, sender, target, p⟩

/-- What the end of a reception leaves: the receiver disarmed until the next gap (R163). -/
abbrev Disarmed (b : State) : State :=
  b.setBus { b.bus with armed := false, idle := false, gapFrom := max b.bus.gapFrom b.now }

/-- What a boundary leaves of the car counter, the time of the last counted car-out edge, the COUNT slot and
the count period: a counter above 0 returns to 0, which is a change that marks COUNT and sets the period to
0 (R36, R37, R124); a counter of 0 does not change, the model's reading (log 22). -/
abbrev State.CounterReturns (b u : State) : Prop :=
  u.ret.car = 0 ∧ u.sec.lastCar = none ∧
  u.bus.count = (if b.ret.car = 0 then b.bus.count else b.bus.count.mark) ∧
  u.pace.period = (if b.ret.car = 0 then b.pace.period else 0)

/-- The reply `status body` to a request of tag `tag` from `sender`, handed to the REPLY slot of `b`: it
becomes the waiting reply, the slot PENDING with c = 0, or re-marked while SENDING (R156, R176, R185). -/
abbrev Replied (b u : State) (sender : Nat) (tag : Nat) (status : Nat) (body : List Byte) : Prop :=
  u = (b.setBus { b.bus with reply :=
      (match b.bus.reply.state with
        | .sending => { b.bus.reply with remark := true }
        | .pending => ⟨.pending, 0, b.bus.reply.remark⟩
        | .empty => ⟨.pending, 0, false⟩) }).setReq
    ⟨some ⟨sender, [byteOf tag, byteOf status] ++ body⟩, b.req.inFlight⟩

/-! ## All together -/

/-- A sound state: every law of the spec about the state as a whole. -/
structure State.Ok (s : State) : Prop where
  atRest : s.AtRest
  cfgOk : s.CfgOk
  holdFollows : s.HoldFollows
  callsOk : s.CallsOk
  dormantOk : s.DormantOk
  sectionOk : s.SectionOk
  tableOk : s.TableOk
  ownFollows : s.OwnFollows
  causeFollows : s.CauseFollows
  recordsOk : s.RecordsOk
  shiftOk : s.ShiftOk
  clockOk : s.ClockOk
  paceOk : s.PaceOk
  storeOk : s.StoreOk
  shownFollows : s.ShownFollows
  slotsOk : s.SlotsOk
  generatorOk : s.GeneratorOk
  mirrorQuiet : s.MirrorQuiet

end Sys2Proof.Machine
end

