-- ==== Sys2Proof/Certificates/Slice0/Obligations.lean ====
section
/-! DEFINITION. The statements for the provers. `b` is the board as the command finds it: what the last
seconds expiry left outstanding done, and time moved on (`State.begin_`, log 3); `State.FollowedFrom`
names what the blocks that follow a command may change beside what its statement gives. -/

open Sys2Proof Sys2Proof.Machine

/-! ## The block as a whole -/

/-- One step runs the command at the front of the queue on the state with the queue's rest. With no
command waiting a step leaves the board as it is: that clause is the model's choice (log 4). -/
def Obligations.StepRunsFrontCommand : Prop :=
  ∀ (c : Instr) (rest : List Instr) (s : State),
    (s.pending = c :: rest → step s = exec c (s.setPending rest)) ∧
    (s.pending = [] → step s = .next s)

/-- The values that the chapters give for a power-on (R26, R41, R60, R85, R107, R126, R153, R168, R180,
R188, R193); fields the spec gives no value are not named here (log 5, 6). -/
def Obligations.ResetValues : Prop :=
  State.reset.pending = [] ∧ State.reset.mode = .loading ∧
  State.reset.calls.list = [] ∧ State.reset.calls.overflow = none ∧
  State.reset.calls.trackers = List.replicate 20 ⟨.armed, none⟩ ∧
  State.reset.calls.clr = ⟨.armed, none⟩ ∧ State.reset.calls.holdSound = none ∧
  State.reset.calls.chirp = none ∧ State.reset.out.hold = false ∧ State.reset.out.horn = false ∧
  State.reset.sec.motion = .unknown ∧ State.reset.sec.lastPulse = none ∧
  State.reset.sec.window = [] ∧ State.reset.sec.run = 0 ∧ State.reset.sec.encFault = false ∧
  State.reset.sec.stopTimer = none ∧ State.reset.sec.holdTimer = none ∧
  State.reset.sec.holdFail = false ∧ State.reset.sec.lastCar = none ∧ State.reset.ret.car = 0 ∧
  State.reset.table.entries = [] ∧ State.reset.table.mirrored = none ∧
  State.reset.table.clash = false ∧ State.reset.table.clashCount = 0 ∧
  State.reset.table.starved.flag = false ∧ State.reset.table.blocked.flag = false ∧
  State.reset.table.refreshCount = 0 ∧ State.reset.table.restarted = true ∧
  State.reset.ret.current = none ∧ State.reset.ret.last = none ∧ State.reset.ret.interval = none ∧
  State.reset.att.cause = none ∧ State.reset.att.carried = none ∧
  State.reset.att.readBack.flag = false ∧
  State.reset.ret.shift = 0 ∧ State.reset.ret.serial = none ∧ State.reset.clock.s = 0 ∧
  State.reset.clock.timeValid = false ∧ State.reset.clock.source = none ∧
  State.reset.clock.sourceOwn = false ∧
  State.reset.clock.silence = 0 ∧ State.reset.clock.authority = false ∧
  State.reset.clock.pause = 0 ∧ State.reset.clock.markCount = 0 ∧
  State.reset.pace.plan = none ∧ State.reset.pace.tEnd = none ∧ State.reset.ret.peak = none ∧
  State.reset.ret.actual = 0 ∧ State.reset.pace.source = none ∧ State.reset.pace.silence = 0 ∧
  State.reset.pace.period = 0 ∧ State.reset.pace.downtime = none ∧
  State.reset.disp.store = [] ∧ State.reset.disp.running = none ∧ State.reset.disp.pending = none ∧
  State.reset.disp.page = 1 ∧ State.reset.disp.pageTimer = none ∧ State.reset.disp.flash = false ∧
  State.reset.disp.copies = .initial false ∧ State.reset.disp.link.sending = some .dark ∧
  State.reset.bus.reply = ⟨.empty, 0, false⟩ ∧ State.reset.bus.status = ⟨.empty, 0, false⟩ ∧
  State.reset.bus.count = ⟨.empty, 0, false⟩ ∧ State.reset.bus.time = ⟨.empty, 0, false⟩ ∧
  State.reset.bus.backoff = none ∧ State.reset.bus.trouble = false ∧ State.reset.bus.armed = false ∧
  State.reset.bus.wake = .off ∧ State.reset.bus.rng = none ∧
  State.reset.req.waiting = none ∧ State.reset.req.inFlight = none ∧ State.reset.start.halt = none ∧
  State.reset.check = checkWordOf State.reset.ret

/-- The state after power-on meets every law of `State.Ok`; the fields to which the spec gives no reset
value by the model's choice (log 5, 6). -/
def Obligations.ResetIsSound : Prop := State.reset.Ok

/-- Handing on at the end of a command: what it may change, and that afterwards the hold output, the own
zone record, the cause with the open interval, the derived times and what is shown are those their rules
give for the state as it then stands (R20, R27, R55, R64, R71, R127); a new stop-detect time that has
already passed stops the section at once (R28), the first interval of the carried key opens charged (R84),
the old interval is closed into the record (R77), the stop-list pages follow the rebuilt list (R137), and a
picture that has changed is put on the display link, an unchanged one not (R129).
The order of the blocks (log 10), and that at the very moment of the new expiry nothing stops yet (log 11),
is the model's choice. -/
def Obligations.EndOfCommand : Prop :=
  ∀ b : State,
    let u := b.finish
    let pages := (u.stopLines.length + 2) / 3
    b.FollowedFrom u ∧ u.HoldFollows ∧
    (b.mode.awake = true → b.mirror = false → u.table.own = u.ownRecord) ∧
    (b.mode.awake = false ∨ b.mirror = true → u.table.own = b.table.own) ∧
    (b.mode = .shift →
      u.att.cause = evaluate u.cfg u.attInputs ∧ u.ret.interval.map (fun i => i.key) = u.att.cause ∧
      (b.ret.interval.map (fun i => i.key) ≠ u.att.cause →
        (∀ i ∈ b.ret.interval, u.ret.current = b.ret.current.map (fun r => r.close_ i)) ∧
        (b.ret.interval = none → u.ret.current = b.ret.current) ∧
        (∀ k ∈ u.att.cause,
          u.ret.interval = some ⟨k, 0, b.att.carried == some k⟩ ∧ u.att.carried = none))) ∧
    (u.ownMotion = .moving → u.att.carried = none) ∧
    (b.mode ≠ .shift → u.att.cause = none) ∧
    (b.running = true →
      u.sec.times = u.currentTimes ∧
      (b.sec.times ≠ b.currentTimes →
        (b.sec.motion ≠ .stopped → ∀ t ∈ b.sec.stopTimer,
          t + u.sec.times.stopDetect * 1000 < b.now →
          u.sec.motion = .stopped ∧ u.sec.stopTimer = none ∧ u.sec.holdTimer = none ∧
          u.sec.holdFail = false) ∧
        ((∀ t ∈ b.sec.stopTimer, b.now ≤ t + u.sec.times.stopDetect * 1000) →
          u.sec.motion = b.sec.motion ∧ u.sec.stopTimer = b.sec.stopTimer)) ∧
      (pages ≤ 1 → u.disp.page = 1 ∧ u.disp.pageTimer = none) ∧
      (2 ≤ pages → b.disp.pageTimer = none →
        u.disp.page = 1 ∧ u.disp.pageTimer = some (b.now + 4000000)) ∧
      (2 ≤ pages → b.disp.pageTimer ≠ none →
        u.disp.page = (if pages < b.disp.page then 1 else b.disp.page) ∧
        u.disp.pageTimer = b.disp.pageTimer)) ∧
    (b.mode.awake = true → u.pace.downtime = u.ret.downtime) ∧ u.ShownFollows ∧ b.LinkFollows u

/-- A command that finds nothing outstanding finds the board as it stood, at the command's moment, and
after what was outstanding is done nothing is outstanding: the model's split of a seconds expiry into
the expiry and the limits it brings (log 3). -/
def Obligations.SettlingLeavesNothing : Prop :=
  ∀ (t : Time) (s : State),
    (s.Quiet → s.begin_ t = s.setNow (max s.now t)) ∧
    (s.Ok → (s.begin_ t).Quiet ∧ (s.begin_ t).Ok)

/-! ## Laws that every step keeps -/

/-- LOADING and HALTED keep the values of a start, and a board that runs does so with a configuration
that passed the checks (R26, R41, R60, R107, R126, R153, R168, R189). What the fields that have no
reset value hold meanwhile is the model's choice: the derived times, configuration and plans (log 6) and
the line state (log 5); that the display's figures are those of a start also before a warm restart's area is
judged is its reading (log 39). -/
def Obligations.StepKeepsStartAndConfiguration : Prop :=
  ∀ s u : State, s.Ok → step s = .next u → u.AtRest ∧ u.CfgOk

/-- The hold output is asserted exactly when R20 says. -/
def Obligations.StepKeepsHoldOutput : Prop :=
  ∀ s u : State, s.Ok → step s = .next u →
    (u.out.hold = true ↔
      (u.mode = .standby ∨ u.mode = .shift) ∧ u.cfg.roles.mirror = false ∧
      ((∃ x ∈ u.calls.list, x.state = .holding) ∨ u.calls.overflow ≠ none))

/-- The call list keeps its laws, and no call stands in DORMANT (R6, R7, R9, R10, R25). -/
def Obligations.StepKeepsCallList : Prop :=
  ∀ s u : State, s.Ok → step s = .next u → u.CallsOk ∧ u.DormantOk

/-- The section monitor keeps its laws (R27, R28, R30, R31, R32, R34, R35). -/
def Obligations.StepKeepsSectionMonitor : Prop :=
  ∀ s u : State, s.Ok → step s = .next u → u.SectionOk

/-- The zone table keeps its laws, and the own zone record is the one its sources compose, none on a
mirror (R42, R43, R53, R55). When a clash frame meets the expiry that ends the count is told by a field
of the model (log 32). -/
def Obligations.StepKeepsZoneTable : Prop :=
  ∀ s u : State, s.Ok → step s = .next u → u.TableOk ∧ u.OwnFollows

/-- The cause is the evaluation's result over the inputs as they stand, and an interval of that key is
open exactly in SHIFT, STOPPED, outside every break (R64, R65, R71). -/
def Obligations.StepKeepsCauseAndInterval : Prop :=
  ∀ s u : State, s.Ok → step s = .next u →
    u.CauseFollows ∧
    (u.mode.awake = true →
      (u.ret.interval.isSome = true ↔
        u.mode = .shift ∧ u.ownMotion = .stopped ∧ u.inBreak = false))

/-- The shift records keep their laws: ranges, distinct keys, at most 31 keyed entries and the OTHER
entry only behind 31 of them (R75, R76). The check word follows every change of the retained area, and
agrees with it until a supply disturbance makes it differ (R83, R193); the bytes it is computed over are
laid out by the model (log 7). -/
def Obligations.StepKeepsShiftRecords : Prop :=
  ∀ s u : State, s.Ok → step s = .next u →
    u.RecordsOk ∧
    ((∀ t, s.pending.head? ≠ some (.supplyDisturbance t)) →
      (u.ret ≠ s.ret → u.check = checkWordOf u.ret) ∧
      (s.check = checkWordOf s.ret → u.check = checkWordOf u.ret))

/-- Mode, shift number, serial and current record agree, and the shift clock keeps its laws (R75, R87,
R89, R91, R96, R103, R194). -/
def Obligations.StepKeepsShiftAndClock : Prop :=
  ∀ s u : State, s.Ok → step s = .next u → u.ShiftOk ∧ u.ClockOk

/-- The pace unit keeps its laws, the peak never above T_end among them (R109, R112, R114, R117). -/
def Obligations.StepKeepsPaceUnit : Prop :=
  ∀ s u : State, s.Ok → step s = .next u → u.PaceOk

/-- The message store keeps its laws, picture, beacon and horn are those of the state as it stands, and
each element shows what its rule says: lamps, beacon, horn, digit fields, indicators, stop list and the
window of the text line (R127, R128, R130 to R138, R147). The single places of some fields are the
model's (log 29). -/
def Obligations.StepKeepsDisplay : Prop :=
  ∀ s u : State, s.Ok → step s = .next u → u.StoreOk ∧ u.ShownFollows ∧ u.ShownByRules

/-- Slots, replies and the random generator keep their laws (R156, R161, R180, R185). That a re-mark flag
is clear in DORMANT, and that an attempt bears whether the board has slept, is the model's reading
(log 16). -/
def Obligations.StepKeepsSlotsAndReplies : Prop :=
  ∀ s u : State, s.Ok → step s = .next u → u.SlotsOk ∧ u.GeneratorOk

/-- A mirror board never transmits, holds, sounds, calls or composes an own zone record (R39, R53, R156,
R166). -/
def Obligations.StepKeepsMirrorQuiet : Prop :=
  ∀ s u : State, s.Ok → step s = .next u → u.MirrorQuiet

/-- Within one shift number and serial of an awake board the adopted actual and the target peak never
decrease, whatever the step (R112, R117). -/
def Obligations.FiguresNeverDecrease : Prop :=
  ∀ s u : State, s.Ok → step s = .next u → s.mode.awake = true → u.mode.awake = true →
    u.ret.shift = s.ret.shift → u.ret.serial = s.ret.serial →
    s.ret.actual ≤ u.ret.actual ∧ u.ret.actual ≤ 9999 ∧
    (∀ p ∈ s.ret.peak, ∃ q, u.ret.peak = some q ∧ p ≤ q)

/-! ## Laws of the operations -/

/-- In a usable plan the productive seconds of a stretch are the whole seconds in it that lie in no break
(R110); the computed target does not decrease, is T_end from L on, and T_end is at most 2,160 (R111). -/
def Obligations.TargetOfUsablePlan : Prop :=
  ∀ (es : List PlanEntry) (lo hi s s' : Nat), usableEntries es = true → s ≤ s' →
    productive (breaksOf es) lo hi =
      ((List.range hi).filter (fun x => lo ≤ x && !(breakAt es x))).length ∧
    targetAt es s ≤ targetAt es s' ∧ targetAt es s' ≤ planTotal es ∧
    (lengthOf es ≤ s → targetAt es s = planTotal es) ∧ planTotal es ≤ 2160

/-- Closing an interval: its entry is found or created, under OTHER when 31 keyed entries stand; it takes
the seconds, and a stop unless the charged flag is set; every other entry stays; the version advances,
with the changed flag, exactly when the close changed the record; the interval is gone (R76 to R78). The
total stays the sum of the tally's seconds while it fits (R79); past 32 bits a sum is a free value
(log 8). The entries are said for intervals of 32 bits of seconds, which R71 gives. -/
def Obligations.CloseKeepsTotalEqualToTally : Prop :=
  ∀ (r : Record) (i : Interval),
    (r.total = (r.tally.map (fun e => e.seconds)).sum → r.total + i.seconds < 4294967296 →
      (r.close_ i).total = r.total + i.seconds ∧
      (r.close_ i).total = ((r.close_ i).tally.map (fun e => e.seconds)).sum) ∧
    (∀ area : Retained,
      ({ area with current := some r, interval := some i } : Retained).closeInterval =
        { area with current := some (r.close_ i), interval := none }) ∧
    (r.Ok → i.key ≠ ⟨0, 0, .other, .direct⟩ → i.seconds < 4294967296 →
      let u := r.close_ i
      let other : CauseKey := ⟨0, 0, .other, .direct⟩
      let keyed := (r.tally.filter (fun e => e.key ≠ other)).length
      let key := if (∃ e ∈ r.tally, e.key = i.key) ∨ keyed < 31 then i.key else other
      let old := (r.tally.find? (fun e => e.key = key)).getD ⟨key, 0, 0⟩
      let absent : Bool := r.tally.all (fun e => e.key ≠ key)
      let stops := if i.charged = true then old.stops else min 65535 (old.stops + 1)
      let changed : Bool := absent || 0 < i.seconds || stops ≠ old.stops
      u.tally.find? (fun e => e.key = key) = some ⟨key, stops, addSeconds old.seconds i.seconds⟩ ∧
      u.tally.map (fun e => e.key) =
        r.tally.map (fun e => e.key) ++ (if absent = true then [key] else []) ∧
      (∀ e, e.key ≠ key → (e ∈ u.tally ↔ e ∈ r.tally)) ∧
      u.total = addSeconds r.total i.seconds ∧
      u.version = (if changed = true then (r.version + 1) % 65536 else r.version) ∧
      u.changed = (r.changed || changed) ∧
      u = { r with tally := u.tally, total := u.total, version := u.version, changed := u.changed })

/-- The search for a cause, step by step: no stop unless STOPPED outside a break; then the own section's
direct choice, the starved walk, the blocked walk, EXTERNAL or DRIVE, the first that gives a result (R65).
The candidates of a section, and the head and tail that report for it, are those of R66 and R67; the walks
stop at the first section that has a candidate or whose head or tail does not report (R68, R69). The
direct choice is the candidate that none ranks before, the earliest holder the first of those whose time
none ranks before (R21, R66). -/
def Obligations.CauseSearch : Prop :=
  (∀ (cfg : Cfg) (c : AttInputs),
    let own := cfg.section_
    let choice := fun k => directChoice (c.candidates cfg k)
    (c.motion ≠ .stopped ∨ c.inBreak = true → evaluate cfg c = none) ∧
    (c.motion = .stopped → c.inBreak = false →
      (∀ x ∈ choice own, evaluate cfg c = some ⟨x.zone, own, .call x.kind, .direct⟩) ∧
      (choice own = none →
        (c.headStarved cfg own = true → evaluate cfg c = some (starvedWalk c cfg (own - 1))) ∧
        (c.headStarved cfg own = false → c.tailBlocked cfg own = true →
          evaluate cfg c = some (blockedWalk c cfg (cfg.nS - own))) ∧
        (c.headStarved cfg own = false → c.tailBlocked cfg own = false →
          (c.readBack = true → evaluate cfg c = some ⟨0, own, .external, .direct⟩) ∧
          (c.readBack = false → evaluate cfg c = some ⟨0, own, .drive, .direct⟩)))) ∧
    (∀ n, ∃ k, k ≤ n ∧
      (∀ j, k < j → j ≤ n → choice j = none ∧ c.headStarved cfg j = true) ∧
      (k = 0 → starvedWalk c cfg n = ⟨0, 0, .starved, .viaStarved⟩) ∧
      (0 < k →
        (∀ x ∈ choice k, starvedWalk c cfg n = ⟨x.zone, k, .call x.kind, .viaStarved⟩) ∧
        (choice k = none →
          c.headStarved cfg k = false ∧ starvedWalk c cfg n = ⟨0, k, .starved, .viaStarved⟩))) ∧
    (∀ first, first ≤ cfg.nS + 1 → 1 ≤ first →
      ∃ k, first ≤ k ∧ k ≤ cfg.nS + 1 ∧
        (∀ j, first ≤ j → j < k → choice j = none ∧ c.tailBlocked cfg j = true) ∧
        (k = cfg.nS + 1 →
          blockedWalk c cfg (cfg.nS + 1 - first) = ⟨0, 9, .blocked, .viaBlocked⟩) ∧
        (k ≤ cfg.nS →
          (∀ x ∈ choice k,
            blockedWalk c cfg (cfg.nS + 1 - first) = ⟨x.zone, k, .call x.kind, .viaBlocked⟩) ∧
          (choice k = none → c.tailBlocked cfg k = false ∧
            blockedWalk c cfg (cfg.nS + 1 - first) = ⟨0, k, .blocked, .viaBlocked⟩))) ∧
    (∀ k x, x ∈ c.candidates cfg k ↔
      (k = own ∧ c.own.condition = .hold ∧ c.own.holdKind = some x.kind ∧
        x.zone = cfg.zone ∧ x.start = c.own.holdStart) ∨
      ∃ v ∈ c.peers, v.live = true ∧ v.section_ = k ∧ v.condition = .hold ∧
        v.holdKind = some x.kind ∧ x.zone = v.zone ∧ x.start = v.holdStart) ∧
    (∀ k,
      let there := fun (v : PeerView) =>
        (k = own ∧ c.mirror = some v) ∨ (v ∈ c.peers ∧ v.live = true ∧ v.section_ = k)
      (k = own → cfg.roles.head = true → c.headStarved cfg k = c.starved) ∧
      (k = own → cfg.roles.tail = true → c.tailBlocked cfg k = c.blocked) ∧
      (¬ (k = own ∧ cfg.roles.head = true) →
        ((∀ v, there v → v.head = false) → c.headStarved cfg k = false) ∧
        (∀ v, there v → v.head = true → (∀ w, there w → w.head = true → v.zone < w.zone ∨ w = v) →
          c.headStarved cfg k = v.starved)) ∧
      (¬ (k = own ∧ cfg.roles.tail = true) →
        ((∀ v, there v → v.tail = false) → c.tailBlocked cfg k = false) ∧
        (∀ v, there v → v.tail = true → (∀ w, there w → w.tail = true → v.zone < w.zone ∨ w = v) →
          c.tailBlocked cfg k = v.blocked)))) ∧
  (∀ l : List Candidate,
    (directChoice l = none ↔ l = []) ∧
    (∀ x ∈ directChoice l, x ∈ l ∧ ∀ y ∈ l, y.before x = false) ∧
    (∀ x y : Candidate, x.before y = true ↔
      (match x.start, y.start with
        | some a, some b => a < b ∨ (a = b ∧ x.zone < y.zone)
        | some _, none => True
        | none, some _ => False
        | none, none => x.zone < y.zone)) ∧
    (earliestHolder l = none ↔ l = []) ∧
    (∀ x ∈ earliestHolder l, ∃ i, l[i]? = some x ∧
      ∀ (j : Nat) (y : Candidate), l[j]? = some y →
        startBefore y.start x.start = false ∧ (j < i → startBefore x.start y.start = true))) ∧
  (∀ (cfg : Cfg) (c : AttInputs), 1 ≤ cfg.section_ → cfg.section_ ≤ cfg.nS → cfg.nS ≤ 8 →
    (evaluate cfg c = none ↔ c.motion ≠ .stopped ∨ c.inBreak = true) ∧
    ∀ k ∈ evaluate cfg c,
      k.kind ≠ .other ∧ (k.zone ≠ 0 → ∃ q, k.kind = .call q) ∧
      (k.route = .direct → k.section_ = cfg.section_) ∧
      (k.route = .viaStarved → k.section_ < cfg.section_) ∧
      (k.route = .viaBlocked → cfg.section_ < k.section_ ∧ (k.section_ ≤ cfg.nS ∨ k.section_ = 9)))

/-- Every frame the 2614 can lay out reads back whole: kind, sender, target and payload (R163, R164,
R169, R171). -/
def Obligations.FrameReadsBack : Prop :=
  ∀ (kind sender target : Nat) (payload : List Byte),
    1 ≤ sender → sender ≤ 126 → target ≤ 255 → lengthAllowed kind payload.length = true →
    parseFrame (frameOf kind sender target payload) = some ⟨kind, sender, target, payload⟩

/-- The ZONE STATUS a running board sends passes the checks of every peer of its line, and the entry the
peer writes is the sender's own zone record (R44, R45, R55, R172). -/
def Obligations.StatusReadsBack : Prop :=
  ∀ (s : State) (nS : Nat), s.Ok → s.running = true → s.mirror = false → s.cfg.section_ ≤ nS →
    ∃ p, s.frameFor .status = some (frameOf 1 s.cfg.zone 127 p) ∧ p.length = 17 ∧
      statusAccepted nS s.cfg.zone p = true ∧
      entryOfStatus s.cfg.zone p =
        { zone := s.cfg.zone, section_ := s.cfg.section_
          head := s.cfg.roles.head, tail := s.cfg.roles.tail
          countPoint := s.cfg.roles.countPoint, reference := s.cfg.roles.reference
          condition := s.zoneCondition, openCalls := s.calls.list.length
          oldestKind := s.calls.list.head?.map (fun c => c.kind)
          holdKind := s.ownHolder.map (fun h => h.kind)
          holdStart := s.ownHolder.bind (fun h => h.start)
          overflow := s.calls.overflow.isSome, holdFail := s.sec.holdFail
          starved := s.table.starved.flag, blocked := s.table.blocked.flag
          encFault := s.sec.encFault, busTrouble := s.bus.trouble
          restarted := s.table.restarted, timeValid := s.clock.timeValid
          motion := s.sec.motion, shift := s.ret.shift, serial := s.ret.serial.getD 0
          actual := s.ret.actual, refresh := s.cfg.refresh, age := 0, live := true }

/-! ## Start-up (R188 to R193) -/

/-- POWER_ON takes the board to LOADING with the retained area cleared and its check word in agreement,
the strap sampled and one dark picture on its way, every block at the values of its start (R188, R191);
the pins, the queue and what the display modules last received stay. That the configuration, derived
times, plans (log 6), line state (log 5) and display link (log 21) stand as they do then is the model's
choice. -/
def Obligations.PowerOnEntersLoading : Prop :=
  ∀ (t : Time) (bpol : Bool) (s : State),
    ∃ u, exec (.powerOn t bpol) s = .next u ∧
      u.mode = .loading ∧ u.ret = ⟨none, none, none, 0, none, 0, none, 0⟩ ∧
      u.check = checkWordOf u.ret ∧
      u.cfg = .blank ∧ u.calls = .initial ∧ u.sec = .initial ∧ u.table = .initial ∧
      u.att = .initial ∧ u.clock = .initial ∧ u.pace = .initial ∧ u.bus = .initial ∧
      u.req = ⟨none, none⟩ ∧ u.disp.store = [] ∧ u.disp.running = none ∧ u.disp.picture = .dark ∧
      u.disp.copies = .initial bpol ∧
      u.disp.link.sending = some .dark ∧ u.disp.link.shown = (s.begin_ t).disp.link.shown ∧
      u.out = ⟨false, bpol, bpol, bpol, false⟩ ∧
      u.start.halt = none ∧ u.start.bpol = bpol ∧
      u.start.warm = false ∧ u.start.reading = !(s.begin_ t).start.rstw.isActive ∧
      u.pins = s.pins ∧ u.pending = s.pending

/-- RESTART_INPUT, with RSTW active for 50 ms, takes the board to LOADING from every mode with the
retained area and its check word untouched; nothing is read while RSTW stays active (R188). Before the
50 ms, or twice in one activation (log 12), it changes nothing. That the configuration, derived times,
plans (log 6), line state (log 5) and display link (log 21) stand as they do then is the model's
choice. -/
def Obligations.RestartInputEntersLoading : Prop :=
  ∀ (t since : Time) (bpol : Bool) (s : State),
    let b := s.begin_ t
    (b.start.rstw = .active since → since + 50000 ≤ b.now →
      ∃ u, exec (.restartInput t bpol) s = .next u ∧
        u.mode = .loading ∧ u.ret = b.ret ∧ u.check = b.check ∧
        u.start.warm = true ∧ u.start.reading = false ∧ u.start.halt = none ∧
        u.start.bpol = bpol ∧ u.out = ⟨false, bpol, bpol, bpol, false⟩ ∧
        u.cfg = .blank ∧ u.calls = .initial ∧ u.sec = .initial ∧ u.table = .initial ∧
        u.att = .initial ∧ u.clock = .initial ∧ u.pace = .initial ∧ u.bus = .initial ∧
        u.req = ⟨none, none⟩ ∧ u.disp.store = [] ∧ u.disp.running = none ∧
        u.disp.picture = .dark ∧ u.disp.copies = .initial bpol ∧ u.disp.link.sending ≠ none ∧
        u.pins = b.pins ∧ u.pending = b.pending) ∧
    ((∀ since, b.start.rstw = .active since → b.now < since + 50000) →
      exec (.restartInput t bpol) s = .next b)

/-- RSTW_ACTIVE starts the 50 ms, RSTW_RELEASE ends the activation and, in LOADING, begins the reading
(R188). That RSTW_ACTIVE leaves an image reading in hand going on, until the 50 ms have passed, is the model's
reading (log 12). SUPPLY_DISTURBANCE leaves a check word that differs from the one of the contents (R193), in bits
that are a free value: that it always leaves a difference, and that it shows in the check word alone, is
the model's choice (log 7). Nothing else changes. -/
def Obligations.RestartLineAndDisturbance : Prop :=
  ∀ (t : Time) (s : State),
    let b := s.begin_ t
    (b.start.rstw = .inactive →
      exec (.rstwActive t) s = .next (b.setStart { b.start with rstw := .active b.now })) ∧
    (∃ u, exec (.rstwRelease t) s = .next u ∧ u.start.rstw = .inactive ∧
      (b.mode = .loading → u.start.reading = true) ∧
      (b.mode ≠ .loading → u.start.reading = b.start.reading) ∧
      u = b.setStart { b.start with rstw := .inactive, reading := u.start.reading }) ∧
    (∃ u, exec (.supplyDisturbance t) s = .next u ∧
      u = { b with check := u.check } ∧ u.check ≠ checkWordOf u.ret)

/-- CONFIG_IMAGE_READ of an image that fails a check halts the board with the code of the first check
that fails, the retained area and its check word untouched; the display's copies keep the values of the
start but for mode and code (R153, R189, R190), the figures among them by the model's reading (log 39). The
picture with the code is put on the display link (R129). -/
def Obligations.BadImageHalts : Prop :=
  ∀ (t : Time) (mem : List Byte) (code : HaltCode) (s : State),
    let b := s.begin_ t
    b.mode = .loading → b.start.reading = true → imageFault mem = some code →
    ∃ u, exec (.configImageRead t mem) s = .next u ∧
      u.mode = .halted ∧ u.start.halt = some code ∧ u.start.reading = false ∧
      u.ret = b.ret ∧ u.check = b.check ∧ u.out.hold = false ∧
      u.out.horn = false ∧ u.disp.picture.target = .shown (haltField code) ∧
      u.disp.picture.actual = .dark ∧ u.disp.picture.text = none ∧
      (b.Ok → u.disp.copies =
        { DispInputs.initial b.start.bpol with mode := .halted, halt := some code }) ∧
      b.LinkFollows u ∧
      u.cfg = b.cfg ∧ u.calls = b.calls ∧ u.clock = b.clock ∧ u.bus = b.bus ∧ u.req = b.req ∧
      u.pins = b.pins ∧ u.pending = b.pending

/-- The checks of R189 in their order, each by the offsets it reads (R178, R179): an erased memory is E1
whatever follows, then the format code and the length E2, the CRC E3, the layout E2, the identity E4, the
input map and policies E5, the timing E6; an image that passes them all gives a sound configuration. -/
def Obligations.ImageChecksInOrder : Prop :=
  ∀ mem : List Byte,
    let at_ := memAt mem
    let word := fun i => memAt mem i * 256 + memAt mem (i + 1)
    let layout := at_ 77 ≤ 12 ∧ at_ 78 ≤ 12 ∧ at_ 79 ≤ 12 ∧
      word 3 = 83 + 5 * (at_ 77 + at_ 78 + at_ 79)
    let identity := (1 ≤ at_ 5 ∧ at_ 5 ≤ 64) ∧ (1 ≤ at_ 7 ∧ at_ 7 ≤ 8) ∧ (1 ≤ at_ 6 ∧ at_ 6 ≤ at_ 7) ∧
      at_ 10 ≤ 3 ∧ (∀ i, i < at_ 10 → 1 ≤ at_ (11 + i) ∧ at_ (11 + i) ≤ 15) ∧
      ¬ ((at_ 8).testBit 4 = true ∧ at_ 8 % 16 ≠ 0)
    let policies :=
      (∀ i, i < 20 → at_ (14 + i) = 0 ∨
        (1 ≤ at_ (14 + i) / 16 ∧ at_ (14 + i) / 16 ≤ 12 ∧
          1 ≤ at_ (14 + i) % 16 ∧ at_ (14 + i) % 16 ≤ 4)) ∧
      (∀ o ∈ [34, 37, 40], at_ o ≤ 3 ∧ 10 ≤ word (o + 1) ∧ word (o + 1) ≤ 1800)
    let timing := (1 ≤ at_ 9 ∧ at_ 9 ≤ 10) ∧ (1 ≤ at_ 43 ∧ at_ 43 ≤ 8) ∧ (8 ≤ at_ 44 ∧ at_ 44 ≤ 64) ∧
      (∀ i, i < 12 → word (45 + 2 * i) < at_ 43 * at_ 44) ∧ (1 ≤ at_ 69 ∧ at_ 69 ≤ 10) ∧
      (2 ≤ at_ 70 ∧ at_ 70 ≤ 30) ∧ (1 ≤ at_ 71 ∧ at_ 71 ≤ 10) ∧ (200 ≤ word 72 ∧ word 72 ≤ 9999) ∧
      ((at_ 74).testBit 0 = true → 5 ≤ at_ 75 ∧ at_ 75 ≤ 240)
    ((∀ i, i < 5 → at_ i = 255) → imageFault mem = some .e1) ∧
    ((∃ i, i < 5 ∧ at_ i ≠ 255) →
      (at_ 0 ≠ 1 → imageFault mem = some .e2) ∧
      (at_ 0 = 1 →
        (¬ (64 ≤ word 3 ∧ word 3 ≤ 512) → imageFault mem = some .e2) ∧
        (64 ≤ word 3 → word 3 ≤ 512 →
          (imageFault mem = some .e3 ↔
            (crc16 ((List.range (word 3 - 2)).map (fun i => mem.getD i 0xFF#8))).toNat ≠
              word (word 3 - 2)) ∧
          (imageCrcGood mem = true →
            (¬ layout → imageFault mem = some .e2) ∧
            (layout → ¬ identity → imageFault mem = some .e4) ∧
            (layout → identity → ¬ policies → imageFault mem = some .e5) ∧
            (layout → identity → policies → ¬ timing → imageFault mem = some .e6) ∧
            (layout → identity → policies → timing → imageFault mem = none)) ∧
          (imageFault mem = none → (cfgOf mem).Ok))))

/-- CONFIG_IMAGE_READ of a good image takes the board out of LOADING: the retained area judged (cleared
when a warm restart finds its check word not in agreement), its open interval closed, mode by the retained
shift number, the peak limited to the new plan's T_end, generator seeded, motion UNKNOWN with the
stop-detect timer running, trackers ARMED but for inputs already active, STATUS marked but on a mirror,
COUNT on a count point that holds a serial, the count period 0, and the restarted flag set (R3, R40, R59,
R84, R107, R124, R126, R161, R192, R193). An absent peak under a
usable plan is a free value (log 9); a shift input or clear key already active qualifies at once by the
model's reading (log 33). -/
def Obligations.GoodImageStartsBoard : Prop :=
  ∀ (t : Time) (mem : List Byte) (s : State),
    let b := s.begin_ t
    let area :=
      if b.start.warm = true ∧ b.check ≠ checkWordOf b.ret then Retained.cleared else b.ret
    b.Ok → b.mode = .loading → b.start.reading = true → imageFault mem = none →
    ∃ u, exec (.configImageRead t mem) s = .next u ∧
      u.mode = (if area.shift = 0 then .standby else .shift) ∧
      u.cfg = cfgOf mem ∧ u.clock.plans = plansOf mem ∧
      u.start.halt = none ∧ u.start.reading = false ∧
      u.ret.shift = area.shift ∧ u.ret.serial = area.serial ∧ u.ret.last = area.last ∧
      u.ret.interval = none ∧ u.ret.current = area.closeInterval.current ∧
      u.att.carried = area.interval.map (fun i => i.key) ∧
      u.ret.car = (if u.cfg.roles.countPoint then area.car else 0) ∧
      u.ret.actual = (if u.cfg.roles.countPoint then area.car else area.actual) ∧
      u.ret.peak = (tEndOf ((plansOf mem).get area.shift)).map (fun e =>
        min (area.peak.getD (Config.restoredPeak area.shift)) e) ∧
      (b.start.warm = true ∨ b.check = checkWordOf b.ret → u.check = checkWordOf u.ret) ∧
      (∀ i : InputId, u.tracker i =
        if u.sampled i = true ∧ b.pins.level i = true then ⟨.qualifying (b.now + 50000), none⟩
        else ⟨.armed, none⟩) ∧
      u.clock.s = 0 ∧ u.clock.timeValid = false ∧ u.clock.source = none ∧
      u.clock.isFree = true ∧
      u.clock.authority = false ∧ u.sec.motion = .unknown ∧ u.sec.lastPulse = none ∧
      (u.mirror = false → u.sec.stopTimer = some u.now) ∧
      u.table.restarted = true ∧ u.table.entries = [] ∧ u.calls.list = [] ∧
      (u.mirror = false → u.bus.status.state = .pending) ∧
      (u.mirror = true → u.bus.status.state = .empty) ∧
      u.bus.count =
        (if u.cfg.roles.countPoint = true ∧ u.mirror = false ∧ area.serial ≠ none then ⟨.pending, 0, false⟩
          else ⟨.empty, 0, false⟩) ∧
      u.pace.period = 0 ∧ b.LinkFollows u ∧
      u.bus.rng = some (seedOf u.cfg.imageId u.cfg.zone) ∧ u.bus.idle = false ∧
      u.disp.flash = true ∧ u.disp.page = 1 ∧ u.pins = b.pins ∧ u.pending = b.pending

/-! ## Tracked inputs (R2 to R4, R92) -/

/-- The tracker table of R2 at a sampled input: what INPUT_ACTIVE, INPUT_INACTIVE and
RELEASE_TIME_EXPIRY do, and a QUALIFY_TIME_EXPIRY less than 1 s after the last counted pull; nothing but
the pin and its tracker changes, and at an unsampled input nothing but the pin: every other pin keeps its
level. That an unsampled input moves nothing but its pin is log 2. -/
def Obligations.InputsMoveTracker : Prop :=
  ∀ (t d l : Time) (i : InputId) (v c0 c1 : Bool) (s : State),
    let b := s.begin_ t
    b.calls.trackers.length = 20 → b.pins.call.length = 20 →
    (b.pins.level i = !v →
      ∃ u, (if v then exec (.inputActive t i) s else exec (.inputInactive t i) s) = .next u ∧
        u.pins.level i = v ∧ (∀ j, j ≠ i → u.pins.level j = b.pins.level j) ∧
        u.pins = (match i with
          | .call n => { b.pins with call := b.pins.call.set n v }
          | .clr => { b.pins with clr := v }
          | .shst => { b.pins with shst := v }
          | .shend => { b.pins with shend := v }) ∧
        (b.sampled i = false → u = b.setPins u.pins) ∧
        (b.sampled i = true →
          (u.tracker i).last = (b.tracker i).last ∧
          (u.tracker i).state =
            (match (b.tracker i).state, v with
              | .armed, true => .qualifying (b.now + 50000)
              | .qualifying _, false => .armed
              | .taken, false => .releasing (b.now + 200000)
              | .releasing _, true => .taken
              | x, _ => x) ∧
          u = (b.setPins u.pins).setTracker i (u.tracker i))) ∧
    (b.sampled i = true → d ≤ b.now → (b.tracker i).state = .releasing d →
      ∃ u, exec (.releaseTimeExpiry t i) s = .next u ∧
        u = b.setTracker i ⟨.armed, (b.tracker i).last⟩ ∧ (u.tracker i).state = .armed) ∧
    (b.sampled i = true → d ≤ b.now → (b.tracker i).state = .qualifying d →
      (b.tracker i).last = some l → b.now < l + 1000000 →
      ∃ u, exec (.qualifyTimeExpiry t i c0 c1) s = .next u ∧
        u = b.setTracker i ⟨.taken, some l⟩ ∧ (u.tracker i).state = .taken)

/-! ## Pulls and the clear key (R9 to R12, R17 to R19) -/

/-- A counted pull of a cord without a call, with room in the list and no overflow hold: a QUALITY,
MATERIAL or EQUIPMENT call is appended OPEN at its hold-point distance; a SAFETY call is appended HOLDING,
is at once an entry into a hold, and starts its alert. In SHIFT the raised count advances, and for SAFETY
the holds count (R7, R9, R10, R22, R23, R24, R144). Of the call unit nothing else changes but the pulled
input's tracker. -/
def Obligations.PullRaisesCall : Prop :=
  ∀ (t : Time) (n : Fin 20) (c0 c1 : Bool) (cord : Cord) (s : State),
    let b := s.begin_ t
    let line :=
      if cord.kind = .safety then some (alertRun b.cfg.zone .safety b.now) else b.disp.running
    b.running = true → b.RecordsOk → Counted b (.call n) → b.cfg.cord n = some cord →
    (b.cfg.policy cord.kind).policy ≠ .off → b.calls.find cord = none →
    b.calls.overflow = none → b.calls.list.length < 16 →
    ∃ u, exec (.qualifyTimeExpiry t (.call n) c0 c1) s = .next u ∧
      u.calls.list = b.calls.list ++
        [if cord.kind = .safety then ⟨cord.station, .safety, .holding, b.knownSecond, 0, 0⟩
          else ⟨cord.station, cord.kind, .opened, none, b.cfg.holdPoint cord.station, 0⟩] ∧
      (u.tracker (.call n)) = ⟨.taken, some b.now⟩ ∧ u.calls.overflow = none ∧
      u.calls.trackers = b.calls.trackers.set n ⟨.taken, some b.now⟩ ∧ u.calls.clr = b.calls.clr ∧
      u.calls.chirp = (if b.cfg.chirpOn then some (b.now + 500000) else b.calls.chirp) ∧
      u.calls.holdSound =
        (if cord.kind = .safety then some (b.now + 2000000) else b.calls.holdSound) ∧
      u.ret.current.map (fun r => (r.raised, r.holds)) =
        b.ret.current.map (fun r =>
          if b.mode = .shift then
            (r.raised.set cord.kind (min 65535 (r.raised.get cord.kind + 1)),
             if cord.kind = .safety then r.holds.set .safety (min 255 (r.holds.safety + 1))
             else r.holds)
          else (r.raised, r.holds)) ∧
      (((b.setCalls u.calls).charge (fun r =>
        if cord.kind = .safety then (r.countRaised .safety).countHold .safety
        else r.countRaised cord.kind)).setDisp { b.disp with running := line }).FollowedFrom u ∧
      u.HoldFollows ∧ u.OwnFollows

/-- A pull on the cord of an OPEN call answers it; one on an ANSWERED, HOLDING or OVERDUE call that is no
SAFETY call removes it; one on a SAFETY call changes nothing but the tracker. No count of the shift
record changes (R10, R11, R12). -/
def Obligations.PullActsOnStandingCall : Prop :=
  ∀ (t : Time) (n : Fin 20) (c0 c1 : Bool) (cord : Cord) (x : Call) (s : State),
    let b := s.begin_ t
    b.running = true → Counted b (.call n) → b.cfg.cord n = some cord →
    (b.cfg.policy cord.kind).policy ≠ .off → b.calls.find cord = some x →
    ∃ u, exec (.qualifyTimeExpiry t (.call n) c0 c1) s = .next u ∧
      u.calls.list =
        (if cord.kind = .safety then b.calls.list
          else if x.state = .opened then
            b.calls.list.map (fun y =>
              if y.station = cord.station ∧ y.kind = cord.kind then { y with state := .answered } else y)
          else
            b.calls.list.filter (fun y => ¬ (y.station = cord.station ∧ y.kind = cord.kind))) ∧
      (u.tracker (.call n)) = ⟨.taken, some b.now⟩ ∧
      u.calls = { b.calls with
        list := u.calls.list, trackers := b.calls.trackers.set n ⟨.taken, some b.now⟩ } ∧
      (b.setCalls u.calls).FollowedFrom u ∧ u.HoldFollows ∧ u.OwnFollows

/-- A pull that would append to a full list sets the overflow hold of its kind, which counts as an entry
into a hold; while the overflow hold is set, such a pull changes nothing but its tracker, whatever the
length of the list (R17, R18, R23, R24). -/
def Obligations.PullOnFullListSetsOverflow : Prop :=
  ∀ (t : Time) (n : Fin 20) (c0 c1 : Bool) (cord : Cord) (s : State),
    let b := s.begin_ t
    b.running = true → b.RecordsOk → Counted b (.call n) → b.cfg.cord n = some cord →
    (b.cfg.policy cord.kind).policy ≠ .off → b.calls.find cord = none →
    b.calls.overflow ≠ none ∨ 16 ≤ b.calls.list.length →
    ∃ u, exec (.qualifyTimeExpiry t (.call n) c0 c1) s = .next u ∧
      u.calls.list = b.calls.list ∧ (u.tracker (.call n)) = ⟨.taken, some b.now⟩ ∧
      u.calls.trackers = b.calls.trackers.set n ⟨.taken, some b.now⟩ ∧ u.calls.clr = b.calls.clr ∧
      (b.calls.overflow ≠ none →
        u.calls = { b.calls with trackers := u.calls.trackers } ∧
        (b.setCalls u.calls).FollowedFrom u) ∧
      (b.calls.overflow = none →
        u.calls.overflow = some ⟨cord.kind, b.knownSecond⟩ ∧
        u.calls.holdSound = some (b.now + 2000000) ∧ u.calls.chirp = b.calls.chirp ∧
        u.ret.current.map (fun r => (r.raised, r.holds)) =
          b.ret.current.map (fun r =>
            (r.raised,
             if b.mode = .shift then
               r.holds.set cord.kind (min 255 (r.holds.get cord.kind + 1)) else r.holds)) ∧
        u.out.hold = true ∧
        ((b.setCalls u.calls).charge (fun r => r.countHold cord.kind)).FollowedFrom u) ∧
      u.HoldFollows ∧ u.OwnFollows

/-- A clear key press empties the list, clears the overflow hold, silences the horn and releases the hold
output; no count of the shift record changes. A press counted in DORMANT first wakes the board (R4, R19,
R20). -/
def Obligations.ClearKeyEmptiesList : Prop :=
  ∀ (t : Time) (c0 c1 : Bool) (s : State),
    let b := s.begin_ t
    let pressed := { b.calls with
      list := [], overflow := none, holdSound := none, chirp := none, clr := ⟨.taken, some b.now⟩ }
    (b.running = true → Counted b .clr →
      ∃ u, exec (.qualifyTimeExpiry t .clr c0 c1) s = .next u ∧
        u.calls = pressed ∧ u.out.hold = false ∧ u.out.horn = false ∧ u.zoneCondition = .run ∧
        (b.setCalls u.calls).FollowedFrom u) ∧
    (b.mode = .dormant → Counted b .clr →
      ∃ u, exec (.qualifyTimeExpiry t .clr c0 c1) s = .next u ∧
        u.mode = .standby ∧ u.calls = pressed ∧ u.out.hold = false ∧ u.out.horn = false ∧
        u.zoneCondition = .run ∧ u.ret = b.ret ∧ u.check = b.check)

/-- A pull of a kind that is not OFF, a clear key press or a shift pulse counted in DORMANT first wakes
the board and is then applied as in STANDBY; a pull of an OFF kind changes nothing but its tracker (R3, R4,
R92, R196). The wake marks STATUS, on a board with authority TIME (R96, R108) and on a count point with a
serial COUNT, its count period 0 (R124); motion is UNKNOWN with the stop-detect timer running (R40), and the
lit picture goes on the display link (R129). A pull raises its call: OPEN at its hold-point distance, with
the text line at the first message, or for SAFETY HOLDING, an entry into a hold with its sounds, its alert
and the hold check (R9, R10, R22, R23, R34, R144); no time is recorded and nothing counted, since no shift
runs (R6, R24). A shift start pulse begins the shift its code names, under the next serial, with the clock,
authority, records, counts and TIME mark of a boundary (R93), the time of the last counted car-out edge none,
and COUNT marked where the counter was above 0 (R37, R124; that a counter of 0 makes no mark is the model's
reading, log 22). A shift end pulse, in shift 0 as every DORMANT board is, sets the time valid with s 0 and
takes authority under a serial, and without one changes nothing but its tracker (R94). What a shift end pulse
in shift 0 leaves alone is the model's reading (log 23). -/
def Obligations.LocalInputWakesBoard : Prop :=
  ∀ (t : Time) (i : InputId) (c0 c1 : Bool) (s : State),
    let b := s.begin_ t
    let authority := b.clock.authority
    let counts := b.cfg.roles.countPoint && b.ret.serial.isSome
    let woken := fun (u : State) =>
      u.bus.wake = .off ∧ u.start = { b.start with dormantCount := 0 } ∧ u.pins = b.pins ∧ u.cfg = b.cfg ∧
      u.req = b.req ∧ u.disp.store = b.disp.store ∧
      (b.Ok → u.bus.status.state ≠ .empty ∧ u.bus.reply = b.bus.reply ∧
        u.sec.motion = .unknown ∧ u.sec.stopTimer = some b.now ∧ u.sec.lastPulse = none ∧
        u.HoldFollows ∧ u.OwnFollows ∧ u.ShownFollows ∧ u.disp.link.sending ≠ none ∧
        (u.disp.link.sending = some u.disp.picture ∨ u.disp.link.again = true))
    let sameShift := fun (u : State) =>
      u.mode = .standby ∧ (b.Ok → u.ret = b.ret ∧ u.check = b.check ∧
        u.bus.time = (if authority then b.bus.time.mark else b.bus.time) ∧
        u.bus.count = (if counts then b.bus.count.mark else b.bus.count) ∧
        u.pace.period = (if counts then 0 else b.pace.period) ∧ u.sec.lastCar = b.sec.lastCar)
    let taken := { b.clock with markCount := if authority then 0 else b.clock.markCount }
    b.mode = .dormant → Counted b i →
    ∃ u, exec (.qualifyTimeExpiry t i c0 c1) s = .next u ∧
      (match i with
        | .call n =>
          ∀ c ∈ b.cfg.cord n,
            ((b.cfg.policy c.kind).policy = .off → u = b.setTracker (.call n) ⟨.taken, some b.now⟩) ∧
            ((b.cfg.policy c.kind).policy ≠ .off →
              woken u ∧ sameShift u ∧ u.clock = taken ∧
              (b.calls.list = [] → b.calls.overflow = none →
                u.calls = { b.calls with
                  list := [if c.kind = .safety then ⟨c.station, .safety, .holding, none, 0, 0⟩
                    else ⟨c.station, c.kind, .opened, none, b.cfg.holdPoint c.station, 0⟩]
                  trackers := b.calls.trackers.set n ⟨.taken, some b.now⟩
                  holdSound :=
                    if c.kind = .safety then some (b.now + 2000000) else b.calls.holdSound
                  chirp := if b.cfg.chirpOn then some (b.now + 500000) else b.calls.chirp }) ∧
              (b.Ok → c.kind = .safety → u.out.hold = true ∧
                u.disp.running = some (alertRun b.cfg.zone .safety b.now) ∧ u.disp.pending = none ∧
                u.sec.holdTimer = some (b.now + b.cfg.holdResponse * 1000000)) ∧
              (b.Ok → c.kind ≠ .safety →
                u.out.hold = false ∧ u.RunsNext none none ∧ u.sec.holdTimer = none))
        | .clr => woken u ∧ sameShift u ∧ u.clock = taken ∧ (b.Ok → u.RunsNext none none) ∧
          u.calls = { b.calls with
            list := [], overflow := none, holdSound := none, chirp := none
            clr := ⟨.taken, some b.now⟩ }
        | .shst =>
          let code := c0.toNat + 2 * c1.toNat
          u.mode = .shift ∧ woken u ∧ u.ret.shift = (if code = 0 then 1 else code) ∧
          u.ret.serial = some (match b.ret.serial with | some x => (x + 1) % 256 | none => 1) ∧
          u.clock = { b.clock with
            s := 0, pause := 0, timeValid := true, source := some b.cfg.zone, sourceOwn := true
            sourceFree := false, silence := 0, authority := true, markCount := 0
            shst := ⟨.taken, some b.now⟩ } ∧
          u.clock.isFree = false ∧ u.sec.lastCar = none ∧ u.pace.source = none ∧
          (b.Ok → u.bus.time = b.bus.time.mark ∧
            u.bus.count = (if counts = true ∨ b.ret.car ≠ 0 then b.bus.count.mark else b.bus.count) ∧
            u.pace.period = (if counts = true ∨ b.ret.car ≠ 0 then 0 else b.pace.period) ∧
            u.calls = b.calls ∧
            u.ret.current.map (fun r => (r.shift, r.tally, r.total, r.version, r.changed))
              = some (u.ret.shift, [], 0, 0, false) ∧
            u.ret.last = b.ret.last ∧ u.ret.actual = 0 ∧ u.ret.car = 0 ∧
            u.ret.peak = b.clock.plans.freshPeak u.ret.shift 0)
        | .shend =>
          woken u ∧ sameShift u ∧
          (b.Ok → u.calls = b.calls ∧
            (b.ret.serial = none → u.clock = { taken with shend := ⟨.taken, some b.now⟩ }) ∧
            (b.ret.serial ≠ none → u.clock = { taken with
              shend := ⟨.taken, some b.now⟩, timeValid := true, s := 0, authority := true })))

/-! ## Shift pulses and boundaries (R90 to R100) -/

/-- A counted shift start pulse begins the shift its code lines name, 0 taken as 1, under the next
serial (1 when there was none); a counted shift end pulse in shift 1..3 ends it under the next serial,
in shift 0 only sets the time valid with s 0 and takes authority, and with no serial changes nothing but its
tracker. A pulse that
crosses a boundary makes the board its own time source with authority, marks TIME, moves the records on,
sets the actual and the car counter to 0 with no car-out edge recorded, marks COUNT and restarts its period
where the counter was above 0, and makes recorded call times absent (R25, R37, R80, R92 to R94, R112, R124,
R125). That a counter of 0 makes no COUNT mark is the model's reading (log 22), as is what a shift end pulse in
shift 0 leaves alone (log 23). -/
def Obligations.ShiftPulsesCrossBoundary : Prop :=
  ∀ (t : Time) (c0 c1 : Bool) (s : State),
    let b := s.begin_ t
    let code := c0.toNat + 2 * c1.toNat
    let forgotten := { b.calls with
      list := b.calls.list.map (fun x => { x with holdStart := none })
      overflow := b.calls.overflow.map (fun o => { o with setAt := none }) }
    let own := { b.clock with
      s := 0, pause := 0, timeValid := true, source := some b.cfg.zone, sourceOwn := true
      sourceFree := false, silence := 0, authority := true, markCount := 0 }
    b.Ok → b.running = true →
    (Counted b .shst →
      ∃ u, exec (.qualifyTimeExpiry t .shst c0 c1) s = .next u ∧
        u.mode = .shift ∧ u.ret.shift = (if code = 0 then 1 else code) ∧
        u.ret.serial = some (match b.ret.serial with | some x => (x + 1) % 256 | none => 1) ∧
        u.clock = { own with shst := ⟨.taken, some b.now⟩ } ∧ u.clock.isFree = false ∧
        u.bus.time = b.bus.time.mark ∧ b.CounterReturns u ∧ b.LinkFollows u ∧
        u.ret.current.map (fun r => (r.shift, r.tally, r.total, r.version, r.changed))
          = some (u.ret.shift, [], 0, 0, false) ∧
        (b.mode = .shift → u.ret.last.map (fun r => (r.shift, r.close, r.changed)) =
          some (b.ret.shift, some ⟨b.ret.actual, b.ret.peak⟩, true)) ∧
        (b.mode = .standby → u.ret.last = b.ret.last) ∧
        u.ret.actual = 0 ∧ u.ret.car = 0 ∧ u.ret.peak = b.clock.plans.freshPeak u.ret.shift 0 ∧
        u.pace.source = none ∧ u.calls = forgotten ∧
        u.table.entries = b.table.entries.filter (fun e => e.live) ∧
        u.disp.store = b.disp.store ∧ u.req = b.req ∧ u.cfg = b.cfg) ∧
    (Counted b .shend → b.mode = .shift →
      ∃ u, exec (.qualifyTimeExpiry t .shend c0 c1) s = .next u ∧
        u.mode = .standby ∧ u.ret.shift = 0 ∧
        u.ret.serial = b.ret.serial.map (fun x => (x + 1) % 256) ∧
        u.clock = { own with shend := ⟨.taken, some b.now⟩ } ∧ u.clock.isFree = false ∧
        u.bus.time = b.bus.time.mark ∧ b.CounterReturns u ∧ b.LinkFollows u ∧
        u.ret.current = none ∧ u.ret.interval = none ∧
        u.ret.last.map (fun r => (r.shift, r.close, r.changed)) =
          some (b.ret.shift, some ⟨b.ret.actual, b.ret.peak⟩, true) ∧
        u.ret.actual = 0 ∧ u.ret.car = 0 ∧ u.ret.peak = none ∧ u.att.cause = none ∧
        u.pace.source = none ∧ u.start.dormantCount = 0 ∧ u.calls = forgotten ∧
        u.table.entries = b.table.entries.filter (fun e => e.live) ∧
        u.disp.store = b.disp.store ∧ u.req = b.req ∧ u.cfg = b.cfg) ∧
    (Counted b .shend → b.mode = .standby →
      ∃ u, exec (.qualifyTimeExpiry t .shend c0 c1) s = .next u ∧
        u.ret = b.ret ∧ u.mode = .standby ∧ u.bus.time = b.bus.time ∧ u.calls = b.calls ∧
        (b.ret.serial = none →
          u.clock = { b.clock with shend := ⟨.taken, some b.now⟩ }) ∧
        (b.ret.serial ≠ none → u.clock = { b.clock with
          shend := ⟨.taken, some b.now⟩, timeValid := true, s := 0, authority := true }) ∧
        (b.setClock u.clock).FollowedFrom u)

/-- OVERTIME_LIMIT: the board ends its shift by itself, keeping time-valid flag, source and authority; a
board with authority marks TIME at once (R90). The car counter returns to 0 with no car-out edge recorded, and
marks COUNT where it was above 0 (R37, R124); that a counter of 0 makes no mark is the model's reading (log
22). -/
def Obligations.OvertimeEndsShift : Prop :=
  ∀ (t : Time) (s : State),
    let b := s.atTime t
    b.Ok → b.mode = .shift → b.overtimeLimit ≤ b.clock.s →
    ∃ u, exec (.overtimeLimit t) s = .next u ∧
      u.mode = .standby ∧ u.ret.shift = 0 ∧ u.ret.serial = b.ret.serial.map (fun x => (x + 1) % 256) ∧
      (b.clock.authority = true →
        u.clock = { b.clock with s := 0, pause := 0, markCount := 0 } ∧ u.bus.time = b.bus.time.mark) ∧
      (b.clock.authority = false →
        u.clock = { b.clock with s := 0, pause := 0 } ∧ u.bus.time = b.bus.time) ∧
      b.CounterReturns u ∧ u.pace.source = none ∧ b.LinkFollows u ∧
      u.ret.current = none ∧ u.ret.interval = none ∧
      u.ret.last.map (fun r => (r.shift, r.close, r.changed)) =
        some (b.ret.shift, some ⟨b.ret.actual, b.ret.peak⟩, true) ∧
      u.ret.actual = 0 ∧ u.ret.peak = none ∧ u.disp.store = b.disp.store ∧
      u.req = b.req ∧ u.cfg = b.cfg ∧ u.pins = b.pins ∧ u.calls.list.length = b.calls.list.length

/-! ## Section monitor (R29 to R36) -/

/-- An accepted pulse becomes the last accepted one, enters the window and the run counter, counts the
calls down, restarts the stop-detect timer and makes the motion MOVING; each call that reaches its hold
point under another policy than SIGNAL holds, is counted and sounds, and a hold that begins starts its
alert and its check. A pulse sooner than the minimum gap enters the window as rejected, resets the run
counter and does nothing else. The gap is the one that stands, but for a pulse that falls together with a
change of the takt: the old one after the change, the new one before it (R13, R23, R24, R28, R30 to R32,
R34). In SHIFT on a section that stands the calls re-key the stop before the motion changes: the old
interval is closed, where the own zone's key is another one of that key and no seconds too, and, where a pull
or a clear key press resolves calls at the same moment, one of the key the stop goes back to, each with its
stop (R15, R16, R73). Which commands fall together is the model's reading (log 31, 36), and that the calls re-key a standing
stop before the motion changes is its choice (log 10). -/
def Obligations.AdvancePulseIsJudged : Prop :=
  ∀ (t : Time) (s : State),
    let b := s.begin_ t
    let gap := b.pulseGap
    let atHold := fun (x : Call) => (x.state = .opened || x.state = .answered) && x.remaining ≤ 1 &&
      (b.cfg.policy x.kind).policy ≠ .signal
    b.advSampled = true → b.sec.times = b.currentTimes →
    ((∀ c ∈ b.pending.head?, b.now < momentOf c) →
      (∀ old, b.sec.gapChange = some (b.now, old) → gap = old) ∧
      ((∀ old, b.sec.gapChange ≠ some (b.now, old)) → gap = b.sec.times.minGap)) ∧
    (∀ c rest v, b.pending = c :: rest → momentOf c ≤ b.now → (∀ d ∈ rest.head?, b.now < momentOf d) →
      ((∃ t', c = .secondsExpiry t') ∨ (∃ t', c = .overtimeLimit t') ∨ (∃ t' f, c = .timeMark t' f) ∨
        (∃ t' x y, c = .qualifyTimeExpiry t' .shst x y) ∨
        (∃ t' x y, c = .qualifyTimeExpiry t' .shend x y)) →
      exec c b = .next v → v.sec.times ≠ b.sec.times → gap = v.sec.times.minGap) ∧
    ((∀ l ∈ b.sec.lastPulse, l + gap * 1000 ≤ b.now) →
      ∃ u, exec (.advancePulse t) s = .next u ∧
        u.sec.lastPulse = some b.now ∧ u.sec.stopTimer = some b.now ∧ u.sec.motion = .moving ∧
        u.sec.run = min 64 (b.sec.run + 1) ∧
        u.sec.window = (b.sec.window ++ [false]).drop (b.sec.window.length + 1 - 16) ∧
        u.sec.encFault = (b.sec.encFault && u.sec.run ≠ 64) ∧
        u.sec.times = b.sec.times ∧ u.sec.gapChange = b.sec.gapChange ∧ u.sec.lastCar = b.sec.lastCar ∧
        (b.out.hold = b.holdWanted →
          u.sec.holdFail = b.sec.holdFail ∧
          u.sec.holdTimer =
            if u.out.hold = true ∧ (b.out.hold = false ∨ b.sec.motion = .stopped) then
              some (b.now + b.cfg.holdResponse * 1000000)
            else b.sec.holdTimer) ∧
        u.calls = { b.calls with
          holdSound := if b.calls.list.any atHold then some (b.now + 2000000) else b.calls.holdSound
          list := b.calls.list.map (fun x =>
            if x.state = .holding ∨ x.state = .overdue then x
            else if 1 < x.remaining then { x with remaining := x.remaining - 1 }
            else if (b.cfg.policy x.kind).policy = .signal then
              { x with remaining := 0, state := .overdue }
            else { x with
              remaining := 0, state := .holding, holdStart := b.knownSecond, heldFor := 0 }) } ∧
        (b.mode = .shift → b.RecordsOk → ∀ r ∈ b.ret.current, ∃ r' ∈ u.ret.current,
          r'.raised = r.raised ∧
          ∀ k, r'.holds.get k = min 255 (r.holds.get k +
            (b.calls.list.filter (fun x => atHold x && x.kind = k)).length)) ∧
        (b.mode ≠ .shift → u.ret = b.ret) ∧
        (b.Ok → b.mode = .shift → b.sec.motion = .stopped →
          ∀ i ∈ b.ret.interval, ∀ k ∈ evaluate b.cfg (b.setCalls u.calls).attInputs,
          ∀ r ∈ b.ret.current, ∃ r' ∈ u.ret.current,
            let own : Interval := ⟨k, 0, b.att.carried == some k⟩
            u.ret.interval = none ∧ u.att.cause = none ∧
            (k = i.key → r'.tally = (r.close_ i).tally) ∧
            ((∀ c ∈ b.pending.head?, b.now < momentOf c) → k ≠ i.key →
              r'.tally = ((r.close_ i).close_ own).tally) ∧
            (∀ c rest calls, b.pending = c :: rest → momentOf c ≤ b.now →
              (∀ d ∈ rest.head?, b.now < momentOf d) → b.Quiet →
              ((∃ t' n x y cord, ∃ z : Call, c = .qualifyTimeExpiry t' (.call n) x y ∧
                  Counted b (.call n) ∧ b.cfg.cord n = some cord ∧ b.calls.find cord = some z ∧
                  atHold z = true ∧ (b.cfg.policy cord.kind).policy ≠ .off ∧
                  calls = { u.calls with list := u.calls.list.filter (fun w =>
                    ¬ (w.station = cord.station ∧ w.kind = cord.kind)) }) ∨
                (∃ t' x y, c = .qualifyTimeExpiry t' .clr x y ∧ Counted b .clr ∧ b.calls.list ≠ [] ∧
                  calls = { u.calls with list := [], overflow := none })) →
              k ≠ i.key → ∀ k' ∈ evaluate b.cfg (b.setCalls calls).attInputs,
                (k' = k → r'.tally = ((r.close_ i).close_ own).tally) ∧
                (k' ≠ k → r'.tally =
                  (((r.close_ i).close_ own).close_ ⟨k', 0, false⟩).tally))) ∧
        (b.out.hold = false → u.out.hold = true → ∃ h ∈ u.ownHolder,
          u.disp.running = some (alertRun b.cfg.zone h.kind b.now)) ∧
        u.HoldFollows ∧ u.OwnFollows ∧ b.LinkFollows u ∧
        u.ret = { b.ret with interval := u.ret.interval, current := u.ret.current } ∧
        u.table = { b.table with own := u.table.own } ∧
        u.bus = { b.bus with status := u.bus.status } ∧
        (b.OwnFollows → u.bus.status =
          if u.table.own = b.table.own then b.bus.status else b.bus.status.mark) ∧
        u.pace = { b.pace with downtime := u.pace.downtime } ∧
        u.start = { b.start with dormantCount := u.start.dormantCount } ∧
        u.clock = b.clock ∧ u.disp.store = b.disp.store ∧ u.disp.flash = b.disp.flash ∧
        u.mode = b.mode ∧ u.cfg = b.cfg ∧ u.req = b.req ∧ u.pins = b.pins ∧ u.pending = b.pending) ∧
    ((∃ l ∈ b.sec.lastPulse, b.now < l + gap * 1000) →
      ∃ u, exec (.advancePulse t) s = .next u ∧
        u.sec.lastPulse = b.sec.lastPulse ∧ u.sec.stopTimer = b.sec.stopTimer ∧
        u.sec.motion = b.sec.motion ∧ u.sec.run = 0 ∧
        u.sec.window = (b.sec.window ++ [true]).drop (b.sec.window.length + 1 - 16) ∧
        (u.sec.encFault = true ↔
          b.sec.encFault = true ∨ 4 ≤ (u.sec.window.filter (fun x => x)).length) ∧
        (b.setSec { b.sec with
          run := 0, window := u.sec.window, encFault := u.sec.encFault }).FollowedFrom u)

/-- The expiry of the stop-detect timer declares STOPPED and cancels the hold check; the expiry of the
hold response timer sets the hold-fail flag and lets the calls hold on (R32, R34, R35). -/
def Obligations.SectionTimersExpire : Prop :=
  ∀ (t d : Time) (s : State),
    let b := s.begin_ t
    b.sec.times = b.currentTimes → b.out.hold = b.holdWanted → b.running = true →
    (b.mirror = false → b.sec.motion ≠ .stopped → b.sec.stopTimer = some d →
      d + b.sec.times.stopDetect * 1000 ≤ b.now →
      ∃ u, exec (.stopDetectExpiry t) s = .next u ∧
        u.sec.motion = .stopped ∧ u.sec.stopTimer = none ∧ u.sec.holdTimer = none ∧
        u.sec.holdFail = false ∧ u.table.own.motion = .stopped ∧
        (b.setSec { b.sec with
          motion := .stopped, stopTimer := none, holdTimer := none, holdFail := false }).FollowedFrom u) ∧
    (b.sec.holdTimer = some d → d ≤ b.now →
      ∃ u, exec (.holdResponseExpiry t) s = .next u ∧
        u.sec.holdFail = true ∧ u.sec.holdTimer = none ∧
        (b.mirror = false → u.table.own.holdFail = true) ∧
        u.calls = b.calls ∧ u.out.hold = b.out.hold ∧
        (b.setSec { b.sec with holdTimer := none, holdFail := true }).FollowedFrom u)

/-- A car-out edge is counted on a count point in SHIFT, below 9,999 and at least the car-out spacing
after the last counted one: the counter and the actual advance by 1 and COUNT is marked; otherwise
nothing changes (R36, R114, R124). -/
def Obligations.CarOutEdgeIsCounted : Prop :=
  ∀ (t : Time) (s : State),
    let b := s.begin_ t
    (b.cfg.roles.countPoint = true → b.mode = .shift → b.ret.car < 9999 →
      (∀ l ∈ b.sec.lastCar, l + b.cfg.carSpacing * 1000000 ≤ b.now) →
      ∃ u, exec (.carOutEdge t) s = .next u ∧
        u.ret.car = b.ret.car + 1 ∧ u.ret.actual = b.ret.car + 1 ∧ u.sec.lastCar = some b.now ∧
        u.pace.period = 0 ∧ (b.mirror = false → u.bus.count = b.bus.count.mark) ∧
        (((b.setSec { b.sec with lastCar := some b.now }).setRet
          { b.ret with car := b.ret.car + 1, actual := b.ret.car + 1 }).setPace
          { b.pace with period := 0 }).FollowedFrom
            (u.setBus { u.bus with count := b.bus.count })) ∧
    ((b.cfg.roles.countPoint = false ∨ b.mode ≠ .shift ∨ 9999 ≤ b.ret.car ∨
        ∃ l ∈ b.sec.lastCar, b.now < l + b.cfg.carSpacing * 1000000) →
      exec (.carOutEdge t) s = .next b)

/-- A change of STRV, BLKD or HOLDRB restarts its filter; once the level has stood for 1 s (100 ms for
HOLDRB) the flag follows it (R54, R62). -/
def Obligations.SensorsAreFiltered : Prop :=
  ∀ (t : Time) (x : Sensor) (v : Bool) (s : State),
    let b := s.begin_ t
    (b.pins.sensor x ≠ v →
      ∃ u, exec (.bufferSensorChange t x v) s = .next u ∧
        u.pins.sensor x = v ∧ u.table.filter x = ⟨b.now, (b.table.filter x).flag⟩ ∧
        u = (b.setPins (b.pins.setSensor x v)).setTable (b.table.setFilter x (u.table.filter x))) ∧
    (b.sensorSampled x = true → (b.table.filter x).since + 1000000 ≤ b.now →
      ∃ u, exec (.bufferSensorQualifyExpiry t x) s = .next u ∧
        (u.table.filter x).flag = b.pins.sensor x ∧
        (b.mirror = false →
          match x with
          | .strv => u.table.own.starved = b.pins.strv
          | .blkd => u.table.own.blocked = b.pins.blkd) ∧
        (b.setTable (b.table.setFilter x
          ⟨(b.table.filter x).since, b.pins.sensor x⟩)).FollowedFrom u) ∧
    (b.pins.holdrb ≠ v →
      ∃ u, exec (.readBackChange t v) s = .next u ∧
        u.pins.holdrb = v ∧ u.att.readBack = ⟨b.now, b.att.readBack.flag⟩ ∧
        u = (b.setPins { b.pins with holdrb := v }).setAtt { b.att with readBack := u.att.readBack }) ∧
    (b.running = true → b.att.readBack.since + 100000 ≤ b.now →
      ∃ u, exec (.readBackQualifyExpiry t) s = .next u ∧
        u.att.readBack = ⟨b.att.readBack.since, b.pins.holdrb⟩ ∧
        u.att.copies.readBack = b.pins.holdrb ∧
        (b.setAtt { b.att with readBack := ⟨b.att.readBack.since, b.pins.holdrb⟩ }).FollowedFrom u)

/-! ## Seconds expiry and the limits it brings (R88, R89) -/

/-- A seconds expiry of an awake board: s or the pause remainder, held-for of HOLDING calls, ages of
entries, clash, refresh, mark and silence counts, the count period, the target peak, message durations,
the dormant count, and in SHIFT one second in the open interval; the expiry that starts a break closes it
without that second, and the one that ends a break opens one on a section that stands and gives it the
second (R14, R47, R51, R57, R72, R88, R89, R96, R112, R116, R124, R150, R195). The silence count counts while
the time source is a station other than the board itself, one that sends under its number too by the model's
reading (log 38). That a count may stand at its limit until its own command (log 3), and that the clash count
is not counted where a clash frame has met its end (log 32), is the model's choice. -/
def Obligations.SecondsExpiryCounts : Prop :=
  ∀ (t : Time) (s : State),
    let b := s.begin_ t
    b.Ok → b.mode.awake = true →
    ∃ u, exec (.secondsExpiry t) s = .next u ∧
      u.clock.s = (if b.mode = .shift ∧ b.clock.timeValid = true ∧ b.clock.pause = 0 then
        min 57599 (b.clock.s + 1) else b.clock.s) ∧
      u.clock.pause = (if b.mode = .shift ∧ b.clock.timeValid = true then b.clock.pause - 1
        else b.clock.pause) ∧
      u.clock.silence = (if b.clock.source ≠ none ∧ b.clock.sourceOwn = false then min 30 (b.clock.silence + 1)
        else b.clock.silence) ∧
      u.clock.markCount = (if b.mode ≠ .dormant ∧ b.clock.authority = true then b.clock.markCount + 1
        else b.clock.markCount) ∧
      u.calls = { b.calls with list := b.calls.list.map (fun x =>
        if x.state = .holding ∧ b.mode ≠ .dormant then { x with heldFor := min 65535 (x.heldFor + 1) }
        else x) } ∧
      u.table.entries = b.table.entries.map (fun e => { e with age := min 255 (e.age + 1) }) ∧
      u.table.mirrored = b.table.mirrored.map (fun e => { e with age := min 255 (e.age + 1) }) ∧
      u.table.clash = b.table.clash ∧ u.table.clashMet = none ∧
      u.table.clashCount = (if b.table.clash = false then b.table.clashCount
        else if b.table.clashMet = some b.now then 0 else min 60 (b.table.clashCount + 1)) ∧
      u.table.refreshCount = (if b.mode ≠ .dormant then b.table.refreshCount + 1
        else b.table.refreshCount) ∧
      u.pace.silence = (if b.pace.source = none then b.pace.silence
        else min 30 (b.pace.silence + 1)) ∧
      u.pace.period = (if b.mode ≠ .dormant ∧ b.cfg.roles.countPoint = true ∧ b.ret.serial ≠ none then
        b.pace.period + 1 else b.pace.period) ∧
      (∀ p ∈ b.usablePlan, b.mode = .shift → b.clock.timeValid = true →
        u.ret.peak = some (max (b.ret.peak.getD 0) (targetAt p.entries u.clock.s))) ∧
      (b.usablePlan = none ∨ b.mode ≠ .shift ∨ b.clock.timeValid = false →
        u.ret.peak = b.ret.peak) ∧
      u.disp.store = b.disp.store.map (fun m => { m with remaining := m.remaining - 1 }) ∧
      (b.mode = .standby → b.cfg.dormantOn = true → b.calls.list = [] → b.calls.overflow = none →
        u.start.dormantCount = b.start.dormantCount + 1) ∧
      (b.mode = .shift → u.inBreak = b.inBreak → ∀ i ∈ b.ret.interval,
        u.sec.motion = b.sec.motion →
          u.ret.interval = some { i with seconds := addSeconds i.seconds 1 }) ∧
      (b.mode = .shift → b.inBreak = false → u.inBreak = true → u.ret.interval = none ∧
        u.ret.current.map (fun r => r.total) = b.ret.closeInterval.current.map (fun r => r.total)) ∧
      (b.mode = .shift → b.inBreak = true → u.inBreak = false → b.ownMotion = .stopped →
        ∃ k, evaluate u.cfg u.attInputs = some k ∧ u.att.cause = some k ∧
          u.ret.interval = some ⟨k, 1, b.att.carried == some k⟩ ∧ u.ret.current = b.ret.current) ∧
      u.mode = b.mode ∧ u.cfg = b.cfg ∧ u.pins = b.pins ∧ u.ret.shift = b.ret.shift ∧
      u.ret.serial = b.ret.serial ∧ u.ret.actual = b.ret.actual ∧ u.ret.car = b.ret.car ∧
      u.ret.last = b.ret.last ∧ u.req = b.req ∧ u.bus.tx = b.bus.tx ∧ u.bus.time = b.bus.time ∧
      u.bus.count = b.bus.count ∧ u.bus.reply = b.bus.reply ∧ u.disp.flash = b.disp.flash ∧
      b.LinkFollows u

/-- HOLD_LIMIT_EXPIRY moves every HOLDING call of a TIMED kind at its hold limit to OVERDUE;
ENTRY_SILENT makes every entry not heard for 3R + 1 s SILENT; CLASH_COUNT_EXPIRY clears the clash flag at
60 (R14, R47, R51, R53), the count then 0 by the model's choice (log 32). -/
def Obligations.LimitsOfCallsAndEntries : Prop :=
  ∀ (t : Time) (s : State),
    let b := s.atTime t
    (b.running = true → (∃ x ∈ b.calls.list, b.cfg.timedOut x = true) →
      ∃ u, exec (.holdLimitExpiry t) s = .next u ∧
        u.calls.list = b.calls.list.map (fun x =>
          if x.state = .holding ∧ x.kind ≠ .safety ∧ (b.cfg.policy x.kind).policy = .timed ∧
            (b.cfg.policy x.kind).limit ≤ x.heldFor then { x with state := .overdue } else x) ∧
        u.HoldFollows ∧ (b.setCalls { b.calls with list := u.calls.list }).FollowedFrom u) ∧
    (b.mode.awake = true →
      ((∃ e ∈ b.table.entries, e.overdue = true) ∨ (∃ e ∈ b.table.mirrored, e.overdue = true)) →
      ∃ u, exec (.entrySilent t) s = .next u ∧
        u.table.entries = b.table.entries.map (fun e =>
          if 3 * e.refresh + 1 ≤ e.age then { e with live := false } else e) ∧
        u.table.mirrored = b.table.mirrored.map (fun e =>
          if 3 * e.refresh + 1 ≤ e.age then { e with live := false } else e) ∧
        (b.setTable { b.table with
          entries := u.table.entries, mirrored := u.table.mirrored }).FollowedFrom u) ∧
    (b.mode.awake = true → b.table.clash = true → 60 ≤ b.table.clashCount →
      ∃ u, exec (.clashCountExpiry t) s = .next u ∧
        u.table.clash = false ∧ u.table.clashCount = 0 ∧
        (b.running = true → u.disp.picture.indicators.clash = false) ∧
        (b.setTable { b.table with clash := false, clashCount := 0 }).FollowedFrom u)

/-- REFRESH_COUNT_EXPIRY, MARK_COUNT_EXPIRY and COUNT_PERIOD_EXPIRY mark their slot and return their count
to 0; SILENCE_COUNT_EXPIRY and COUNT_SILENCE_EXPIRY free a source unheard for 30 s, but not a time source
that is the board itself. Nothing else changes (R57, R87, R96, R109, R116, R124, R156). That a station whose
mark was adopted under the own number is not the board itself is the model's reading (log 38). -/
def Obligations.LimitsOfCountsAndSources : Prop :=
  ∀ (t : Time) (s : State),
    let b := s.atTime t
    (b.running = true → b.mirror = false → b.cfg.refresh ≤ b.table.refreshCount →
      ∃ u, exec (.refreshCountExpiry t) s = .next u ∧
        u = (b.setTable { b.table with refreshCount := 0 }).setBus
          { b.bus with status := b.bus.status.mark } ∧ u.bus.status.state ≠ .empty) ∧
    (b.running = true → b.mirror = false → b.clock.authority = true → 10 ≤ b.clock.markCount →
      ∃ u, exec (.markCountExpiry t) s = .next u ∧
        u = (b.setClock { b.clock with markCount := 0 }).setBus
          { b.bus with time := b.bus.time.mark } ∧ u.bus.time.state ≠ .empty) ∧
    (b.running = true → b.mirror = false → b.cfg.roles.countPoint = true → b.ret.serial ≠ none →
      10 ≤ b.pace.period →
      ∃ u, exec (.countPeriodExpiry t) s = .next u ∧
        u = (b.setPace { b.pace with period := 0 }).setBus
          { b.bus with count := b.bus.count.mark } ∧ u.bus.count.state ≠ .empty) ∧
    (b.mode.awake = true → b.clock.source ≠ none → b.clock.sourceOwn = false → 30 ≤ b.clock.silence →
      ∃ u, exec (.silenceCountExpiry t) s = .next u ∧
        u = b.setClock { b.clock with sourceFree := true } ∧ u.clock.isFree = true) ∧
    (b.mode.awake = true → b.pace.source ≠ none → 30 ≤ b.pace.silence →
      ∃ u, exec (.countSilenceExpiry t) s = .next u ∧
        u = b.setPace { b.pace with sourceFree := true } ∧ u.pace.isFree = true)

/-- MESSAGE_DURATION_EXPIRY removes every message whose duration has run out, one that was running gives
way to what stood behind it, and one that was pending is pending no more (R140, R143, R150); that the
successor is the first message behind it still in the store, those that leave at the same expiry skipped, is
the model's choice (log 19). END_OF_PLAN sets the target peak to T_end (R113). -/
def Obligations.LimitsOfMessagesAndPlan : Prop :=
  ∀ (t : Time) (p : Plan) (s : State),
    let b := s.atTime t
    (b.mode.awake = true → (∃ m ∈ b.disp.store, m.remaining = 0) →
      ∃ u v, exec (.messageDurationExpiry t) s = .next u ∧
        u.disp.store = b.disp.store.filter (fun m => m.remaining ≠ 0) ∧
        (∀ r ∈ u.disp.running, ∀ k, r.item = .message k → r ∉ b.disp.running →
          ∃ m ∈ u.disp.store, m.key = k) ∧
        v = b.setDisp { b.disp with
          store := u.disp.store, running := v.disp.running, pending := v.disp.pending } ∧
        (b.StoreOk → b.TextAfterLeaving v (fun k =>
          b.disp.store.any (fun m => m.key = k && m.remaining = 0))) ∧
        v.FollowedFrom u) ∧
    (b.Ok → b.mode = .shift → b.clock.timeValid = true → b.pace.plan = some p → p.usable = true →
      lengthOf p.entries ≤ b.clock.s →
      ∃ u, exec (.endOfPlan t) s = .next u ∧
        u.ret.peak = some (planTotal p.entries) ∧ u.ret.peak = b.pace.tEnd ∧
        u.figures.projection = .value b.ret.actual ∧
        (b.setRet { b.ret with peak := u.ret.peak }).FollowedFrom u)

/-- DORMANT_COUNT_EXPIRY takes a board from STANDBY to DORMANT: dark and silent, motion UNKNOWN with its
timers stopped, slots that are not SENDING emptied, receiver disarmed, wake detector WAITING; entries,
records, messages and clock are kept (R40, R59, R86, R152, R168, R187, R195). An attempt in hand goes on
and bears that the board has slept, the re-mark flag of its slot cleared (log 16); on a line that is idle the
next start bit begins an activity, told by a flag of the model (R167, log 17); the kept flash phase (log 21) and the page
index 1 (log 34) are the model's choice, and so is that a count period, mark count or refresh count which
reached its limit at the same expiry stands there meanwhile (log 42). -/
def Obligations.DormantEntry : Prop :=
  ∀ (t : Time) (s : State),
    let b := s.atTime t
    b.Ok → b.mode = .standby → b.cfg.dormantOn = true →
    b.cfg.dormantMinutes * 60 ≤ b.start.dormantCount →
    ∃ u, exec (.dormantCountExpiry t) s = .next u ∧
      u.mode = .dormant ∧ u.start.dormantCount = 0 ∧ u.out.hold = false ∧ u.out.horn = false ∧
      u.disp.picture = .dark ∧ u.disp.running = none ∧ u.disp.pending = none ∧ u.disp.page = 1 ∧
      u.disp.store = b.disp.store ∧ u.sec.motion = .unknown ∧ u.sec.lastPulse = none ∧
      u.sec.window = [] ∧ u.sec.run = 0 ∧ u.sec.encFault = false ∧ u.sec.stopTimer = none ∧
      u.sec.holdTimer = none ∧ u.sec.holdFail = false ∧
      u.table.starved.flag = false ∧ u.table.blocked.flag = false ∧
      u.att.readBack.flag = false ∧ u.table.entries = b.table.entries ∧
      u.table.mirrored = b.table.mirrored ∧ u.table.clash = b.table.clash ∧
      (∀ i ∈ [SlotId.reply, .status, .count, .time],
        u.bus.slot i = (if (b.bus.slot i).state = .sending then
          { b.bus.slot i with remark := false } else ⟨.empty, 0, false⟩)) ∧
      u.bus.tx = b.bus.tx.map (fun x => { x with slept := true }) ∧ u.bus.jam = b.bus.jam ∧
      u.bus.backoff = none ∧ u.bus.armed = false ∧ u.bus.wake = .waiting ∧
      u.bus.idle = b.bus.idle ∧ u.bus.gapFrom = b.bus.gapFrom ∧ u.bus.gapCut = b.bus.gapCut ∧
      u.bus.activityReady = b.bus.idle ∧ u.pace.period = b.pace.period ∧
      b.LinkFollows u ∧
      u.bus.trouble = b.bus.trouble ∧ u.bus.rng = b.bus.rng ∧ u.req.waiting = none ∧
      u.req.inFlight = b.req.inFlight ∧ u.ret = b.ret ∧ u.check = b.check ∧ u.clock = b.clock ∧
      u.calls = b.calls ∧ u.pins = b.pins ∧ u.cfg = b.cfg

/-! ## Display timers and sounds (R23, R129, R130, R137, R138) -/

/-- The flash phase changes every 500 ms; the page timer turns the page, from the last back to the first,
and restarts; the hold sound and the raise chirp end at their time. Each redraws the picture and changes
nothing else (R23, R130, R137). That the page timer restarts from the command's moment is the model's
choice (log 19). -/
def Obligations.DisplayTimersExpire : Prop :=
  ∀ (t d : Time) (s : State),
    let b := s.begin_ t
    let pages := (b.stopLines.length + 2) / 3
    d ≤ b.now →
    (b.running = true → b.disp.flashDue = some d →
      ∃ u, exec (.flashPhaseChange t) s = .next u ∧
        u.disp.flash = (!b.disp.flash) ∧ u.disp.flashDue = some (d + 500000) ∧ u.ShownFollows ∧
        (b.setDisp { b.disp with
          flash := u.disp.flash, flashDue := u.disp.flashDue }).RedrawnFrom u) ∧
    (b.running = true → b.disp.pageTimer = some d →
      ∃ u, exec (.pageTimerExpiry t) s = .next u ∧
        u.disp.page = (if b.disp.page < pages then b.disp.page + 1 else 1) ∧
        u.disp.pageTimer = some (b.now + 4000000) ∧ u.ShownFollows ∧
        (b.setDisp { b.disp with
          page := u.disp.page, pageTimer := u.disp.pageTimer }).RedrawnFrom u) ∧
    (b.calls.holdSound = some d →
      ∃ u, exec (.holdSoundEnd t) s = .next u ∧
        u.calls.holdSound = none ∧ u.ShownFollows ∧
        (b.setCalls { b.calls with holdSound := none }).RedrawnFrom u) ∧
    (b.calls.chirp = some d →
      ∃ u, exec (.raiseChirpEnd t) s = .next u ∧
        u.calls.chirp = none ∧ u.ShownFollows ∧
        (b.setCalls { b.calls with chirp := none }).RedrawnFrom u)

/-- A step of the text line moves the window by the mode's rule and restarts the step timer; the last
step completes the item, and the next one is chosen: a pending message first; else after the stop banner
the break banner or the first message, after the break banner the first message, after a message the one
behind it in the store; else, and after an alert, the first of the rotation; with none of these the line
goes dark (R138 to R140). The texts of banners and alerts are those of R141, R142 and R144, their numbers
in decimal without leading zeros. The step timer's phase is the model's choice (log 19). -/
def Obligations.TextLineSteps : Prop :=
  (∀ (t : Time) (r : Running) (s : State),
    let b := s.begin_ t
    b.running = true → b.disp.running = some r → r.due ≤ b.now →
    (1 < r.steps →
      ∃ u, exec (.stepTimerExpiry t) s = .next u ∧
        u.disp.running = some { r with
          p := (match r.mode with
            | .fixed => r.p
            | .crawl => r.p + 1
            | .settle => if r.p < ((r.text.length - 20 : Nat) : Int) then r.p + 1 else r.p)
          steps := r.steps - 1, due := b.now + 250000 } ∧
        (b.setDisp { b.disp with running := u.disp.running }).RedrawnFrom u) ∧
    (r.steps ≤ 1 →
      ∃ u, exec (.stepTimerExpiry t) s = .next u ∧
        (r.item = .stopBanner → u.RunsNext b.disp.pending
          (if b.breakRemaining.isSome then some .breakBanner else b.firstMessage)) ∧
        (r.item = .breakBanner → u.RunsNext b.disp.pending b.firstMessage) ∧
        (r.item = .alert → u.RunsNext b.disp.pending none) ∧
        (∀ (i : Nat) (m : Message), r.item = .message m.key → b.StoreOk → b.disp.store[i]? = some m →
          u.RunsNext b.disp.pending (b.disp.store[i + 1]?.map (fun x => .message x.key))) ∧
        (b.setDisp { b.disp with
          running := u.disp.running, pending := u.disp.pending }).RedrawnFrom u)) ∧
  (∀ (z k n : Nat) (q : CallKind),
    let name := match q with
      | .quality => ascii "QUALITY" | .material => ascii "MATERIAL"
      | .equipment => ascii "EQUIPMENT" | .safety => ascii "SAFETY"
    (0 < z →
      stopText ⟨z, k, .call q, .direct⟩ = ascii "STOP Z" ++ decimal z ++ ascii " " ++ name ∧
      stopText ⟨z, k, .call q, .viaStarved⟩ = ascii "STARVED BY Z" ++ decimal z ++ ascii " " ++ name ∧
      stopText ⟨z, k, .call q, .viaBlocked⟩ = ascii "BLOCKED BY Z" ++ decimal z ++ ascii " " ++ name) ∧
    stopText ⟨0, 0, .starved, .viaStarved⟩ = ascii "STARVED FROM SUPPLY" ∧
    stopText ⟨0, 9, .blocked, .viaBlocked⟩ = ascii "BLOCKED FROM DESPATCH" ∧
    (0 < k → k < 9 →
      stopText ⟨0, k, .starved, .viaStarved⟩ = ascii "STARVED FROM S" ++ decimal k ∧
      stopText ⟨0, k, .blocked, .viaBlocked⟩ = ascii "BLOCKED FROM S" ++ decimal k ∧
      stopText ⟨0, k, .external, .direct⟩ = ascii "EXTERNAL HOLD S" ++ decimal k ∧
      stopText ⟨0, k, .drive, .direct⟩ = ascii "DRIVE S" ++ decimal k) ∧
    breakText n = ascii "BREAK " ++ twoDigits (n / 60) ++ ascii ":" ++ twoDigits (n % 60) ∧
    alertText z q = (if q = .safety then ascii "SAFETY HOLD Z" ++ decimal z
      else ascii "HOLD Z" ++ decimal z ++ ascii " " ++ name) ∧
    (n < 10 → decimal n = [byteOf (48 + n)] ∧ twoDigits n = [byteOf 48, byteOf (48 + n)]) ∧
    (10 ≤ n → n < 100000000000 →
      decimal n = decimal (n / 10) ++ [byteOf (48 + n % 10)] ∧ twoDigits n = decimal n))

/-- PICTURE_REFRESH sends the whole picture in every mode but LOADING, behind the one being sent if
there is one; PICTURE_SENT brings the picture to the display modules, and the one that was to follow
begins as the picture then stands (R129). What a refresh does during a send is the model's choice (log
21). -/
def Obligations.PictureIsSentWhole : Prop :=
  ∀ (t : Time) (p : Picture) (s : State),
    let b := s.begin_ t
    (b.mode ≠ .loading →
      ∃ u, exec (.pictureRefresh t) s = .next u ∧
        u = b.setDisp { b.disp with link := u.disp.link } ∧
        (b.disp.link.sending = none →
          u.disp.link = { b.disp.link with sending := some b.disp.picture }) ∧
        (b.disp.link.sending ≠ none → u.disp.link = { b.disp.link with again := true })) ∧
    (b.disp.link.sending = some p →
      ∃ u, exec (.pictureSent t) s = .next u ∧
        u = b.setDisp { b.disp with link := u.disp.link } ∧
        u.disp.link.shown = p ∧ u.disp.link.again = false ∧
        u.disp.link.sending = (if b.disp.link.again then some b.disp.picture else none))

/-! ## Line bus (R155 to R163, R167) -/

/-- LINE_IDLE after 24 bit times of mark makes the line idle and arms the receiver in STANDBY and SHIFT, and
in DORMANT makes the next start bit the start of an activity, told by a flag of the model (log 17);
LINE_BUSY makes it busy. At the end of a gap the two may come in either order: LINE_BUSY first leaves the line
busy, no attempt starts, and the receiver is armed all the same for the other station's frame (R162), which
the model does when LINE_IDLE is taken after it at that moment (log 43). BACKOFF_END ends the wait;
FRAME_DROPPED only disarms, whatever the cause; the end of the wake window returns the detector to WAITING
(R155, R160, R163, R167). From where the gap is counted (log 14) and that a jam is forgotten at the next gap
(log 24) is the model's reading. -/
def Obligations.LineAndReceiver : Prop :=
  ∀ (t d : Time) (why : DropCause) (s : State),
    let b := s.begin_ t
    let complete := b.bus.idle = false ∧ b.bus.tx = none ∧ b.bus.gapFrom + 192 ≤ b.now
    let gapEnded := fun (u : State) (idle : Bool) =>
      (u.bus.armed = true ↔ b.mode = .standby ∨ b.mode = .shift) ∧
      (u.bus.activityReady = true ↔ b.mode = .dormant) ∧
      u = b.setBus { b.bus with
        idle := idle, jam := none, gapCut := none
        armed := u.bus.armed, activityReady := u.bus.activityReady }
    (b.mode.awake = true → complete → ∃ u, exec (.lineIdle t) s = .next u ∧ gapEnded u true) ∧
    (b.mode.awake = true → ¬ complete → b.bus.tx = none → b.bus.gapCut = some b.now →
      ∃ u, exec (.lineIdle t) s = .next u ∧ gapEnded u false) ∧
    (b.mode.awake = false ∨ (¬ complete ∧ (b.bus.tx ≠ none ∨ b.bus.gapCut ≠ some b.now)) →
      exec (.lineIdle t) s = .next b) ∧
    (b.mode.awake = true →
      ∃ u, exec (.lineBusy t) s = .next u ∧
        u.bus.idle = false ∧ u.bus.gapFrom = max b.bus.gapFrom (b.now + 8) ∧
        u.bus.gapCut = (if complete then some b.now else b.bus.gapCut) ∧
        u = b.setBus { b.bus with idle := false, gapFrom := u.bus.gapFrom, gapCut := u.bus.gapCut }) ∧
    (b.mode.awake = true → complete → b.Quiet →
      ∃ v w, exec (.lineBusy t) s = .next v ∧ exec (.lineIdle t) v = .next w ∧
        exec (.transmissionStart t) w = .next w ∧ w.bus.idle = false ∧ w.bus.tx = none ∧
        (w.bus.armed = true ↔ b.mode = .standby ∨ b.mode = .shift)) ∧
    (b.bus.backoff = some d → d ≤ b.now →
      exec (.backoffEnd t) s = .next (b.setBus { b.bus with backoff := none })) ∧
    (exec (.frameDropped t why) s = .next (b.setBus { b.bus with armed := false })) ∧
    (b.mode = .dormant → b.bus.wake = .seen d → d ≤ b.now →
      exec (.wakeWindowExpiry t) s = .next (b.setBus { b.bus with wake := .waiting }))

/-- TRANSMISSION_START, when the line is idle, no backoff wait and no attempt runs and a slot is PENDING,
starts the first PENDING slot in the order REPLY, STATUS, COUNT, TIME with a whole frame of this board as
its content, the slot SENDING with its re-mark flag clear; a waiting reply becomes the one in flight. From
that moment BUS_TX carries the frame's bytes one after another, each as a start bit at space, eight bits
from the least significant on and a stop bit at mark, 8 µs a bit, and BUS_DE is active exactly for space
(R154, R157, R171, R185). That the wave is a function of the state and the moment is the model's form of
it (log 24). -/
def Obligations.AttemptStartsFirstPendingSlot : Prop :=
  ∀ (t : Time) (i : SlotId) (s : State),
    let b := s.begin_ t
    b.Ok → b.running = true → b.mirror = false → b.bus.idle = true → b.bus.backoff = none →
    b.bus.tx = none → (b.bus.slot i).state = .pending →
    (∀ j, (match j, i with
        | .reply, .status => true | .reply, .count => true | .reply, .time => true
        | .status, .count => true | .status, .time => true | .count, .time => true
        | _, _ => false) = true → (b.bus.slot j).state ≠ .pending) →
    ∃ u frame, exec (.transmissionStart t) s = .next u ∧
      u.bus.tx = some ⟨i, frame, b.now, false⟩ ∧ u.bus.jam = none ∧
      (∀ (n : Nat) (x : Byte), frame[n]? = some x → ∀ j, j < 10 →
        u.bus.txLevel (b.now + 8 * (10 * n + j)) =
          (if j = 0 then false else if j = 9 then true else x.getLsbD (j - 1))) ∧
      (∀ m, u.bus.txLevel (b.now + m) = u.bus.txLevel (b.now + 8 * (m / 8)) ∧
        (80 * frame.length ≤ m → u.bus.txLevel (b.now + m) = true) ∧
        u.bus.driverEnabled (b.now + m) = !u.bus.txLevel (b.now + m)) ∧
      (match i with
        | .reply => ∃ w, b.req.waiting = some w ∧ frame = frameOf 6 b.cfg.zone w.target w.payload ∧
            u.req = ⟨none, some w⟩
        | .status => u.req = b.req ∧ b.frameFor .status = some frame
        | .count => u.req = b.req ∧ frame = frameOf 3 b.cfg.zone 127
            ([byteOf b.ret.shift, byteOf (b.ret.serial.getD 0)] ++ be16 b.ret.car)
        | .time => u.req = b.req ∧ frame = frameOf 2 b.cfg.zone 127
            ([byteOf b.ret.shift, byteOf (b.ret.serial.getD 0)] ++ be16 b.clock.s)) ∧
      u.bus.slot i = ⟨.sending, (b.bus.slot i).c, false⟩ ∧
      (∀ j, j ≠ i → u.bus.slot j = b.bus.slot j) ∧
      u.bus.idle = false ∧ u.bus.armed = false ∧
      u = (b.setBus u.bus).setReq u.req ∧
      u.bus = { (b.bus.setSlot i (u.bus.slot i)) with
        tx := u.bus.tx, jam := none, idle := false, armed := false, gapFrom := u.bus.gapFrom }

/-- FRAME_SENT empties the slot, or leaves it PENDING with c = 0 when it was re-marked, clears the
bus-trouble flag, which marks STATUS where it was set, resets the refresh count after a ZONE STATUS and ends
the reply in flight after a REPLY (R56, R58, R158, R185). An attempt that was in hand at an entry into
DORMANT empties its slot, keeps the flag and leaves no reply held (R168, R187), also where the board has woken
since (log 16). That it is taken at whatever moment the command carries is the model's choice (log 40). -/
def Obligations.SentFrameFreesSlot : Prop :=
  ∀ (t : Time) (x : Tx) (s : State),
    let b := s.begin_ t
    let free : Slot := if (b.bus.slot x.slot).remark = true ∧ x.slept = false
      then ⟨.pending, 0, false⟩ else ⟨.empty, 0, false⟩
    let status : Slot := if x.slot = .status then free else b.bus.status
    b.bus.tx = some x →
    ∃ u, exec (.frameSent t) s = .next u ∧
      u.bus.tx = none ∧ u.bus.jam = b.bus.jam ∧ (x.slot ≠ .status → u.bus.slot x.slot = free) ∧
      (x.slot = .status → u.bus.status = free ∨ u.bus.status = free.mark) ∧
      (b.Ok → u.bus.status =
        if b.bus.trouble = true ∧ x.slept = false then status.mark else status) ∧
      u.bus.trouble = (b.bus.trouble && x.slept) ∧
      u.table.refreshCount = (if x.slot = .status then 0 else b.table.refreshCount) ∧
      u.table.restarted =
        (b.table.restarted && !(x.slot = .status ∧ frameRestarted x.frame = true : Bool)) ∧
      u.req = (if x.slot ≠ .reply then b.req
        else if x.slept = true then ⟨none, none⟩ else { b.req with inFlight := none }) ∧
      u.bus.rng = b.bus.rng ∧ u.bus.backoff = b.bus.backoff ∧
      (∀ j, j ≠ x.slot → j ≠ .status → u.bus.slot j = b.bus.slot j) ∧
      (b.bus.trouble = true → x.slept = false → b.running = true → b.mirror = false → b.OwnFollows →
        u.bus.status.state ≠ .empty) ∧
      u.calls = b.calls ∧ u.clock = b.clock ∧ u.mode = b.mode ∧ u.cfg = b.cfg ∧ u.pins = b.pins ∧
      u.disp.store = b.disp.store ∧ b.LinkFollows u

/-- COLLISION: the line is driven to space for 20 bit times from the next bit time on, then let go; below
the eighth the slot is PENDING again with its count up by one (0 for a REPLY that gives way to a newer
one) and a backoff of r slot times is drawn from the end of the jam; the eighth discards the frame and
sets the bus-trouble flag, which marks STATUS where it was clear and marks nothing where it was set (R56,
R159, R160, R161, R185). Of an attempt that was in hand at an entry into DORMANT nothing is counted or drawn,
its slot is emptied and no reply stays held (R168, R187), also where the board has woken since (log 16). That
the command's moment is the start of the collision's bit (log 14), and that count and draw are taken with it,
before the jam's end (log 24), is the model's reading; that it is taken whatever bit is being sent then is its
choice (log 40). -/
def Obligations.CollisionBacksOffOrDiscards : Prop :=
  ∀ (t : Time) (x : Tx) (g : BitVec 16) (s : State),
    let b := s.begin_ t
    let c := (b.bus.slot x.slot).c + 1
    let g' := if g.toNat % 2 = 1 then (g >>> 1) ^^^ 0xB400#16 else g >>> 1
    let r := g'.toNat % 2 ^ min c 5
    let ended : Slot :=
      if (b.bus.slot x.slot).remark = true then ⟨.pending, 0, false⟩ else ⟨.empty, 0, false⟩
    let status : Slot := if x.slot = .status then ended else b.bus.status
    let jammedFrom := fun (u : State) (m : Time) =>
      u.bus.tx = none ∧ u.bus.jam = some m ∧ u.bus.idle = false ∧
      ∀ n : Time, u.bus.driverEnabled n = true ↔ m ≤ n ∧ n < m + 160
    let kept := fun (u : State) =>
      (∀ j, j ≠ x.slot → j ≠ .status → u.bus.slot j = b.bus.slot j) ∧
      u.table.refreshCount = b.table.refreshCount ∧ u.table.restarted = b.table.restarted ∧
      u.calls = b.calls ∧ u.clock = b.clock ∧ u.mode = b.mode ∧ u.cfg = b.cfg ∧ b.LinkFollows u
    b.bus.tx = some x → b.bus.rng = some g →
    (x.slept = false → b.running = true → c < 8 →
      ∃ u, exec (.collision t) s = .next u ∧ jammedFrom u (b.now + 8) ∧ kept u ∧
        u.bus.slot x.slot = ⟨.pending,
          if x.slot = .reply ∧ b.bus.reply.remark = true then 0 else c, false⟩ ∧
        u.bus.rng = some g' ∧
        u.bus.backoff = (if r = 0 then none else some (b.now + 8 + 160 + r * 1024)) ∧
        u.bus.trouble = b.bus.trouble ∧
        (b.Ok → x.slot ≠ .status → u.bus.status = b.bus.status) ∧
        (x.slot = .reply → u.req = (match b.req.waiting with
          | some w => ⟨some w, none⟩
          | none => ⟨b.req.inFlight, none⟩)) ∧
        (x.slot ≠ .reply → u.req = b.req)) ∧
    (x.slept = false → b.running = true → 8 ≤ c →
      ∃ u, exec (.collision t) s = .next u ∧ jammedFrom u (b.now + 8) ∧ kept u ∧
        u.bus.trouble = true ∧ u.bus.rng = some g ∧ u.bus.backoff = b.bus.backoff ∧
        (x.slot ≠ .status → u.bus.slot x.slot = ended) ∧
        (b.Ok → u.bus.status = if b.bus.trouble = true then status else status.mark) ∧
        (b.bus.trouble = false → b.mirror = false → b.OwnFollows → u.bus.status.state ≠ .empty) ∧
        u.req = (if x.slot = .reply then { b.req with inFlight := none } else b.req)) ∧
    (x.slept = true →
      ∃ u, exec (.collision t) s = .next u ∧ jammedFrom u (b.now + 8) ∧ kept u ∧
        u.bus.trouble = b.bus.trouble ∧ u.bus.rng = some g ∧ u.bus.backoff = b.bus.backoff ∧
        (x.slot ≠ .status ∨ b.Ok → u.bus.slot x.slot = ⟨.empty, 0, false⟩) ∧
        (b.Ok → x.slot ≠ .status → u.bus.status = b.bus.status) ∧
        u.req = (if x.slot = .reply then ⟨none, none⟩ else b.req))

/-- WAKE_ACTIVITY in DORMANT: under the single-activity form, or within the window of a first activity,
the board wakes to STANDBY with its STATUS slot marked, on a board with authority TIME and on a count
point with a serial COUNT, the receiver not armed before the next gap, the flash phase on, motion UNKNOWN
and the restarted flag as it was; under the two-activity form a first activity starts the 2 s window (R40,
R59, R108, R124, R152, R167, R168, R196). Which start bit begins an activity is told by a flag of the
model (log 17), or by the gap that ends at its very moment, LINE_IDLE not yet taken (log 43); the idle count
runs on from the end of the start bit (log 14, 15), and an activity at the very end of the window counts as
within it (log 35). -/
def Obligations.WakeActivityWakesBoard : Prop :=
  ∀ (t : Time) (s : State),
    let b := s.begin_ t
    let begins := b.bus.activityReady = true ∨
      (b.bus.idle = false ∧ b.bus.tx = none ∧ b.bus.gapFrom + 192 ≤ b.now) ∨
      (b.bus.tx = none ∧ b.bus.gapCut = some b.now)
    b.Ok → b.mode = .dormant → (¬ begins → exec (.wakeActivity t) s = .next b) ∧ (begins →
    ((b.cfg.twoActivity = false ∨ ∃ d, b.bus.wake = .seen d ∧ b.now ≤ d) →
      ∃ u, exec (.wakeActivity t) s = .next u ∧
        u.mode = .standby ∧ u.bus.wake = .off ∧ u.bus.idle = false ∧ u.bus.armed = false ∧
        u.bus.activityReady = false ∧ u.bus.gapFrom = b.now + 8 ∧ u.bus.gapCut = none ∧
        u.start.dormantCount = 0 ∧ u.table.restarted = b.table.restarted ∧
        u.table.refreshCount = 0 ∧ u.table.entries = b.table.entries ∧
        (b.mirror = false → u.bus.status.state ≠ .empty ∧ u.sec.stopTimer = some b.now) ∧
        (b.clock.authority = true → u.bus.time.state ≠ .empty ∧ u.clock.markCount = 0) ∧
        (b.cfg.roles.countPoint = true → b.ret.serial ≠ none →
          u.bus.count = b.bus.count.mark ∧ u.bus.count.state ≠ .empty ∧ u.pace.period = 0) ∧
        b.LinkFollows u ∧
        u.sec.motion = .unknown ∧ u.disp.flash = true ∧ u.disp.page = 1 ∧
        u.disp.store = b.disp.store ∧ u.ret = b.ret ∧ u.calls = b.calls ∧ u.bus.rng = b.bus.rng ∧
        u.bus.tx = b.bus.tx ∧ u.cfg = b.cfg ∧ u.pins = b.pins ∧ u.req = b.req) ∧
    (b.cfg.twoActivity = true → b.bus.wake = .waiting →
      ∃ u, exec (.wakeActivity t) s = .next u ∧
        u.bus.wake = .seen (b.now + 2000000) ∧ u.mode = .dormant ∧
        u = b.setBus { b.bus with
          wake := u.bus.wake, idle := false, gapFrom := b.now + 8, activityReady := false
          gapCut := none }))

/-! ## Frames taken (R44, R97 to R100, R115 to R117, R146 to R149) -/

/-- A ZONE STATUS that passes R44: from another zone it writes that zone's entry, LIVE and just heard,
the others kept; under the own zone number it sets the clash flag, or on a mirror writes the mirrored
record; on a count point it raises the counter to the frame's actual under the same boundary. One that
fails R44 changes nothing in the table. A REPLY is taken and reaches no block (R38, R44, R45, R51, R52,
R165). That a count point also reads a frame that fails R44 is the model's reading (log 26), as is the
end of the reception as the moment the gap is counted from (log 14) and what a clash frame leaves for an
expiry at its own moment (log 32). -/
def Obligations.ZoneStatusIsTaken : Prop :=
  ∀ (t : Time) (frame : List Byte) (sender target : Nat) (p : List Byte) (s : State),
    let b := s.begin_ t
    let f := min (wordAt p 13) 9999
    (Taken b frame 1 sender target p → b.Ok →
      ∃ u, exec (.zoneStatus t frame) s = .next u ∧
        (statusAccepted b.cfg.nS sender p = true → sender ≠ b.cfg.zone →
          u.table.entries.find? (fun e => e.zone = sender) = some (entryOfStatus sender p) ∧
          u.table.entries.filter (fun e => e.zone ≠ sender) =
            b.table.entries.filter (fun e => e.zone ≠ sender) ∧
          u.table.mirrored = b.table.mirrored ∧ u.table.clash = b.table.clash ∧
          u.table.clashCount = b.table.clashCount ∧ u.table.clashMet = b.table.clashMet) ∧
        (statusAccepted b.cfg.nS sender p = true → sender = b.cfg.zone →
          u.table.entries = b.table.entries ∧
          (b.mirror = false → u.table.clash = true ∧ u.table.clashCount = 0 ∧
            u.table.mirrored = b.table.mirrored ∧
            (b.table.clash = true → 59 ≤ b.table.clashCount → u.table.clashMet = some b.now) ∧
            (b.table.clash = false → b.table.clashMet = none → u.table.clashMet = none)) ∧
          (b.mirror = true → u.table.mirrored = some (entryOfStatus sender p) ∧
            u.table.clash = b.table.clash)) ∧
        (statusAccepted b.cfg.nS sender p = false →
          u.table = { b.table with own := u.table.own }) ∧
        u.ret.car = (if b.cfg.roles.countPoint = true ∧ b.mode = .shift ∧ byteAt p 0 = b.ret.shift ∧
          b.ret.serial = some (byteAt p 1) ∧ sender ≠ b.cfg.zone then max b.ret.car f
          else b.ret.car) ∧
        (u.ret.car ≠ b.ret.car → u.bus.count = b.bus.count.mark ∧ u.pace.period = 0) ∧
        u.sec.lastCar = b.sec.lastCar ∧ u.bus.armed = false ∧ u.calls = b.calls ∧
        u.clock = b.clock ∧ u.mode = b.mode ∧ u.cfg = b.cfg ∧ u.req = b.req ∧ u.pins = b.pins ∧
        u.disp.store = b.disp.store ∧ u.ret.last = b.ret.last ∧ b.LinkFollows u) ∧
    (Taken b frame 6 sender target p → exec (.reply t frame) s = .next (Disarmed b))

/-- A TIME MARK: out of range, stale, or of the same serial with another shift number changes nothing
but the reception; a serial 1..127 ahead, or any on a board without one, is adopted as a new boundary;
one of the same boundary is adopted from a free source or a sender not above it, and sets s by R100; one
at or above the overtime limit ends the shift (R90, R97 to R100); the target peak follows the new second
(R112, R125). At each boundary the car counter returns to 0 with no car-out edge recorded, and marks COUNT
where it was above 0 (R37, R124); that a counter of 0 makes no mark is the model's reading (log 22). That a mark
under the own number is adopted while the source is the board itself is the model's
choice (log 37); that its sender is then another station (log 38), that s stays 0 in shift 0 (log 18), and
from when the gap after the frame is counted (log 14), is its reading. -/
def Obligations.TimeMarkIsJudged : Prop :=
  ∀ (t : Time) (frame : List Byte) (sender target : Nat) (p : List Byte) (s : State),
    let b := s.begin_ t
    let sh := byteAt p 0
    let ser := byteAt p 1
    let m := wordAt p 2
    let ahead := b.ret.serial = none ∨
      ∃ x ∈ b.ret.serial, 1 ≤ (ser + 256 - x) % 256 ∧ (ser + 256 - x) % 256 ≤ 127
    let same := b.ret.serial = some ser ∧ sh = b.ret.shift ∧
      (b.clock.isFree = true ∨ ∃ x ∈ b.clock.source, sender ≤ x)
    Taken b frame 2 sender target p → b.Ok →
    ((3 < sh ∨ 57599 < m ∨ (¬ ahead ∧ ¬ same)) →
      ∃ u, exec (.timeMark t frame) s = .next u ∧ u.clock = b.clock ∧ u.ret.shift = b.ret.shift ∧
        u.ret.serial = b.ret.serial ∧ u.mode = b.mode ∧ (Disarmed b).FollowedFrom u) ∧
    (sh ≤ 3 → m ≤ 57599 → ahead →
      ∃ u, exec (.timeMark t frame) s = .next u ∧
        u.clock.timeValid = true ∧ u.clock.source = some sender ∧ u.clock.sourceOwn = false ∧
        u.clock.isFree = false ∧ u.clock.silence = 0 ∧
        u.clock.pause = 0 ∧ u.clock.authority = (b.clock.authority || b.cfg.roles.reference) ∧
        ((sh = 0 ∨ m < overtimeLimitOf (b.clock.plans.get sh)) →
          u.ret.shift = sh ∧ u.ret.serial = some ser ∧ u.clock.s = (if sh = 0 then 0 else m) ∧
          u.mode = (if sh = 0 then .standby else .shift) ∧ u.bus.time = b.bus.time ∧
          u.ret.peak = b.clock.plans.freshPeak sh m) ∧
        (sh ≠ 0 → overtimeLimitOf (b.clock.plans.get sh) ≤ m →
          u.ret.shift = 0 ∧ u.ret.serial = some ((ser + 1) % 256) ∧ u.clock.s = 0 ∧
          u.mode = .standby ∧ u.ret.peak = none) ∧
        b.CounterReturns u ∧ u.ret.actual = 0 ∧ u.pace.source = none ∧ b.LinkFollows u ∧
        u.disp.store = b.disp.store ∧ u.req = b.req ∧
        u.cfg = b.cfg ∧ u.table.entries = b.table.entries.filter (fun e => e.live)) ∧
    (sh ≤ 3 → m ≤ 57599 → same → (b.mode = .shift → m < b.overtimeLimit) →
      ∃ u, exec (.timeMark t frame) s = .next u ∧
        u.clock.timeValid = true ∧ u.clock.source = some sender ∧ u.clock.sourceOwn = false ∧
        u.clock.isFree = false ∧ u.clock.silence = 0 ∧
        u.clock.authority = (b.clock.authority || b.cfg.roles.reference) ∧
        u.ret.shift = b.ret.shift ∧ u.ret.serial = b.ret.serial ∧ u.mode = b.mode ∧
        (b.mode = .shift →
          (b.clock.timeValid = false ∨ b.clock.s ≤ m → u.clock.s = m ∧ u.clock.pause = 0) ∧
          (b.clock.timeValid = true → m < b.clock.s → b.clock.s ≤ m + 60 →
            u.clock.s = b.clock.s ∧ u.clock.pause = b.clock.s - m) ∧
          (b.clock.timeValid = true → m + 60 < b.clock.s → u.clock.s = m ∧ u.clock.pause = 0) ∧
          (∀ q ∈ b.usablePlan, (u.clock.s ≠ b.clock.s ∨ b.clock.timeValid = false) →
            u.ret.peak = some (max (b.ret.peak.getD 0) (targetAt q.entries u.clock.s)))) ∧
        (b.mode ≠ .shift ∨ b.usablePlan = none ∨
          (u.clock.s = b.clock.s ∧ b.clock.timeValid = true) → u.ret.peak = b.ret.peak) ∧
        (b.mode = .standby → u.clock.s = 0) ∧
        u.ret.actual = b.ret.actual ∧ u.ret.car = b.ret.car ∧ u.ret.last = b.ret.last ∧
        u.sec.lastCar = b.sec.lastCar ∧ u.bus.count = b.bus.count ∧ u.pace.period = b.pace.period ∧
        b.LinkFollows u ∧ u.calls = b.calls ∧ u.disp.store = b.disp.store ∧ u.req = b.req ∧ u.cfg = b.cfg) ∧
    (m ≤ 57599 → same → b.mode = .shift → b.overtimeLimit ≤ m →
      ∃ u, exec (.timeMark t frame) s = .next u ∧
        u.mode = .standby ∧ u.ret.shift = 0 ∧ u.ret.serial = some ((ser + 1) % 256) ∧
        u.clock.s = 0 ∧ u.clock.pause = 0 ∧ u.clock.timeValid = true ∧
        u.clock.source = some sender ∧ u.clock.sourceOwn = false ∧ u.clock.isFree = false ∧
        u.clock.silence = 0 ∧ u.clock.authority = (b.clock.authority || b.cfg.roles.reference) ∧
        u.bus.time = (if u.clock.authority = true then b.bus.time.mark else b.bus.time) ∧
        u.ret.current = none ∧ u.ret.interval = none ∧ u.ret.actual = 0 ∧ u.ret.peak = none ∧
        b.CounterReturns u ∧ u.pace.source = none ∧ b.LinkFollows u ∧
        u.ret.last.map (fun r => (r.shift, r.close.map (fun x => x.actual), r.changed)) =
          some (b.ret.shift, some b.ret.actual, true) ∧
        u.disp.store = b.disp.store ∧ u.req = b.req ∧ u.cfg = b.cfg)

/-- A COUNT is used when it bears the board's own boundary, comes from a zone board that is not below the
count source (or the source is free), and the board is no count point: the actual takes the larger value,
at most 9,999. Otherwise it changes nothing (R114 to R117). From when the gap after the frame is counted
is the model's reading (log 14). -/
def Obligations.CountFrameIsJudged : Prop :=
  ∀ (t : Time) (frame : List Byte) (sender target : Nat) (p : List Byte) (s : State),
    let b := s.begin_ t
    let used := b.cfg.roles.countPoint = false ∧ b.ret.serial = some (byteAt p 1) ∧
      byteAt p 0 = b.ret.shift ∧ sender ≤ 64 ∧
      (b.pace.isFree = true ∨ ∃ z ∈ b.pace.source, z ≤ sender)
    Taken b frame 3 sender target p →
    ∃ u, exec (.count t frame) s = .next u ∧
      (used → u.ret.actual = max b.ret.actual (min (wordAt p 2) 9999) ∧
        u.pace.source = some sender ∧ u.pace.silence = 0 ∧ u.pace.isFree = false ∧
        (((Disarmed b).setPace { b.pace with
          source := some sender, sourceFree := false, silence := 0 }).setRet
            { b.ret with actual := u.ret.actual }).FollowedFrom u) ∧
      (¬ used → (Disarmed b).FollowedFrom u)

/-- A MESSAGE that matches the board and passes the checks is stored behind every message of its own or
higher priority: in the place of one of the same key, or with room, or in the place of the earliest
message of the lowest priority when its own is higher; a full store of no lower priority drops it. A
withdrawal removes the message of its key. A message of priority 3 that is stored cuts in: it starts in
place of a message or on an idle line, and is pending behind a banner or an alert; a message that leaves
the store while it runs gives way to what stood behind it. Anything else changes nothing (R140, R143, R145
to R149). That the next item is chosen once the change of the store is whole, so from a rotation that already
holds the message just stored, is the model's choice (log 19); from when the gap after the frame is counted is
its reading (log 14). -/
def Obligations.MessagesAreStored : Prop :=
  ∀ (t : Time) (frame : List Byte) (sender target : Nat) (p : List Byte) (s : State),
    let b := s.begin_ t
    let key : MsgKey := ⟨sender, byteAt p 0⟩
    let for_ := target = 127 ∨ target = b.cfg.zone ∨ ∃ g ∈ b.cfg.groups, target = 128 + g
    let m : Message := ⟨key, byteAt p 1, (styleOfCode (byteAt p 2)).getD .fixed, wordAt p 3, p.drop 5⟩
    let others := b.disp.store.filter (fun (x : Message) => x.key ≠ key)
    let gone := fun (store : List Message) (k : MsgKey) =>
      b.disp.store.any (fun x => x.key = k) && (k = key || !store.any (fun x => x.key = k))
    let stored := fun (u v : State) =>
      v = (Disarmed b).setDisp { b.disp with
        store := u.disp.store, running := v.disp.running, pending := v.disp.pending } ∧
      v.FollowedFrom u
    Taken b frame 4 sender target p → b.StoreOk →
    (wordAt p 3 ≠ 0 →
      ∃ u v, exec (.message t frame) s = .next u ∧
        (for_ → byteAt p 1 ≤ 3 → byteAt p 2 ≤ 2 → 5 < p.length →
          (others.length < 8 →
            u.disp.store = others.filter (fun x => m.priority ≤ x.priority) ++ [m] ++
              others.filter (fun x => x.priority < m.priority)) ∧
          (others.length = 8 → (∀ x ∈ others, m.priority ≤ x.priority) →
            u.disp.store = b.disp.store) ∧
          (others.length = 8 → ∀ v ∈ others, v.priority < m.priority →
            (∀ x ∈ others, v.priority ≤ x.priority) →
            (∀ (i j : Nat) (y : Message), others[i]? = some v → others[j]? = some y →
              y.priority = v.priority → i ≤ j) →
            u.disp.store = (others.filter (fun x => x.key ≠ v.key)).filter
                (fun x => m.priority ≤ x.priority) ++ [m] ++
              (others.filter (fun x => x.key ≠ v.key)).filter (fun x => x.priority < m.priority)) ∧
          stored u v ∧ (m ∉ u.disp.store → v = Disarmed b) ∧
          (m ∈ u.disp.store → byteAt p 1 = 3 →
            ((∀ r ∈ b.disp.running, ∃ k, r.item = .message k) →
              v.StartsItem (.message key) v.disp.running ∧
              v.disp.pending = b.disp.pending.filter (fun k => !gone u.disp.store k)) ∧
            (∀ r ∈ b.disp.running, (∀ k, r.item ≠ .message k) →
              v.disp.running = some r ∧ v.disp.pending = some key)) ∧
          (byteAt p 1 ≠ 3 → b.TextAfterLeaving v (gone u.disp.store))) ∧
        (¬ (for_ ∧ byteAt p 1 ≤ 3 ∧ byteAt p 2 ≤ 2 ∧ 5 < p.length) →
          u = Disarmed b)) ∧
    (wordAt p 3 = 0 →
      ∃ u v, exec (.withdrawal t frame) s = .next u ∧
        (for_ → byteAt p 1 ≤ 3 → byteAt p 2 ≤ 2 →
          u.disp.store = others ∧ stored u v ∧ b.TextAfterLeaving v (gone others)) ∧
        (¬ (for_ ∧ byteAt p 1 ≤ 3 ∧ byteAt p 2 ≤ 2) → u = Disarmed b))

/-! ## Requests (R175 to R185) -/

/-- A REQUEST to this board is answered with exactly one reply: IDENTIFY with the identity body; READ
RECORD with the block as it stands, NO-RECORD or BAD-BLOCK; MARK COLLECTED with OK and the changed flag
cleared, STALE, or NO-RECORD; any other with BAD-REQUEST. One to another station, or on a mirror, is
dropped (R165, R175, R176, R181 to R185). From when the gap after the frame is counted is the model's
reading (log 14). -/
def Obligations.RequestsAreAnswered : Prop :=
  ∀ (t : Time) (frame : List Byte) (sender target : Nat) (p : List Byte) (s : State),
    let b := s.begin_ t
    let d := Disarmed b
    let kind := byteAt p 1
    let sel := byteAt p 2
    let blk := byteAt p 3
    let record := if sel = 1 then (if b.mode = .shift then b.ret.current else none) else b.ret.last
    let known := sel = 1 ∨ sel = 2
    let roles := b.cfg.roles
    let identity := [byteOf 0x0A, byteOf 0x36, byteOf (b.cfg.imageId.toNat / 256),
      byteOf b.cfg.imageId.toNat, byteOf b.cfg.zone, byteOf b.cfg.section_,
      byteOf (roles.head.toNat + 2 * roles.tail.toNat + 4 * roles.countPoint.toNat +
        8 * roles.reference.toNat + 16 * roles.mirror.toNat),
      byteOf (if b.mode = .shift then 3 else 2)]
    Taken b frame 5 sender target p →
    (target ≠ b.cfg.zone ∨ b.mirror = true →
      exec (.identify t frame) s = .next d ∧ exec (.readRecord t frame) s = .next d ∧
      exec (.markCollected t frame) s = .next d ∧ exec (.badRequest t frame) s = .next d) ∧
    (target = b.cfg.zone → b.mirror = false →
    (p.length = 6 → kind = 1 →
      ∃ u, exec (.identify t frame) s = .next u ∧ Replied d u sender (byteAt p 0) 0 identity) ∧
    (p.length = 6 → kind = 2 → known →
      ∃ u, exec (.readRecord t frame) s = .next u ∧
        (record = none → Replied d u sender (byteAt p 0) 4 []) ∧
        (∀ r ∈ record,
          (blk = 0 ∨ (blk ≤ 8 ∧ 4 * (blk - 1) < r.tally.length) →
            Replied d u sender (byteAt p 0) 0 (b.blockBody sel blk r)) ∧
          (blk ≠ 0 → (8 < blk ∨ r.tally.length ≤ 4 * (blk - 1)) →
            Replied d u sender (byteAt p 0) 2 []))) ∧
    (p.length = 6 → kind = 3 → known →
      ∃ u, exec (.markCollected t frame) s = .next u ∧
        (record = none → Replied d u sender (byteAt p 0) 4 []) ∧
        (∀ r ∈ record,
          (wordAt p 4 ≠ r.version →
            Replied d u sender (byteAt p 0) 3 ([byteOf sel] ++ be16 r.version)) ∧
          (wordAt p 4 = r.version →
            Replied (d.setRet (if sel = 1 then
                { b.ret with current := some { r with changed := false } }
              else { b.ret with last := some { r with changed := false } }))
              u sender (byteAt p 0) 0 ([byteOf sel] ++ be16 r.version)))) ∧
    (p.length ≠ 6 ∨ kind < 1 ∨ 3 < kind ∨ (kind ≠ 1 ∧ ¬ known) →
      ∃ u, exec (.badRequest t frame) s = .next u ∧ Replied d u sender (byteAt p 0) 1 []))

/-- The blocks of a READ RECORD reply by their bytes (offsets of R177 less 2, the body without tag and
status): the common four, the header block's fields of the record, the pace unit or the frozen pair, and
the open interval; the entry blocks' first index, number of entries, and each entry with key, stop count
and seconds (R76, R170, R176, R177, R183). -/
def Obligations.RecordBlocksHaveTheirLayout : Prop :=
  ∀ (s : State) (sel blk : Nat) (r : Record),
    let h := s.blockBody sel 0 r
    let e := s.blockBody sel blk r
    let long := fun (l : List Byte) (i : Nat) => wordAt l i * 65536 + wordAt l (i + 2)
    let code := fun (k : CauseKind) => match k with
      | .call .quality => 1 | .call .material => 2 | .call .equipment => 3 | .call .safety => 4
      | .drive => 5 | .starved => 6 | .blocked => 7 | .external => 8 | .other => 9
    let route := fun (x : Route) => match x with
      | .direct => 0 | .viaStarved => 1 | .viaBlocked => 2
    let keyAt := fun (l : List Byte) (i : Nat) (k : CauseKey) =>
      k.zone ≤ 64 → k.section_ ≤ 9 →
      byteAt l i = k.zone ∧ byteAt l (i + 1) = k.section_ ∧ byteAt l (i + 2) = code k.kind ∧
      byteAt l (i + 3) = route k.route
    h.length = 36 ∧
    (1 ≤ blk → blk ≤ 8 →
      e.length = 6 + 10 * min 4 (r.tally.length - 4 * (blk - 1)) ∧ e.length ≤ 46) ∧
    (r.Ok → s.RecordsOk → s.PaceOk → (sel = 1 ∨ sel = 2) →
      (byteAt h 0 = 0 ∧ byteAt h 1 = sel ∧ wordAt h 2 = r.version ∧ byteAt h 4 = r.shift ∧
        (r.serial ≤ 255 → byteAt h 5 = r.serial) ∧ byteAt h 6 = r.changed.toNat ∧
        byteAt h 7 = r.tally.length ∧ long h 8 = r.total ∧
        wordAt h 12 = r.raised.quality ∧ wordAt h 14 = r.raised.material ∧
        wordAt h 16 = r.raised.equipment ∧ wordAt h 18 = r.raised.safety ∧
        byteAt h 20 = r.holds.quality ∧ byteAt h 21 = r.holds.material ∧
        byteAt h 22 = r.holds.equipment ∧ byteAt h 23 = r.holds.safety) ∧
      (sel = 1 →
        wordAt h 24 = s.ret.actual ∧
        (∀ q ∈ s.ret.peak, q ≤ 2160 → wordAt h 26 = q) ∧ (s.ret.peak = none → wordAt h 26 = 65535) ∧
        (∀ i ∈ s.ret.interval, keyAt h 28 i.key ∧ long h 32 = i.seconds) ∧
        (s.ret.interval = none → long h 28 = 0 ∧ long h 32 = 0)) ∧
      (sel = 2 →
        long h 28 = 0 ∧ long h 32 = 0 ∧
        (∀ q ∈ r.close, q.actual ≤ 9999 → wordAt h 24 = q.actual ∧
          (∀ x ∈ q.target, x ≤ 2160 → wordAt h 26 = x) ∧ (q.target = none → wordAt h 26 = 65535))) ∧
      (1 ≤ blk → blk ≤ 8 →
        byteAt e 0 = blk ∧ byteAt e 1 = sel ∧ wordAt e 2 = r.version ∧ byteAt e 4 = 4 * (blk - 1) ∧
        byteAt e 5 = min 4 (r.tally.length - 4 * (blk - 1)))) ∧
    (r.Ok → ∀ (j : Nat) (x : TallyEntry), 1 ≤ blk → blk ≤ 8 → j < 4 →
      r.tally[4 * (blk - 1) + j]? = some x →
      keyAt e (6 + 10 * j) x.key ∧
      wordAt e (6 + 10 * j + 4) = x.stops ∧
      wordAt e (6 + 10 * j + 6) * 65536 + wordAt e (6 + 10 * j + 8) = x.seconds)
end

