-- ==== Sys2Proof/Laws/State.lean ====
section
/-! SUPPORT. What each block-replacing update leaves in each field of the state: one lemma per update
and field, so that no proof unfolds a record update. -/

namespace Sys2Proof.Machine

variable (s : State)

@[simp] theorem State.setPending_pending (x : List Instr) : (s.setPending x).pending = x := rfl
@[simp] theorem State.setPending_now (x : List Instr) : (s.setPending x).now = s.now := rfl
@[simp] theorem State.setPending_mode (x : List Instr) : (s.setPending x).mode = s.mode := rfl
@[simp] theorem State.setPending_cfg (x : List Instr) : (s.setPending x).cfg = s.cfg := rfl
@[simp] theorem State.setPending_pins (x : List Instr) : (s.setPending x).pins = s.pins := rfl
@[simp] theorem State.setPending_out (x : List Instr) : (s.setPending x).out = s.out := rfl
@[simp] theorem State.setPending_calls (x : List Instr) : (s.setPending x).calls = s.calls := rfl
@[simp] theorem State.setPending_sec (x : List Instr) : (s.setPending x).sec = s.sec := rfl
@[simp] theorem State.setPending_table (x : List Instr) : (s.setPending x).table = s.table := rfl
@[simp] theorem State.setPending_att (x : List Instr) : (s.setPending x).att = s.att := rfl
@[simp] theorem State.setPending_ret (x : List Instr) : (s.setPending x).ret = s.ret := rfl
@[simp] theorem State.setPending_check (x : List Instr) : (s.setPending x).check = s.check := rfl
@[simp] theorem State.setPending_clock (x : List Instr) : (s.setPending x).clock = s.clock := rfl
@[simp] theorem State.setPending_pace (x : List Instr) : (s.setPending x).pace = s.pace := rfl
@[simp] theorem State.setPending_disp (x : List Instr) : (s.setPending x).disp = s.disp := rfl
@[simp] theorem State.setPending_bus (x : List Instr) : (s.setPending x).bus = s.bus := rfl
@[simp] theorem State.setPending_req (x : List Instr) : (s.setPending x).req = s.req := rfl
@[simp] theorem State.setPending_start (x : List Instr) : (s.setPending x).start = s.start := rfl

@[simp] theorem State.setNow_pending (x : Time) : (s.setNow x).pending = s.pending := rfl
@[simp] theorem State.setNow_now (x : Time) : (s.setNow x).now = x := rfl
@[simp] theorem State.setNow_mode (x : Time) : (s.setNow x).mode = s.mode := rfl
@[simp] theorem State.setNow_cfg (x : Time) : (s.setNow x).cfg = s.cfg := rfl
@[simp] theorem State.setNow_pins (x : Time) : (s.setNow x).pins = s.pins := rfl
@[simp] theorem State.setNow_out (x : Time) : (s.setNow x).out = s.out := rfl
@[simp] theorem State.setNow_calls (x : Time) : (s.setNow x).calls = s.calls := rfl
@[simp] theorem State.setNow_sec (x : Time) : (s.setNow x).sec = s.sec := rfl
@[simp] theorem State.setNow_table (x : Time) : (s.setNow x).table = s.table := rfl
@[simp] theorem State.setNow_att (x : Time) : (s.setNow x).att = s.att := rfl
@[simp] theorem State.setNow_ret (x : Time) : (s.setNow x).ret = s.ret := rfl
@[simp] theorem State.setNow_check (x : Time) : (s.setNow x).check = s.check := rfl
@[simp] theorem State.setNow_clock (x : Time) : (s.setNow x).clock = s.clock := rfl
@[simp] theorem State.setNow_pace (x : Time) : (s.setNow x).pace = s.pace := rfl
@[simp] theorem State.setNow_disp (x : Time) : (s.setNow x).disp = s.disp := rfl
@[simp] theorem State.setNow_bus (x : Time) : (s.setNow x).bus = s.bus := rfl
@[simp] theorem State.setNow_req (x : Time) : (s.setNow x).req = s.req := rfl
@[simp] theorem State.setNow_start (x : Time) : (s.setNow x).start = s.start := rfl

@[simp] theorem State.setMode_pending (x : Mode) : (s.setMode x).pending = s.pending := rfl
@[simp] theorem State.setMode_now (x : Mode) : (s.setMode x).now = s.now := rfl
@[simp] theorem State.setMode_mode (x : Mode) : (s.setMode x).mode = x := rfl
@[simp] theorem State.setMode_cfg (x : Mode) : (s.setMode x).cfg = s.cfg := rfl
@[simp] theorem State.setMode_pins (x : Mode) : (s.setMode x).pins = s.pins := rfl
@[simp] theorem State.setMode_out (x : Mode) : (s.setMode x).out = s.out := rfl
@[simp] theorem State.setMode_calls (x : Mode) : (s.setMode x).calls = s.calls := rfl
@[simp] theorem State.setMode_sec (x : Mode) : (s.setMode x).sec = s.sec := rfl
@[simp] theorem State.setMode_table (x : Mode) : (s.setMode x).table = s.table := rfl
@[simp] theorem State.setMode_att (x : Mode) : (s.setMode x).att = s.att := rfl
@[simp] theorem State.setMode_ret (x : Mode) : (s.setMode x).ret = s.ret := rfl
@[simp] theorem State.setMode_check (x : Mode) : (s.setMode x).check = s.check := rfl
@[simp] theorem State.setMode_clock (x : Mode) : (s.setMode x).clock = s.clock := rfl
@[simp] theorem State.setMode_pace (x : Mode) : (s.setMode x).pace = s.pace := rfl
@[simp] theorem State.setMode_disp (x : Mode) : (s.setMode x).disp = s.disp := rfl
@[simp] theorem State.setMode_bus (x : Mode) : (s.setMode x).bus = s.bus := rfl
@[simp] theorem State.setMode_req (x : Mode) : (s.setMode x).req = s.req := rfl
@[simp] theorem State.setMode_start (x : Mode) : (s.setMode x).start = s.start := rfl

@[simp] theorem State.setCfg_pending (x : Cfg) : (s.setCfg x).pending = s.pending := rfl
@[simp] theorem State.setCfg_now (x : Cfg) : (s.setCfg x).now = s.now := rfl
@[simp] theorem State.setCfg_mode (x : Cfg) : (s.setCfg x).mode = s.mode := rfl
@[simp] theorem State.setCfg_cfg (x : Cfg) : (s.setCfg x).cfg = x := rfl
@[simp] theorem State.setCfg_pins (x : Cfg) : (s.setCfg x).pins = s.pins := rfl
@[simp] theorem State.setCfg_out (x : Cfg) : (s.setCfg x).out = s.out := rfl
@[simp] theorem State.setCfg_calls (x : Cfg) : (s.setCfg x).calls = s.calls := rfl
@[simp] theorem State.setCfg_sec (x : Cfg) : (s.setCfg x).sec = s.sec := rfl
@[simp] theorem State.setCfg_table (x : Cfg) : (s.setCfg x).table = s.table := rfl
@[simp] theorem State.setCfg_att (x : Cfg) : (s.setCfg x).att = s.att := rfl
@[simp] theorem State.setCfg_ret (x : Cfg) : (s.setCfg x).ret = s.ret := rfl
@[simp] theorem State.setCfg_check (x : Cfg) : (s.setCfg x).check = s.check := rfl
@[simp] theorem State.setCfg_clock (x : Cfg) : (s.setCfg x).clock = s.clock := rfl
@[simp] theorem State.setCfg_pace (x : Cfg) : (s.setCfg x).pace = s.pace := rfl
@[simp] theorem State.setCfg_disp (x : Cfg) : (s.setCfg x).disp = s.disp := rfl
@[simp] theorem State.setCfg_bus (x : Cfg) : (s.setCfg x).bus = s.bus := rfl
@[simp] theorem State.setCfg_req (x : Cfg) : (s.setCfg x).req = s.req := rfl
@[simp] theorem State.setCfg_start (x : Cfg) : (s.setCfg x).start = s.start := rfl

@[simp] theorem State.setPins_pending (x : Pins) : (s.setPins x).pending = s.pending := rfl
@[simp] theorem State.setPins_now (x : Pins) : (s.setPins x).now = s.now := rfl
@[simp] theorem State.setPins_mode (x : Pins) : (s.setPins x).mode = s.mode := rfl
@[simp] theorem State.setPins_cfg (x : Pins) : (s.setPins x).cfg = s.cfg := rfl
@[simp] theorem State.setPins_pins (x : Pins) : (s.setPins x).pins = x := rfl
@[simp] theorem State.setPins_out (x : Pins) : (s.setPins x).out = s.out := rfl
@[simp] theorem State.setPins_calls (x : Pins) : (s.setPins x).calls = s.calls := rfl
@[simp] theorem State.setPins_sec (x : Pins) : (s.setPins x).sec = s.sec := rfl
@[simp] theorem State.setPins_table (x : Pins) : (s.setPins x).table = s.table := rfl
@[simp] theorem State.setPins_att (x : Pins) : (s.setPins x).att = s.att := rfl
@[simp] theorem State.setPins_ret (x : Pins) : (s.setPins x).ret = s.ret := rfl
@[simp] theorem State.setPins_check (x : Pins) : (s.setPins x).check = s.check := rfl
@[simp] theorem State.setPins_clock (x : Pins) : (s.setPins x).clock = s.clock := rfl
@[simp] theorem State.setPins_pace (x : Pins) : (s.setPins x).pace = s.pace := rfl
@[simp] theorem State.setPins_disp (x : Pins) : (s.setPins x).disp = s.disp := rfl
@[simp] theorem State.setPins_bus (x : Pins) : (s.setPins x).bus = s.bus := rfl
@[simp] theorem State.setPins_req (x : Pins) : (s.setPins x).req = s.req := rfl
@[simp] theorem State.setPins_start (x : Pins) : (s.setPins x).start = s.start := rfl

@[simp] theorem State.setOut_pending (x : Outputs) : (s.setOut x).pending = s.pending := rfl
@[simp] theorem State.setOut_now (x : Outputs) : (s.setOut x).now = s.now := rfl
@[simp] theorem State.setOut_mode (x : Outputs) : (s.setOut x).mode = s.mode := rfl
@[simp] theorem State.setOut_cfg (x : Outputs) : (s.setOut x).cfg = s.cfg := rfl
@[simp] theorem State.setOut_pins (x : Outputs) : (s.setOut x).pins = s.pins := rfl
@[simp] theorem State.setOut_out (x : Outputs) : (s.setOut x).out = x := rfl
@[simp] theorem State.setOut_calls (x : Outputs) : (s.setOut x).calls = s.calls := rfl
@[simp] theorem State.setOut_sec (x : Outputs) : (s.setOut x).sec = s.sec := rfl
@[simp] theorem State.setOut_table (x : Outputs) : (s.setOut x).table = s.table := rfl
@[simp] theorem State.setOut_att (x : Outputs) : (s.setOut x).att = s.att := rfl
@[simp] theorem State.setOut_ret (x : Outputs) : (s.setOut x).ret = s.ret := rfl
@[simp] theorem State.setOut_check (x : Outputs) : (s.setOut x).check = s.check := rfl
@[simp] theorem State.setOut_clock (x : Outputs) : (s.setOut x).clock = s.clock := rfl
@[simp] theorem State.setOut_pace (x : Outputs) : (s.setOut x).pace = s.pace := rfl
@[simp] theorem State.setOut_disp (x : Outputs) : (s.setOut x).disp = s.disp := rfl
@[simp] theorem State.setOut_bus (x : Outputs) : (s.setOut x).bus = s.bus := rfl
@[simp] theorem State.setOut_req (x : Outputs) : (s.setOut x).req = s.req := rfl
@[simp] theorem State.setOut_start (x : Outputs) : (s.setOut x).start = s.start := rfl

@[simp] theorem State.setCalls_pending (x : CallUnit) : (s.setCalls x).pending = s.pending := rfl
@[simp] theorem State.setCalls_now (x : CallUnit) : (s.setCalls x).now = s.now := rfl
@[simp] theorem State.setCalls_mode (x : CallUnit) : (s.setCalls x).mode = s.mode := rfl
@[simp] theorem State.setCalls_cfg (x : CallUnit) : (s.setCalls x).cfg = s.cfg := rfl
@[simp] theorem State.setCalls_pins (x : CallUnit) : (s.setCalls x).pins = s.pins := rfl
@[simp] theorem State.setCalls_out (x : CallUnit) : (s.setCalls x).out = s.out := rfl
@[simp] theorem State.setCalls_calls (x : CallUnit) : (s.setCalls x).calls = x := rfl
@[simp] theorem State.setCalls_sec (x : CallUnit) : (s.setCalls x).sec = s.sec := rfl
@[simp] theorem State.setCalls_table (x : CallUnit) : (s.setCalls x).table = s.table := rfl
@[simp] theorem State.setCalls_att (x : CallUnit) : (s.setCalls x).att = s.att := rfl
@[simp] theorem State.setCalls_ret (x : CallUnit) : (s.setCalls x).ret = s.ret := rfl
@[simp] theorem State.setCalls_check (x : CallUnit) : (s.setCalls x).check = s.check := rfl
@[simp] theorem State.setCalls_clock (x : CallUnit) : (s.setCalls x).clock = s.clock := rfl
@[simp] theorem State.setCalls_pace (x : CallUnit) : (s.setCalls x).pace = s.pace := rfl
@[simp] theorem State.setCalls_disp (x : CallUnit) : (s.setCalls x).disp = s.disp := rfl
@[simp] theorem State.setCalls_bus (x : CallUnit) : (s.setCalls x).bus = s.bus := rfl
@[simp] theorem State.setCalls_req (x : CallUnit) : (s.setCalls x).req = s.req := rfl
@[simp] theorem State.setCalls_start (x : CallUnit) : (s.setCalls x).start = s.start := rfl

@[simp] theorem State.setSec_pending (x : SectionMonitor) : (s.setSec x).pending = s.pending := rfl
@[simp] theorem State.setSec_now (x : SectionMonitor) : (s.setSec x).now = s.now := rfl
@[simp] theorem State.setSec_mode (x : SectionMonitor) : (s.setSec x).mode = s.mode := rfl
@[simp] theorem State.setSec_cfg (x : SectionMonitor) : (s.setSec x).cfg = s.cfg := rfl
@[simp] theorem State.setSec_pins (x : SectionMonitor) : (s.setSec x).pins = s.pins := rfl
@[simp] theorem State.setSec_out (x : SectionMonitor) : (s.setSec x).out = s.out := rfl
@[simp] theorem State.setSec_calls (x : SectionMonitor) : (s.setSec x).calls = s.calls := rfl
@[simp] theorem State.setSec_sec (x : SectionMonitor) : (s.setSec x).sec = x := rfl
@[simp] theorem State.setSec_table (x : SectionMonitor) : (s.setSec x).table = s.table := rfl
@[simp] theorem State.setSec_att (x : SectionMonitor) : (s.setSec x).att = s.att := rfl
@[simp] theorem State.setSec_ret (x : SectionMonitor) : (s.setSec x).ret = s.ret := rfl
@[simp] theorem State.setSec_check (x : SectionMonitor) : (s.setSec x).check = s.check := rfl
@[simp] theorem State.setSec_clock (x : SectionMonitor) : (s.setSec x).clock = s.clock := rfl
@[simp] theorem State.setSec_pace (x : SectionMonitor) : (s.setSec x).pace = s.pace := rfl
@[simp] theorem State.setSec_disp (x : SectionMonitor) : (s.setSec x).disp = s.disp := rfl
@[simp] theorem State.setSec_bus (x : SectionMonitor) : (s.setSec x).bus = s.bus := rfl
@[simp] theorem State.setSec_req (x : SectionMonitor) : (s.setSec x).req = s.req := rfl
@[simp] theorem State.setSec_start (x : SectionMonitor) : (s.setSec x).start = s.start := rfl

@[simp] theorem State.setTable_pending (x : ZoneTable) : (s.setTable x).pending = s.pending := rfl
@[simp] theorem State.setTable_now (x : ZoneTable) : (s.setTable x).now = s.now := rfl
@[simp] theorem State.setTable_mode (x : ZoneTable) : (s.setTable x).mode = s.mode := rfl
@[simp] theorem State.setTable_cfg (x : ZoneTable) : (s.setTable x).cfg = s.cfg := rfl
@[simp] theorem State.setTable_pins (x : ZoneTable) : (s.setTable x).pins = s.pins := rfl
@[simp] theorem State.setTable_out (x : ZoneTable) : (s.setTable x).out = s.out := rfl
@[simp] theorem State.setTable_calls (x : ZoneTable) : (s.setTable x).calls = s.calls := rfl
@[simp] theorem State.setTable_sec (x : ZoneTable) : (s.setTable x).sec = s.sec := rfl
@[simp] theorem State.setTable_table (x : ZoneTable) : (s.setTable x).table = x := rfl
@[simp] theorem State.setTable_att (x : ZoneTable) : (s.setTable x).att = s.att := rfl
@[simp] theorem State.setTable_ret (x : ZoneTable) : (s.setTable x).ret = s.ret := rfl
@[simp] theorem State.setTable_check (x : ZoneTable) : (s.setTable x).check = s.check := rfl
@[simp] theorem State.setTable_clock (x : ZoneTable) : (s.setTable x).clock = s.clock := rfl
@[simp] theorem State.setTable_pace (x : ZoneTable) : (s.setTable x).pace = s.pace := rfl
@[simp] theorem State.setTable_disp (x : ZoneTable) : (s.setTable x).disp = s.disp := rfl
@[simp] theorem State.setTable_bus (x : ZoneTable) : (s.setTable x).bus = s.bus := rfl
@[simp] theorem State.setTable_req (x : ZoneTable) : (s.setTable x).req = s.req := rfl
@[simp] theorem State.setTable_start (x : ZoneTable) : (s.setTable x).start = s.start := rfl

@[simp] theorem State.setAtt_pending (x : Attributor) : (s.setAtt x).pending = s.pending := rfl
@[simp] theorem State.setAtt_now (x : Attributor) : (s.setAtt x).now = s.now := rfl
@[simp] theorem State.setAtt_mode (x : Attributor) : (s.setAtt x).mode = s.mode := rfl
@[simp] theorem State.setAtt_cfg (x : Attributor) : (s.setAtt x).cfg = s.cfg := rfl
@[simp] theorem State.setAtt_pins (x : Attributor) : (s.setAtt x).pins = s.pins := rfl
@[simp] theorem State.setAtt_out (x : Attributor) : (s.setAtt x).out = s.out := rfl
@[simp] theorem State.setAtt_calls (x : Attributor) : (s.setAtt x).calls = s.calls := rfl
@[simp] theorem State.setAtt_sec (x : Attributor) : (s.setAtt x).sec = s.sec := rfl
@[simp] theorem State.setAtt_table (x : Attributor) : (s.setAtt x).table = s.table := rfl
@[simp] theorem State.setAtt_att (x : Attributor) : (s.setAtt x).att = x := rfl
@[simp] theorem State.setAtt_ret (x : Attributor) : (s.setAtt x).ret = s.ret := rfl
@[simp] theorem State.setAtt_check (x : Attributor) : (s.setAtt x).check = s.check := rfl
@[simp] theorem State.setAtt_clock (x : Attributor) : (s.setAtt x).clock = s.clock := rfl
@[simp] theorem State.setAtt_pace (x : Attributor) : (s.setAtt x).pace = s.pace := rfl
@[simp] theorem State.setAtt_disp (x : Attributor) : (s.setAtt x).disp = s.disp := rfl
@[simp] theorem State.setAtt_bus (x : Attributor) : (s.setAtt x).bus = s.bus := rfl
@[simp] theorem State.setAtt_req (x : Attributor) : (s.setAtt x).req = s.req := rfl
@[simp] theorem State.setAtt_start (x : Attributor) : (s.setAtt x).start = s.start := rfl

@[simp] theorem State.setRet_pending (x : Retained) : (s.setRet x).pending = s.pending := rfl
@[simp] theorem State.setRet_now (x : Retained) : (s.setRet x).now = s.now := rfl
@[simp] theorem State.setRet_mode (x : Retained) : (s.setRet x).mode = s.mode := rfl
@[simp] theorem State.setRet_cfg (x : Retained) : (s.setRet x).cfg = s.cfg := rfl
@[simp] theorem State.setRet_pins (x : Retained) : (s.setRet x).pins = s.pins := rfl
@[simp] theorem State.setRet_out (x : Retained) : (s.setRet x).out = s.out := rfl
@[simp] theorem State.setRet_calls (x : Retained) : (s.setRet x).calls = s.calls := rfl
@[simp] theorem State.setRet_sec (x : Retained) : (s.setRet x).sec = s.sec := rfl
@[simp] theorem State.setRet_table (x : Retained) : (s.setRet x).table = s.table := rfl
@[simp] theorem State.setRet_att (x : Retained) : (s.setRet x).att = s.att := rfl
@[simp] theorem State.setRet_ret (x : Retained) : (s.setRet x).ret = x := rfl
@[simp] theorem State.setRet_check (x : Retained) :
    (s.setRet x).check = if x = s.ret then s.check else checkWordOf x := rfl
@[simp] theorem State.setRet_clock (x : Retained) : (s.setRet x).clock = s.clock := rfl
@[simp] theorem State.setRet_pace (x : Retained) : (s.setRet x).pace = s.pace := rfl
@[simp] theorem State.setRet_disp (x : Retained) : (s.setRet x).disp = s.disp := rfl
@[simp] theorem State.setRet_bus (x : Retained) : (s.setRet x).bus = s.bus := rfl
@[simp] theorem State.setRet_req (x : Retained) : (s.setRet x).req = s.req := rfl
@[simp] theorem State.setRet_start (x : Retained) : (s.setRet x).start = s.start := rfl

@[simp] theorem State.setCheck_pending (x : BitVec 16) : (s.setCheck x).pending = s.pending := rfl
@[simp] theorem State.setCheck_now (x : BitVec 16) : (s.setCheck x).now = s.now := rfl
@[simp] theorem State.setCheck_mode (x : BitVec 16) : (s.setCheck x).mode = s.mode := rfl
@[simp] theorem State.setCheck_cfg (x : BitVec 16) : (s.setCheck x).cfg = s.cfg := rfl
@[simp] theorem State.setCheck_pins (x : BitVec 16) : (s.setCheck x).pins = s.pins := rfl
@[simp] theorem State.setCheck_out (x : BitVec 16) : (s.setCheck x).out = s.out := rfl
@[simp] theorem State.setCheck_calls (x : BitVec 16) : (s.setCheck x).calls = s.calls := rfl
@[simp] theorem State.setCheck_sec (x : BitVec 16) : (s.setCheck x).sec = s.sec := rfl
@[simp] theorem State.setCheck_table (x : BitVec 16) : (s.setCheck x).table = s.table := rfl
@[simp] theorem State.setCheck_att (x : BitVec 16) : (s.setCheck x).att = s.att := rfl
@[simp] theorem State.setCheck_ret (x : BitVec 16) : (s.setCheck x).ret = s.ret := rfl
@[simp] theorem State.setCheck_check (x : BitVec 16) : (s.setCheck x).check = x := rfl
@[simp] theorem State.setCheck_clock (x : BitVec 16) : (s.setCheck x).clock = s.clock := rfl
@[simp] theorem State.setCheck_pace (x : BitVec 16) : (s.setCheck x).pace = s.pace := rfl
@[simp] theorem State.setCheck_disp (x : BitVec 16) : (s.setCheck x).disp = s.disp := rfl
@[simp] theorem State.setCheck_bus (x : BitVec 16) : (s.setCheck x).bus = s.bus := rfl
@[simp] theorem State.setCheck_req (x : BitVec 16) : (s.setCheck x).req = s.req := rfl
@[simp] theorem State.setCheck_start (x : BitVec 16) : (s.setCheck x).start = s.start := rfl

@[simp] theorem State.setClock_pending (x : Clock) : (s.setClock x).pending = s.pending := rfl
@[simp] theorem State.setClock_now (x : Clock) : (s.setClock x).now = s.now := rfl
@[simp] theorem State.setClock_mode (x : Clock) : (s.setClock x).mode = s.mode := rfl
@[simp] theorem State.setClock_cfg (x : Clock) : (s.setClock x).cfg = s.cfg := rfl
@[simp] theorem State.setClock_pins (x : Clock) : (s.setClock x).pins = s.pins := rfl
@[simp] theorem State.setClock_out (x : Clock) : (s.setClock x).out = s.out := rfl
@[simp] theorem State.setClock_calls (x : Clock) : (s.setClock x).calls = s.calls := rfl
@[simp] theorem State.setClock_sec (x : Clock) : (s.setClock x).sec = s.sec := rfl
@[simp] theorem State.setClock_table (x : Clock) : (s.setClock x).table = s.table := rfl
@[simp] theorem State.setClock_att (x : Clock) : (s.setClock x).att = s.att := rfl
@[simp] theorem State.setClock_ret (x : Clock) : (s.setClock x).ret = s.ret := rfl
@[simp] theorem State.setClock_check (x : Clock) : (s.setClock x).check = s.check := rfl
@[simp] theorem State.setClock_clock (x : Clock) : (s.setClock x).clock = x := rfl
@[simp] theorem State.setClock_pace (x : Clock) : (s.setClock x).pace = s.pace := rfl
@[simp] theorem State.setClock_disp (x : Clock) : (s.setClock x).disp = s.disp := rfl
@[simp] theorem State.setClock_bus (x : Clock) : (s.setClock x).bus = s.bus := rfl
@[simp] theorem State.setClock_req (x : Clock) : (s.setClock x).req = s.req := rfl
@[simp] theorem State.setClock_start (x : Clock) : (s.setClock x).start = s.start := rfl

@[simp] theorem State.setPace_pending (x : Pace) : (s.setPace x).pending = s.pending := rfl
@[simp] theorem State.setPace_now (x : Pace) : (s.setPace x).now = s.now := rfl
@[simp] theorem State.setPace_mode (x : Pace) : (s.setPace x).mode = s.mode := rfl
@[simp] theorem State.setPace_cfg (x : Pace) : (s.setPace x).cfg = s.cfg := rfl
@[simp] theorem State.setPace_pins (x : Pace) : (s.setPace x).pins = s.pins := rfl
@[simp] theorem State.setPace_out (x : Pace) : (s.setPace x).out = s.out := rfl
@[simp] theorem State.setPace_calls (x : Pace) : (s.setPace x).calls = s.calls := rfl
@[simp] theorem State.setPace_sec (x : Pace) : (s.setPace x).sec = s.sec := rfl
@[simp] theorem State.setPace_table (x : Pace) : (s.setPace x).table = s.table := rfl
@[simp] theorem State.setPace_att (x : Pace) : (s.setPace x).att = s.att := rfl
@[simp] theorem State.setPace_ret (x : Pace) : (s.setPace x).ret = s.ret := rfl
@[simp] theorem State.setPace_check (x : Pace) : (s.setPace x).check = s.check := rfl
@[simp] theorem State.setPace_clock (x : Pace) : (s.setPace x).clock = s.clock := rfl
@[simp] theorem State.setPace_pace (x : Pace) : (s.setPace x).pace = x := rfl
@[simp] theorem State.setPace_disp (x : Pace) : (s.setPace x).disp = s.disp := rfl
@[simp] theorem State.setPace_bus (x : Pace) : (s.setPace x).bus = s.bus := rfl
@[simp] theorem State.setPace_req (x : Pace) : (s.setPace x).req = s.req := rfl
@[simp] theorem State.setPace_start (x : Pace) : (s.setPace x).start = s.start := rfl

@[simp] theorem State.setDisp_pending (x : Display) : (s.setDisp x).pending = s.pending := rfl
@[simp] theorem State.setDisp_now (x : Display) : (s.setDisp x).now = s.now := rfl
@[simp] theorem State.setDisp_mode (x : Display) : (s.setDisp x).mode = s.mode := rfl
@[simp] theorem State.setDisp_cfg (x : Display) : (s.setDisp x).cfg = s.cfg := rfl
@[simp] theorem State.setDisp_pins (x : Display) : (s.setDisp x).pins = s.pins := rfl
@[simp] theorem State.setDisp_out (x : Display) : (s.setDisp x).out = s.out := rfl
@[simp] theorem State.setDisp_calls (x : Display) : (s.setDisp x).calls = s.calls := rfl
@[simp] theorem State.setDisp_sec (x : Display) : (s.setDisp x).sec = s.sec := rfl
@[simp] theorem State.setDisp_table (x : Display) : (s.setDisp x).table = s.table := rfl
@[simp] theorem State.setDisp_att (x : Display) : (s.setDisp x).att = s.att := rfl
@[simp] theorem State.setDisp_ret (x : Display) : (s.setDisp x).ret = s.ret := rfl
@[simp] theorem State.setDisp_check (x : Display) : (s.setDisp x).check = s.check := rfl
@[simp] theorem State.setDisp_clock (x : Display) : (s.setDisp x).clock = s.clock := rfl
@[simp] theorem State.setDisp_pace (x : Display) : (s.setDisp x).pace = s.pace := rfl
@[simp] theorem State.setDisp_disp (x : Display) : (s.setDisp x).disp = x := rfl
@[simp] theorem State.setDisp_bus (x : Display) : (s.setDisp x).bus = s.bus := rfl
@[simp] theorem State.setDisp_req (x : Display) : (s.setDisp x).req = s.req := rfl
@[simp] theorem State.setDisp_start (x : Display) : (s.setDisp x).start = s.start := rfl

@[simp] theorem State.setBus_pending (x : Bus) : (s.setBus x).pending = s.pending := rfl
@[simp] theorem State.setBus_now (x : Bus) : (s.setBus x).now = s.now := rfl
@[simp] theorem State.setBus_mode (x : Bus) : (s.setBus x).mode = s.mode := rfl
@[simp] theorem State.setBus_cfg (x : Bus) : (s.setBus x).cfg = s.cfg := rfl
@[simp] theorem State.setBus_pins (x : Bus) : (s.setBus x).pins = s.pins := rfl
@[simp] theorem State.setBus_out (x : Bus) : (s.setBus x).out = s.out := rfl
@[simp] theorem State.setBus_calls (x : Bus) : (s.setBus x).calls = s.calls := rfl
@[simp] theorem State.setBus_sec (x : Bus) : (s.setBus x).sec = s.sec := rfl
@[simp] theorem State.setBus_table (x : Bus) : (s.setBus x).table = s.table := rfl
@[simp] theorem State.setBus_att (x : Bus) : (s.setBus x).att = s.att := rfl
@[simp] theorem State.setBus_ret (x : Bus) : (s.setBus x).ret = s.ret := rfl
@[simp] theorem State.setBus_check (x : Bus) : (s.setBus x).check = s.check := rfl
@[simp] theorem State.setBus_clock (x : Bus) : (s.setBus x).clock = s.clock := rfl
@[simp] theorem State.setBus_pace (x : Bus) : (s.setBus x).pace = s.pace := rfl
@[simp] theorem State.setBus_disp (x : Bus) : (s.setBus x).disp = s.disp := rfl
@[simp] theorem State.setBus_bus (x : Bus) : (s.setBus x).bus = x := rfl
@[simp] theorem State.setBus_req (x : Bus) : (s.setBus x).req = s.req := rfl
@[simp] theorem State.setBus_start (x : Bus) : (s.setBus x).start = s.start := rfl

@[simp] theorem State.setReq_pending (x : Requests) : (s.setReq x).pending = s.pending := rfl
@[simp] theorem State.setReq_now (x : Requests) : (s.setReq x).now = s.now := rfl
@[simp] theorem State.setReq_mode (x : Requests) : (s.setReq x).mode = s.mode := rfl
@[simp] theorem State.setReq_cfg (x : Requests) : (s.setReq x).cfg = s.cfg := rfl
@[simp] theorem State.setReq_pins (x : Requests) : (s.setReq x).pins = s.pins := rfl
@[simp] theorem State.setReq_out (x : Requests) : (s.setReq x).out = s.out := rfl
@[simp] theorem State.setReq_calls (x : Requests) : (s.setReq x).calls = s.calls := rfl
@[simp] theorem State.setReq_sec (x : Requests) : (s.setReq x).sec = s.sec := rfl
@[simp] theorem State.setReq_table (x : Requests) : (s.setReq x).table = s.table := rfl
@[simp] theorem State.setReq_att (x : Requests) : (s.setReq x).att = s.att := rfl
@[simp] theorem State.setReq_ret (x : Requests) : (s.setReq x).ret = s.ret := rfl
@[simp] theorem State.setReq_check (x : Requests) : (s.setReq x).check = s.check := rfl
@[simp] theorem State.setReq_clock (x : Requests) : (s.setReq x).clock = s.clock := rfl
@[simp] theorem State.setReq_pace (x : Requests) : (s.setReq x).pace = s.pace := rfl
@[simp] theorem State.setReq_disp (x : Requests) : (s.setReq x).disp = s.disp := rfl
@[simp] theorem State.setReq_bus (x : Requests) : (s.setReq x).bus = s.bus := rfl
@[simp] theorem State.setReq_req (x : Requests) : (s.setReq x).req = x := rfl
@[simp] theorem State.setReq_start (x : Requests) : (s.setReq x).start = s.start := rfl

@[simp] theorem State.setStart_pending (x : StartUp) : (s.setStart x).pending = s.pending := rfl
@[simp] theorem State.setStart_now (x : StartUp) : (s.setStart x).now = s.now := rfl
@[simp] theorem State.setStart_mode (x : StartUp) : (s.setStart x).mode = s.mode := rfl
@[simp] theorem State.setStart_cfg (x : StartUp) : (s.setStart x).cfg = s.cfg := rfl
@[simp] theorem State.setStart_pins (x : StartUp) : (s.setStart x).pins = s.pins := rfl
@[simp] theorem State.setStart_out (x : StartUp) : (s.setStart x).out = s.out := rfl
@[simp] theorem State.setStart_calls (x : StartUp) : (s.setStart x).calls = s.calls := rfl
@[simp] theorem State.setStart_sec (x : StartUp) : (s.setStart x).sec = s.sec := rfl
@[simp] theorem State.setStart_table (x : StartUp) : (s.setStart x).table = s.table := rfl
@[simp] theorem State.setStart_att (x : StartUp) : (s.setStart x).att = s.att := rfl
@[simp] theorem State.setStart_ret (x : StartUp) : (s.setStart x).ret = s.ret := rfl
@[simp] theorem State.setStart_check (x : StartUp) : (s.setStart x).check = s.check := rfl
@[simp] theorem State.setStart_clock (x : StartUp) : (s.setStart x).clock = s.clock := rfl
@[simp] theorem State.setStart_pace (x : StartUp) : (s.setStart x).pace = s.pace := rfl
@[simp] theorem State.setStart_disp (x : StartUp) : (s.setStart x).disp = s.disp := rfl
@[simp] theorem State.setStart_bus (x : StartUp) : (s.setStart x).bus = s.bus := rfl
@[simp] theorem State.setStart_req (x : StartUp) : (s.setStart x).req = s.req := rfl
@[simp] theorem State.setStart_start (x : StartUp) : (s.setStart x).start = x := rfl

end Sys2Proof.Machine
end

