-- ==== Sys2Proof/Laws/Ops.lean ====
section
/-! SUPPORT. What the named operations of Machine/Ops.lean leave unchanged: one frame lemma per operation, whose
conjuncts `simp` uses one by one. -/

namespace Sys2Proof.Machine

variable (s : State)

/-- `atTime` changes only: now. -/
@[simp] theorem State.atTime_frame (t : Time) :
    (s.atTime t).pending = s.pending ∧ (s.atTime t).mode = s.mode ∧ (s.atTime t).cfg = s.cfg ∧
    (s.atTime t).pins = s.pins ∧ (s.atTime t).out = s.out ∧ (s.atTime t).calls = s.calls ∧
    (s.atTime t).sec = s.sec ∧ (s.atTime t).table = s.table ∧ (s.atTime t).att = s.att ∧
    (s.atTime t).ret = s.ret ∧ (s.atTime t).check = s.check ∧ (s.atTime t).clock = s.clock ∧
    (s.atTime t).pace = s.pace ∧ (s.atTime t).disp = s.disp ∧ (s.atTime t).bus = s.bus ∧
    (s.atTime t).req = s.req ∧ (s.atTime t).start = s.start := by
  simp [State.atTime]

/-- `mark` changes only: bus. -/
@[simp] theorem State.mark_frame (i : SlotId) :
    (s.mark i).pending = s.pending ∧ (s.mark i).now = s.now ∧ (s.mark i).mode = s.mode ∧
    (s.mark i).cfg = s.cfg ∧ (s.mark i).pins = s.pins ∧ (s.mark i).out = s.out ∧
    (s.mark i).calls = s.calls ∧ (s.mark i).sec = s.sec ∧ (s.mark i).table = s.table ∧
    (s.mark i).att = s.att ∧ (s.mark i).ret = s.ret ∧ (s.mark i).check = s.check ∧
    (s.mark i).clock = s.clock ∧ (s.mark i).pace = s.pace ∧ (s.mark i).disp = s.disp ∧
    (s.mark i).req = s.req ∧ (s.mark i).start = s.start := by
  unfold State.mark
  split <;> simp

/-- `charge` changes only: ret, check. -/
@[simp] theorem State.charge_frame (f : Record → Record) :
    (s.charge f).pending = s.pending ∧ (s.charge f).now = s.now ∧ (s.charge f).mode = s.mode ∧
    (s.charge f).cfg = s.cfg ∧ (s.charge f).pins = s.pins ∧ (s.charge f).out = s.out ∧
    (s.charge f).calls = s.calls ∧ (s.charge f).sec = s.sec ∧ (s.charge f).table = s.table ∧
    (s.charge f).att = s.att ∧ (s.charge f).clock = s.clock ∧ (s.charge f).pace = s.pace ∧
    (s.charge f).disp = s.disp ∧ (s.charge f).bus = s.bus ∧ (s.charge f).req = s.req ∧
    (s.charge f).start = s.start := by
  unfold State.charge
  split <;> simp

/-- `evalPeak` changes only: ret, check. -/
@[simp] theorem State.evalPeak_frame :
    s.evalPeak.pending = s.pending ∧ s.evalPeak.now = s.now ∧ s.evalPeak.mode = s.mode ∧
    s.evalPeak.cfg = s.cfg ∧ s.evalPeak.pins = s.pins ∧ s.evalPeak.out = s.out ∧
    s.evalPeak.calls = s.calls ∧ s.evalPeak.sec = s.sec ∧ s.evalPeak.table = s.table ∧
    s.evalPeak.att = s.att ∧ s.evalPeak.clock = s.clock ∧ s.evalPeak.pace = s.pace ∧
    s.evalPeak.disp = s.disp ∧ s.evalPeak.bus = s.bus ∧ s.evalPeak.req = s.req ∧
    s.evalPeak.start = s.start := by
  unfold State.evalPeak
  repeat' split
  all_goals simp

/-- `setCar` changes only: ret, check, pace, bus. -/
@[simp] theorem State.setCar_frame (n : Nat) :
    (s.setCar n).pending = s.pending ∧ (s.setCar n).now = s.now ∧ (s.setCar n).mode = s.mode ∧
    (s.setCar n).cfg = s.cfg ∧ (s.setCar n).pins = s.pins ∧ (s.setCar n).out = s.out ∧
    (s.setCar n).calls = s.calls ∧ (s.setCar n).sec = s.sec ∧ (s.setCar n).table = s.table ∧
    (s.setCar n).att = s.att ∧ (s.setCar n).clock = s.clock ∧ (s.setCar n).disp = s.disp ∧
    (s.setCar n).req = s.req ∧ (s.setCar n).start = s.start := by
  unfold State.setCar
  split <;> simp

/-- `startHoldTimer` changes only: sec. -/
@[simp] theorem State.startHoldTimer_frame :
    s.startHoldTimer.pending = s.pending ∧ s.startHoldTimer.now = s.now ∧
    s.startHoldTimer.mode = s.mode ∧ s.startHoldTimer.cfg = s.cfg ∧ s.startHoldTimer.pins = s.pins ∧
    s.startHoldTimer.out = s.out ∧ s.startHoldTimer.calls = s.calls ∧
    s.startHoldTimer.table = s.table ∧ s.startHoldTimer.att = s.att ∧ s.startHoldTimer.ret = s.ret ∧
    s.startHoldTimer.check = s.check ∧ s.startHoldTimer.clock = s.clock ∧
    s.startHoldTimer.pace = s.pace ∧ s.startHoldTimer.disp = s.disp ∧ s.startHoldTimer.bus = s.bus ∧
    s.startHoldTimer.req = s.req ∧ s.startHoldTimer.start = s.start := by
  simp [State.startHoldTimer]

/-- `cancelHoldCheck` changes only: sec. -/
@[simp] theorem State.cancelHoldCheck_frame :
    s.cancelHoldCheck.pending = s.pending ∧ s.cancelHoldCheck.now = s.now ∧
    s.cancelHoldCheck.mode = s.mode ∧ s.cancelHoldCheck.cfg = s.cfg ∧
    s.cancelHoldCheck.pins = s.pins ∧ s.cancelHoldCheck.out = s.out ∧
    s.cancelHoldCheck.calls = s.calls ∧ s.cancelHoldCheck.table = s.table ∧
    s.cancelHoldCheck.att = s.att ∧ s.cancelHoldCheck.ret = s.ret ∧
    s.cancelHoldCheck.check = s.check ∧ s.cancelHoldCheck.clock = s.clock ∧
    s.cancelHoldCheck.pace = s.pace ∧ s.cancelHoldCheck.disp = s.disp ∧
    s.cancelHoldCheck.bus = s.bus ∧ s.cancelHoldCheck.req = s.req ∧
    s.cancelHoldCheck.start = s.start := by
  simp [State.cancelHoldCheck]

/-- `setMotion` changes only: sec. -/
@[simp] theorem State.setMotion_frame (m : Motion) :
    (s.setMotion m).pending = s.pending ∧ (s.setMotion m).now = s.now ∧
    (s.setMotion m).mode = s.mode ∧ (s.setMotion m).cfg = s.cfg ∧ (s.setMotion m).pins = s.pins ∧
    (s.setMotion m).out = s.out ∧ (s.setMotion m).calls = s.calls ∧
    (s.setMotion m).table = s.table ∧ (s.setMotion m).att = s.att ∧ (s.setMotion m).ret = s.ret ∧
    (s.setMotion m).check = s.check ∧ (s.setMotion m).clock = s.clock ∧
    (s.setMotion m).pace = s.pace ∧ (s.setMotion m).disp = s.disp ∧ (s.setMotion m).bus = s.bus ∧
    (s.setMotion m).req = s.req ∧ (s.setMotion m).start = s.start := by
  unfold State.setMotion
  dsimp only
  repeat' split
  all_goals simp

/-- `retime` changes only: sec. -/
@[simp] theorem State.retime_frame :
    s.retime.pending = s.pending ∧ s.retime.now = s.now ∧ s.retime.mode = s.mode ∧
    s.retime.cfg = s.cfg ∧ s.retime.pins = s.pins ∧ s.retime.out = s.out ∧
    s.retime.calls = s.calls ∧ s.retime.table = s.table ∧ s.retime.att = s.att ∧
    s.retime.ret = s.ret ∧ s.retime.check = s.check ∧ s.retime.clock = s.clock ∧
    s.retime.pace = s.pace ∧ s.retime.disp = s.disp ∧ s.retime.bus = s.bus ∧ s.retime.req = s.req ∧
    s.retime.start = s.start := by
  unfold State.retime
  dsimp only
  repeat' split
  all_goals simp

end Sys2Proof.Machine
end

