-- ==== Sys2Proof/Laws/HandOn.lean ====
section
/-! SUPPORT. What the operations of Attribution, TextLine, Picture and HandOn leave unchanged: one frame lemma per
operation, whose conjuncts `simp` uses one by one. -/

namespace Sys2Proof.Machine

variable (s : State)

/-- `rekey` changes only: att, ret, check. -/
@[simp] theorem State.rekey_frame (r : Option CauseKey) :
    (s.rekey r).pending = s.pending ∧ (s.rekey r).now = s.now ∧ (s.rekey r).mode = s.mode ∧
    (s.rekey r).cfg = s.cfg ∧ (s.rekey r).pins = s.pins ∧ (s.rekey r).out = s.out ∧
    (s.rekey r).calls = s.calls ∧ (s.rekey r).sec = s.sec ∧ (s.rekey r).table = s.table ∧
    (s.rekey r).clock = s.clock ∧ (s.rekey r).pace = s.pace ∧ (s.rekey r).disp = s.disp ∧
    (s.rekey r).bus = s.bus ∧ (s.rekey r).req = s.req ∧ (s.rekey r).start = s.start := by
  unfold State.rekey
  split
  · simp
  · split <;> simp

/-- `copyInputs` changes only: att. -/
@[simp] theorem State.copyInputs_frame :
    s.copyInputs.pending = s.pending ∧ s.copyInputs.now = s.now ∧ s.copyInputs.mode = s.mode ∧
    s.copyInputs.cfg = s.cfg ∧ s.copyInputs.pins = s.pins ∧ s.copyInputs.out = s.out ∧
    s.copyInputs.calls = s.calls ∧ s.copyInputs.sec = s.sec ∧ s.copyInputs.table = s.table ∧
    s.copyInputs.ret = s.ret ∧ s.copyInputs.check = s.check ∧ s.copyInputs.clock = s.clock ∧
    s.copyInputs.pace = s.pace ∧ s.copyInputs.disp = s.disp ∧ s.copyInputs.bus = s.bus ∧
    s.copyInputs.req = s.req ∧ s.copyInputs.start = s.start := by
  simp [State.copyInputs]

/-- `attribute` changes only: att, ret, check. -/
@[simp] theorem State.attribute_frame :
    s.attribute.pending = s.pending ∧ s.attribute.now = s.now ∧ s.attribute.mode = s.mode ∧
    s.attribute.cfg = s.cfg ∧ s.attribute.pins = s.pins ∧ s.attribute.out = s.out ∧
    s.attribute.calls = s.calls ∧ s.attribute.sec = s.sec ∧ s.attribute.table = s.table ∧
    s.attribute.clock = s.clock ∧ s.attribute.pace = s.pace ∧ s.attribute.disp = s.disp ∧
    s.attribute.bus = s.bus ∧ s.attribute.req = s.req ∧ s.attribute.start = s.start := by
  unfold State.attribute
  dsimp only
  split <;> simp

/-- `countStopSecond` changes only: ret, check. -/
@[simp] theorem State.countStopSecond_frame :
    s.countStopSecond.pending = s.pending ∧ s.countStopSecond.now = s.now ∧
    s.countStopSecond.mode = s.mode ∧ s.countStopSecond.cfg = s.cfg ∧
    s.countStopSecond.pins = s.pins ∧ s.countStopSecond.out = s.out ∧
    s.countStopSecond.calls = s.calls ∧ s.countStopSecond.sec = s.sec ∧
    s.countStopSecond.table = s.table ∧ s.countStopSecond.att = s.att ∧
    s.countStopSecond.clock = s.clock ∧ s.countStopSecond.pace = s.pace ∧
    s.countStopSecond.disp = s.disp ∧ s.countStopSecond.bus = s.bus ∧
    s.countStopSecond.req = s.req ∧ s.countStopSecond.start = s.start := by
  unfold State.countStopSecond
  split <;> simp

/-- `chooseItem` changes only: disp. -/
@[simp] theorem State.chooseItem_frame (e : Option Item) (o : List Message) :
    (s.chooseItem e o).pending = s.pending ∧ (s.chooseItem e o).now = s.now ∧
    (s.chooseItem e o).mode = s.mode ∧ (s.chooseItem e o).cfg = s.cfg ∧
    (s.chooseItem e o).pins = s.pins ∧ (s.chooseItem e o).out = s.out ∧
    (s.chooseItem e o).calls = s.calls ∧ (s.chooseItem e o).sec = s.sec ∧
    (s.chooseItem e o).table = s.table ∧ (s.chooseItem e o).att = s.att ∧
    (s.chooseItem e o).ret = s.ret ∧ (s.chooseItem e o).check = s.check ∧
    (s.chooseItem e o).clock = s.clock ∧ (s.chooseItem e o).pace = s.pace ∧
    (s.chooseItem e o).bus = s.bus ∧ (s.chooseItem e o).req = s.req ∧
    (s.chooseItem e o).start = s.start := by
  unfold State.chooseItem
  split <;> simp

/-- `startAlert` changes only: disp. -/
@[simp] theorem State.startAlert_frame (k : CallKind) :
    (s.startAlert k).pending = s.pending ∧ (s.startAlert k).now = s.now ∧
    (s.startAlert k).mode = s.mode ∧ (s.startAlert k).cfg = s.cfg ∧ (s.startAlert k).pins = s.pins ∧
    (s.startAlert k).out = s.out ∧ (s.startAlert k).calls = s.calls ∧ (s.startAlert k).sec = s.sec ∧
    (s.startAlert k).table = s.table ∧ (s.startAlert k).att = s.att ∧ (s.startAlert k).ret = s.ret ∧
    (s.startAlert k).check = s.check ∧ (s.startAlert k).clock = s.clock ∧
    (s.startAlert k).pace = s.pace ∧ (s.startAlert k).bus = s.bus ∧ (s.startAlert k).req = s.req ∧
    (s.startAlert k).start = s.start := by
  unfold State.startAlert
  split <;> simp

/-- `followText` changes only: disp. -/
@[simp] theorem State.followText_frame :
    s.followText.pending = s.pending ∧ s.followText.now = s.now ∧ s.followText.mode = s.mode ∧
    s.followText.cfg = s.cfg ∧ s.followText.pins = s.pins ∧ s.followText.out = s.out ∧
    s.followText.calls = s.calls ∧ s.followText.sec = s.sec ∧ s.followText.table = s.table ∧
    s.followText.att = s.att ∧ s.followText.ret = s.ret ∧ s.followText.check = s.check ∧
    s.followText.clock = s.clock ∧ s.followText.pace = s.pace ∧ s.followText.bus = s.bus ∧
    s.followText.req = s.req ∧ s.followText.start = s.start := by
  unfold State.followText
  repeat' split
  all_goals simp

/-- `stepText` changes only: disp. -/
@[simp] theorem State.stepText_frame (r : Running) :
    (s.stepText r).pending = s.pending ∧ (s.stepText r).now = s.now ∧ (s.stepText r).mode = s.mode ∧
    (s.stepText r).cfg = s.cfg ∧ (s.stepText r).pins = s.pins ∧ (s.stepText r).out = s.out ∧
    (s.stepText r).calls = s.calls ∧ (s.stepText r).sec = s.sec ∧ (s.stepText r).table = s.table ∧
    (s.stepText r).att = s.att ∧ (s.stepText r).ret = s.ret ∧ (s.stepText r).check = s.check ∧
    (s.stepText r).clock = s.clock ∧ (s.stepText r).pace = s.pace ∧ (s.stepText r).bus = s.bus ∧
    (s.stepText r).req = s.req ∧ (s.stepText r).start = s.start := by
  unfold State.stepText
  split <;> simp

/-- `messagesLeft` changes only: disp. -/
@[simp] theorem State.messagesLeft_frame (g : List MsgKey) (o : List Message) :
    (s.messagesLeft g o).pending = s.pending ∧ (s.messagesLeft g o).now = s.now ∧
    (s.messagesLeft g o).mode = s.mode ∧ (s.messagesLeft g o).cfg = s.cfg ∧
    (s.messagesLeft g o).pins = s.pins ∧ (s.messagesLeft g o).out = s.out ∧
    (s.messagesLeft g o).calls = s.calls ∧ (s.messagesLeft g o).sec = s.sec ∧
    (s.messagesLeft g o).table = s.table ∧ (s.messagesLeft g o).att = s.att ∧
    (s.messagesLeft g o).ret = s.ret ∧ (s.messagesLeft g o).check = s.check ∧
    (s.messagesLeft g o).clock = s.clock ∧ (s.messagesLeft g o).pace = s.pace ∧
    (s.messagesLeft g o).bus = s.bus ∧ (s.messagesLeft g o).req = s.req ∧
    (s.messagesLeft g o).start = s.start := by
  unfold State.messagesLeft
  dsimp only
  repeat' split
  all_goals simp

/-- `cutIn` changes only: disp. -/
@[simp] theorem State.cutIn_frame (m : Message) :
    (s.cutIn m).pending = s.pending ∧ (s.cutIn m).now = s.now ∧ (s.cutIn m).mode = s.mode ∧
    (s.cutIn m).cfg = s.cfg ∧ (s.cutIn m).pins = s.pins ∧ (s.cutIn m).out = s.out ∧
    (s.cutIn m).calls = s.calls ∧ (s.cutIn m).sec = s.sec ∧ (s.cutIn m).table = s.table ∧
    (s.cutIn m).att = s.att ∧ (s.cutIn m).ret = s.ret ∧ (s.cutIn m).check = s.check ∧
    (s.cutIn m).clock = s.clock ∧ (s.cutIn m).pace = s.pace ∧ (s.cutIn m).bus = s.bus ∧
    (s.cutIn m).req = s.req ∧ (s.cutIn m).start = s.start := by
  unfold State.cutIn
  split
  · simp
  · split <;> simp

/-- `storeMessage` changes only: disp. -/
@[simp] theorem State.storeMessage_frame (m : Message) :
    (s.storeMessage m).pending = s.pending ∧ (s.storeMessage m).now = s.now ∧
    (s.storeMessage m).mode = s.mode ∧ (s.storeMessage m).cfg = s.cfg ∧
    (s.storeMessage m).pins = s.pins ∧ (s.storeMessage m).out = s.out ∧
    (s.storeMessage m).calls = s.calls ∧ (s.storeMessage m).sec = s.sec ∧
    (s.storeMessage m).table = s.table ∧ (s.storeMessage m).att = s.att ∧
    (s.storeMessage m).ret = s.ret ∧ (s.storeMessage m).check = s.check ∧
    (s.storeMessage m).clock = s.clock ∧ (s.storeMessage m).pace = s.pace ∧
    (s.storeMessage m).bus = s.bus ∧ (s.storeMessage m).req = s.req ∧
    (s.storeMessage m).start = s.start := by
  unfold State.storeMessage
  dsimp only
  repeat' split
  all_goals simp

/-- `withdrawMessage` changes only: disp. -/
@[simp] theorem State.withdrawMessage_frame (k : MsgKey) :
    (s.withdrawMessage k).pending = s.pending ∧ (s.withdrawMessage k).now = s.now ∧
    (s.withdrawMessage k).mode = s.mode ∧ (s.withdrawMessage k).cfg = s.cfg ∧
    (s.withdrawMessage k).pins = s.pins ∧ (s.withdrawMessage k).out = s.out ∧
    (s.withdrawMessage k).calls = s.calls ∧ (s.withdrawMessage k).sec = s.sec ∧
    (s.withdrawMessage k).table = s.table ∧ (s.withdrawMessage k).att = s.att ∧
    (s.withdrawMessage k).ret = s.ret ∧ (s.withdrawMessage k).check = s.check ∧
    (s.withdrawMessage k).clock = s.clock ∧ (s.withdrawMessage k).pace = s.pace ∧
    (s.withdrawMessage k).bus = s.bus ∧ (s.withdrawMessage k).req = s.req ∧
    (s.withdrawMessage k).start = s.start := by
  unfold State.withdrawMessage
  dsimp only
  split <;> simp

/-- `expireMessages` changes only: disp. -/
@[simp] theorem State.expireMessages_frame :
    s.expireMessages.pending = s.pending ∧ s.expireMessages.now = s.now ∧
    s.expireMessages.mode = s.mode ∧ s.expireMessages.cfg = s.cfg ∧ s.expireMessages.pins = s.pins ∧
    s.expireMessages.out = s.out ∧ s.expireMessages.calls = s.calls ∧ s.expireMessages.sec = s.sec ∧
    s.expireMessages.table = s.table ∧ s.expireMessages.att = s.att ∧ s.expireMessages.ret = s.ret ∧
    s.expireMessages.check = s.check ∧ s.expireMessages.clock = s.clock ∧
    s.expireMessages.pace = s.pace ∧ s.expireMessages.bus = s.bus ∧ s.expireMessages.req = s.req ∧
    s.expireMessages.start = s.start := by
  unfold State.expireMessages
  dsimp only
  split <;> simp

/-- `followPages` changes only: disp. -/
@[simp] theorem State.followPages_frame :
    s.followPages.pending = s.pending ∧ s.followPages.now = s.now ∧ s.followPages.mode = s.mode ∧
    s.followPages.cfg = s.cfg ∧ s.followPages.pins = s.pins ∧ s.followPages.out = s.out ∧
    s.followPages.calls = s.calls ∧ s.followPages.sec = s.sec ∧ s.followPages.table = s.table ∧
    s.followPages.att = s.att ∧ s.followPages.ret = s.ret ∧ s.followPages.check = s.check ∧
    s.followPages.clock = s.clock ∧ s.followPages.pace = s.pace ∧ s.followPages.bus = s.bus ∧
    s.followPages.req = s.req ∧ s.followPages.start = s.start := by
  unfold State.followPages
  dsimp only
  repeat' split
  all_goals simp

/-- `redraw` changes only: out, disp. -/
@[simp] theorem State.redraw_frame :
    s.redraw.pending = s.pending ∧ s.redraw.now = s.now ∧ s.redraw.mode = s.mode ∧
    s.redraw.cfg = s.cfg ∧ s.redraw.pins = s.pins ∧ s.redraw.calls = s.calls ∧
    s.redraw.sec = s.sec ∧ s.redraw.table = s.table ∧ s.redraw.att = s.att ∧ s.redraw.ret = s.ret ∧
    s.redraw.check = s.check ∧ s.redraw.clock = s.clock ∧ s.redraw.pace = s.pace ∧
    s.redraw.bus = s.bus ∧ s.redraw.req = s.req ∧ s.redraw.start = s.start := by
  simp [State.redraw]

/-- `followHold` changes only: out, sec, disp. -/
@[simp] theorem State.followHold_frame :
    s.followHold.pending = s.pending ∧ s.followHold.now = s.now ∧ s.followHold.mode = s.mode ∧
    s.followHold.cfg = s.cfg ∧ s.followHold.pins = s.pins ∧ s.followHold.calls = s.calls ∧
    s.followHold.table = s.table ∧ s.followHold.att = s.att ∧ s.followHold.ret = s.ret ∧
    s.followHold.check = s.check ∧ s.followHold.clock = s.clock ∧ s.followHold.pace = s.pace ∧
    s.followHold.bus = s.bus ∧ s.followHold.req = s.req ∧ s.followHold.start = s.start := by
  unfold State.followHold
  dsimp only
  repeat' split
  all_goals simp

/-- `followDormant` changes only: start. -/
@[simp] theorem State.followDormant_frame :
    s.followDormant.pending = s.pending ∧ s.followDormant.now = s.now ∧
    s.followDormant.mode = s.mode ∧ s.followDormant.cfg = s.cfg ∧ s.followDormant.pins = s.pins ∧
    s.followDormant.out = s.out ∧ s.followDormant.calls = s.calls ∧ s.followDormant.sec = s.sec ∧
    s.followDormant.table = s.table ∧ s.followDormant.att = s.att ∧ s.followDormant.ret = s.ret ∧
    s.followDormant.check = s.check ∧ s.followDormant.clock = s.clock ∧
    s.followDormant.pace = s.pace ∧ s.followDormant.disp = s.disp ∧ s.followDormant.bus = s.bus ∧
    s.followDormant.req = s.req := by
  unfold State.followDormant
  split <;> simp

/-- `followOwn` changes only: table, bus. -/
@[simp] theorem State.followOwn_frame :
    s.followOwn.pending = s.pending ∧ s.followOwn.now = s.now ∧ s.followOwn.mode = s.mode ∧
    s.followOwn.cfg = s.cfg ∧ s.followOwn.pins = s.pins ∧ s.followOwn.out = s.out ∧
    s.followOwn.calls = s.calls ∧ s.followOwn.sec = s.sec ∧ s.followOwn.att = s.att ∧
    s.followOwn.ret = s.ret ∧ s.followOwn.check = s.check ∧ s.followOwn.clock = s.clock ∧
    s.followOwn.pace = s.pace ∧ s.followOwn.disp = s.disp ∧ s.followOwn.req = s.req ∧
    s.followOwn.start = s.start := by
  unfold State.followOwn
  split
  · simp
  · split <;> simp

/-- `handDowntime` changes only: pace. -/
@[simp] theorem State.handDowntime_frame :
    s.handDowntime.pending = s.pending ∧ s.handDowntime.now = s.now ∧ s.handDowntime.mode = s.mode ∧
    s.handDowntime.cfg = s.cfg ∧ s.handDowntime.pins = s.pins ∧ s.handDowntime.out = s.out ∧
    s.handDowntime.calls = s.calls ∧ s.handDowntime.sec = s.sec ∧ s.handDowntime.table = s.table ∧
    s.handDowntime.att = s.att ∧ s.handDowntime.ret = s.ret ∧ s.handDowntime.check = s.check ∧
    s.handDowntime.clock = s.clock ∧ s.handDowntime.disp = s.disp ∧ s.handDowntime.bus = s.bus ∧
    s.handDowntime.req = s.req ∧ s.handDowntime.start = s.start := by
  unfold State.handDowntime
  split <;> simp

/-- `handOn` changes only: out, sec, table, att, ret, check, pace, disp, bus, start. -/
@[simp] theorem State.handOn_frame :
    s.handOn.pending = s.pending ∧ s.handOn.now = s.now ∧ s.handOn.mode = s.mode ∧
    s.handOn.cfg = s.cfg ∧ s.handOn.pins = s.pins ∧ s.handOn.calls = s.calls ∧
    s.handOn.clock = s.clock ∧ s.handOn.req = s.req := by
  simp [State.handOn]

/-- `finish` changes only: out, sec, table, att, ret, check, pace, disp, bus, start. -/
@[simp] theorem State.finish_frame :
    s.finish.pending = s.pending ∧ s.finish.now = s.now ∧ s.finish.mode = s.mode ∧
    s.finish.cfg = s.cfg ∧ s.finish.pins = s.pins ∧ s.finish.calls = s.calls ∧
    s.finish.clock = s.clock ∧ s.finish.req = s.req := by
  simp [State.finish]

end Sys2Proof.Machine
end

