-- ==== Sys2Proof/Laws/Shift.lean ====
section
/-! SUPPORT. What shift boundaries and the adoption of TIME MARKs leave unchanged. -/

namespace Sys2Proof.Machine

variable (s : State)

/-- `crossPace` changes only: ret, check, pace. -/
@[simp] theorem State.crossPace_frame :
    s.crossPace.pending = s.pending ∧ s.crossPace.now = s.now ∧ s.crossPace.mode = s.mode ∧
    s.crossPace.cfg = s.cfg ∧ s.crossPace.pins = s.pins ∧ s.crossPace.out = s.out ∧
    s.crossPace.calls = s.calls ∧ s.crossPace.sec = s.sec ∧ s.crossPace.table = s.table ∧
    s.crossPace.att = s.att ∧ s.crossPace.clock = s.clock ∧ s.crossPace.disp = s.disp ∧
    s.crossPace.bus = s.bus ∧ s.crossPace.req = s.req ∧ s.crossPace.start = s.start := by
  simp [State.crossPace]

/-- `crossMode` changes only: mode, start. -/
@[simp] theorem State.crossMode_frame (n : Nat) :
    (s.crossMode n).pending = s.pending ∧ (s.crossMode n).now = s.now ∧
    (s.crossMode n).cfg = s.cfg ∧ (s.crossMode n).pins = s.pins ∧ (s.crossMode n).out = s.out ∧
    (s.crossMode n).calls = s.calls ∧ (s.crossMode n).sec = s.sec ∧
    (s.crossMode n).table = s.table ∧ (s.crossMode n).att = s.att ∧ (s.crossMode n).ret = s.ret ∧
    (s.crossMode n).check = s.check ∧ (s.crossMode n).clock = s.clock ∧
    (s.crossMode n).pace = s.pace ∧ (s.crossMode n).disp = s.disp ∧ (s.crossMode n).bus = s.bus ∧
    (s.crossMode n).req = s.req := by
  unfold State.crossMode
  split
  · simp
  · split <;> simp

/-- `boundary` changes only: mode, calls, sec, table, att, ret, check, pace, bus, start. -/
@[simp] theorem State.boundary_frame (n m : Nat) :
    (s.boundary n m).pending = s.pending ∧ (s.boundary n m).now = s.now ∧
    (s.boundary n m).cfg = s.cfg ∧ (s.boundary n m).pins = s.pins ∧ (s.boundary n m).out = s.out ∧
    (s.boundary n m).clock = s.clock ∧ (s.boundary n m).disp = s.disp ∧
    (s.boundary n m).req = s.req := by
  simp [State.boundary]

/-- `markTime` changes only: clock, bus. -/
@[simp] theorem State.markTime_frame :
    s.markTime.pending = s.pending ∧ s.markTime.now = s.now ∧ s.markTime.mode = s.mode ∧
    s.markTime.cfg = s.cfg ∧ s.markTime.pins = s.pins ∧ s.markTime.out = s.out ∧
    s.markTime.calls = s.calls ∧ s.markTime.sec = s.sec ∧ s.markTime.table = s.table ∧
    s.markTime.att = s.att ∧ s.markTime.ret = s.ret ∧ s.markTime.check = s.check ∧
    s.markTime.pace = s.pace ∧ s.markTime.disp = s.disp ∧ s.markTime.req = s.req ∧
    s.markTime.start = s.start := by
  simp [State.markTime]

/-- `endOvertime` changes only: mode, calls, sec, table, att, ret, check, clock, pace, bus, start. -/
@[simp] theorem State.endOvertime_frame :
    s.endOvertime.pending = s.pending ∧ s.endOvertime.now = s.now ∧ s.endOvertime.cfg = s.cfg ∧
    s.endOvertime.pins = s.pins ∧ s.endOvertime.out = s.out ∧ s.endOvertime.disp = s.disp ∧
    s.endOvertime.req = s.req := by
  unfold State.endOvertime
  dsimp only
  split <;> simp

/-- `shiftStart` changes only: mode, calls, sec, table, att, ret, check, clock, pace, bus, start. -/
@[simp] theorem State.shiftStart_frame (n : Nat) :
    (s.shiftStart n).pending = s.pending ∧ (s.shiftStart n).now = s.now ∧
    (s.shiftStart n).cfg = s.cfg ∧ (s.shiftStart n).pins = s.pins ∧ (s.shiftStart n).out = s.out ∧
    (s.shiftStart n).disp = s.disp ∧ (s.shiftStart n).req = s.req := by
  simp [State.shiftStart]

/-- `shiftEnd` changes only: mode, calls, sec, table, att, ret, check, clock, pace, bus, start. -/
@[simp] theorem State.shiftEnd_frame :
    s.shiftEnd.pending = s.pending ∧ s.shiftEnd.now = s.now ∧ s.shiftEnd.cfg = s.cfg ∧
    s.shiftEnd.pins = s.pins ∧ s.shiftEnd.out = s.out ∧ s.shiftEnd.disp = s.disp ∧
    s.shiftEnd.req = s.req := by
  unfold State.shiftEnd
  split
  · simp
  · split <;> simp

/-- `checkOvertime` changes only: mode, out, calls, sec, table, att, ret, check, clock, pace, disp, bus, start. -/
@[simp] theorem State.checkOvertime_frame :
    s.checkOvertime.pending = s.pending ∧ s.checkOvertime.now = s.now ∧
    s.checkOvertime.cfg = s.cfg ∧ s.checkOvertime.pins = s.pins ∧ s.checkOvertime.req = s.req := by
  unfold State.checkOvertime
  split <;> simp

/-- `gainAuthority` changes only: clock. -/
@[simp] theorem State.gainAuthority_frame :
    s.gainAuthority.pending = s.pending ∧ s.gainAuthority.now = s.now ∧
    s.gainAuthority.mode = s.mode ∧ s.gainAuthority.cfg = s.cfg ∧ s.gainAuthority.pins = s.pins ∧
    s.gainAuthority.out = s.out ∧ s.gainAuthority.calls = s.calls ∧ s.gainAuthority.sec = s.sec ∧
    s.gainAuthority.table = s.table ∧ s.gainAuthority.att = s.att ∧ s.gainAuthority.ret = s.ret ∧
    s.gainAuthority.check = s.check ∧ s.gainAuthority.pace = s.pace ∧
    s.gainAuthority.disp = s.disp ∧ s.gainAuthority.bus = s.bus ∧ s.gainAuthority.req = s.req ∧
    s.gainAuthority.start = s.start := by
  unfold State.gainAuthority
  split <;> simp

/-- `adoptBoundary` changes only: mode, out, calls, sec, table, att, ret, check, clock, pace, disp, bus, start. -/
@[simp] theorem State.adoptBoundary_frame (a b c d : Nat) :
    (s.adoptBoundary a b c d).pending = s.pending ∧ (s.adoptBoundary a b c d).now = s.now ∧
    (s.adoptBoundary a b c d).cfg = s.cfg ∧ (s.adoptBoundary a b c d).pins = s.pins ∧
    (s.adoptBoundary a b c d).req = s.req := by
  simp [State.adoptBoundary]

/-- `adoptSame` changes only: mode, out, calls, sec, table, att, ret, check, clock, pace, disp, bus, start. -/
@[simp] theorem State.adoptSame_frame (a b : Nat) :
    (s.adoptSame a b).pending = s.pending ∧ (s.adoptSame a b).now = s.now ∧
    (s.adoptSame a b).cfg = s.cfg ∧ (s.adoptSame a b).pins = s.pins ∧
    (s.adoptSame a b).req = s.req := by
  unfold State.adoptSame
  dsimp only
  repeat' split
  all_goals simp

/-- `judgeMark` changes only: mode, out, calls, sec, table, att, ret, check, clock, pace, disp, bus, start. -/
@[simp] theorem State.judgeMark_frame (a b c d : Nat) :
    (s.judgeMark a b c d).pending = s.pending ∧ (s.judgeMark a b c d).now = s.now ∧
    (s.judgeMark a b c d).cfg = s.cfg ∧ (s.judgeMark a b c d).pins = s.pins ∧
    (s.judgeMark a b c d).req = s.req := by
  unfold State.judgeMark
  dsimp only
  repeat' split
  all_goals simp

end Sys2Proof.Machine
end

