-- ==== Sys2Proof/Laws/Seconds.lean ====
section
/-! SUPPORT. What mode changes, limits and the seconds expiry leave unchanged. -/

namespace Sys2Proof.Machine

variable (s : State)

/-- `beginTrackers` changes only: calls, clock. -/
@[simp] theorem State.beginTrackers_frame :
    s.beginTrackers.pending = s.pending ∧ s.beginTrackers.now = s.now ∧
    s.beginTrackers.mode = s.mode ∧ s.beginTrackers.cfg = s.cfg ∧ s.beginTrackers.pins = s.pins ∧
    s.beginTrackers.out = s.out ∧ s.beginTrackers.sec = s.sec ∧ s.beginTrackers.table = s.table ∧
    s.beginTrackers.att = s.att ∧ s.beginTrackers.ret = s.ret ∧ s.beginTrackers.check = s.check ∧
    s.beginTrackers.pace = s.pace ∧ s.beginTrackers.disp = s.disp ∧ s.beginTrackers.bus = s.bus ∧
    s.beginTrackers.req = s.req ∧ s.beginTrackers.start = s.start := by
  simp [State.beginTrackers]

/-- `takeUpWork` changes only: sec, table, att, pace, disp, bus, start. -/
@[simp] theorem State.takeUpWork_frame :
    s.takeUpWork.pending = s.pending ∧ s.takeUpWork.now = s.now ∧ s.takeUpWork.mode = s.mode ∧
    s.takeUpWork.cfg = s.cfg ∧ s.takeUpWork.pins = s.pins ∧ s.takeUpWork.out = s.out ∧
    s.takeUpWork.calls = s.calls ∧ s.takeUpWork.ret = s.ret ∧ s.takeUpWork.check = s.check ∧
    s.takeUpWork.clock = s.clock ∧ s.takeUpWork.req = s.req := by
  unfold State.takeUpWork
  dsimp only
  repeat' split
  all_goals simp

/-- `clearArea` changes only: ret, check. -/
@[simp] theorem State.clearArea_frame :
    s.clearArea.pending = s.pending ∧ s.clearArea.now = s.now ∧ s.clearArea.mode = s.mode ∧
    s.clearArea.cfg = s.cfg ∧ s.clearArea.pins = s.pins ∧ s.clearArea.out = s.out ∧
    s.clearArea.calls = s.calls ∧ s.clearArea.sec = s.sec ∧ s.clearArea.table = s.table ∧
    s.clearArea.att = s.att ∧ s.clearArea.clock = s.clock ∧ s.clearArea.pace = s.pace ∧
    s.clearArea.disp = s.disp ∧ s.clearArea.bus = s.bus ∧ s.clearArea.req = s.req ∧
    s.clearArea.start = s.start := by
  simp [State.clearArea]

/-- `judgeArea` changes only: ret, check. -/
@[simp] theorem State.judgeArea_frame :
    s.judgeArea.pending = s.pending ∧ s.judgeArea.now = s.now ∧ s.judgeArea.mode = s.mode ∧
    s.judgeArea.cfg = s.cfg ∧ s.judgeArea.pins = s.pins ∧ s.judgeArea.out = s.out ∧
    s.judgeArea.calls = s.calls ∧ s.judgeArea.sec = s.sec ∧ s.judgeArea.table = s.table ∧
    s.judgeArea.att = s.att ∧ s.judgeArea.clock = s.clock ∧ s.judgeArea.pace = s.pace ∧
    s.judgeArea.disp = s.disp ∧ s.judgeArea.bus = s.bus ∧ s.judgeArea.req = s.req ∧
    s.judgeArea.start = s.start := by
  unfold State.judgeArea
  dsimp only
  repeat' split
  all_goals simp

/-- `closeRetained` changes only: att, ret, check. -/
@[simp] theorem State.closeRetained_frame :
    s.closeRetained.pending = s.pending ∧ s.closeRetained.now = s.now ∧
    s.closeRetained.mode = s.mode ∧ s.closeRetained.cfg = s.cfg ∧ s.closeRetained.pins = s.pins ∧
    s.closeRetained.out = s.out ∧ s.closeRetained.calls = s.calls ∧ s.closeRetained.sec = s.sec ∧
    s.closeRetained.table = s.table ∧ s.closeRetained.clock = s.clock ∧
    s.closeRetained.pace = s.pace ∧ s.closeRetained.disp = s.disp ∧ s.closeRetained.bus = s.bus ∧
    s.closeRetained.req = s.req ∧ s.closeRetained.start = s.start := by
  simp [State.closeRetained]

/-- `restorePace` changes only: ret, check, pace. -/
@[simp] theorem State.restorePace_frame :
    s.restorePace.pending = s.pending ∧ s.restorePace.now = s.now ∧ s.restorePace.mode = s.mode ∧
    s.restorePace.cfg = s.cfg ∧ s.restorePace.pins = s.pins ∧ s.restorePace.out = s.out ∧
    s.restorePace.calls = s.calls ∧ s.restorePace.sec = s.sec ∧ s.restorePace.table = s.table ∧
    s.restorePace.att = s.att ∧ s.restorePace.clock = s.clock ∧ s.restorePace.disp = s.disp ∧
    s.restorePace.bus = s.bus ∧ s.restorePace.req = s.req ∧ s.restorePace.start = s.start := by
  simp [State.restorePace]

/-- `leaveLoading` changes only: mode, cfg, out, calls, sec, table, att, ret, check, clock, pace, disp, bus, start. -/
@[simp] theorem State.leaveLoading_frame (cfg : Cfg) (plans : PlanStore) :
    (s.leaveLoading cfg plans).pending = s.pending ∧ (s.leaveLoading cfg plans).now = s.now ∧
    (s.leaveLoading cfg plans).pins = s.pins ∧ (s.leaveLoading cfg plans).req = s.req := by
  simp [State.leaveLoading]

/-- `halt` changes only: mode, out, sec, table, att, ret, check, pace, disp, bus, start. -/
@[simp] theorem State.halt_frame (c : HaltCode) :
    (s.halt c).pending = s.pending ∧ (s.halt c).now = s.now ∧ (s.halt c).cfg = s.cfg ∧
    (s.halt c).pins = s.pins ∧ (s.halt c).calls = s.calls ∧ (s.halt c).clock = s.clock ∧
    (s.halt c).req = s.req := by
  simp [State.halt]

/-- `enterDormant` changes only: mode, out, sec, table, att, ret, check, pace, disp, bus, req, start. -/
@[simp] theorem State.enterDormant_frame :
    s.enterDormant.pending = s.pending ∧ s.enterDormant.now = s.now ∧ s.enterDormant.cfg = s.cfg ∧
    s.enterDormant.pins = s.pins ∧ s.enterDormant.calls = s.calls ∧
    s.enterDormant.clock = s.clock := by
  simp [State.enterDormant]

/-- `wake` changes only: mode, out, sec, table, att, ret, check, clock, pace, disp, bus, start. -/
@[simp] theorem State.wake_frame :
    s.wake.pending = s.pending ∧ s.wake.now = s.now ∧ s.wake.cfg = s.cfg ∧ s.wake.pins = s.pins ∧
    s.wake.calls = s.calls ∧ s.wake.req = s.req := by
  unfold State.wake
  dsimp only
  split <;> simp

/-- `wakeIfDormant` changes only: mode, out, sec, table, att, ret, check, clock, pace, disp, bus, start. -/
@[simp] theorem State.wakeIfDormant_frame :
    s.wakeIfDormant.pending = s.pending ∧ s.wakeIfDormant.now = s.now ∧
    s.wakeIfDormant.cfg = s.cfg ∧ s.wakeIfDormant.pins = s.pins ∧ s.wakeIfDormant.calls = s.calls ∧
    s.wakeIfDormant.req = s.req := by
  unfold State.wakeIfDormant
  split <;> simp

/-- `expireHolds` changes only: out, calls, sec, table, att, ret, check, pace, disp, bus, start. -/
@[simp] theorem State.expireHolds_frame :
    s.expireHolds.pending = s.pending ∧ s.expireHolds.now = s.now ∧ s.expireHolds.mode = s.mode ∧
    s.expireHolds.cfg = s.cfg ∧ s.expireHolds.pins = s.pins ∧ s.expireHolds.clock = s.clock ∧
    s.expireHolds.req = s.req := by
  unfold State.expireHolds
  split <;> simp

/-- `silenceEntries` changes only: out, sec, table, att, ret, check, pace, disp, bus, start. -/
@[simp] theorem State.silenceEntries_frame :
    s.silenceEntries.pending = s.pending ∧ s.silenceEntries.now = s.now ∧
    s.silenceEntries.mode = s.mode ∧ s.silenceEntries.cfg = s.cfg ∧ s.silenceEntries.pins = s.pins ∧
    s.silenceEntries.calls = s.calls ∧ s.silenceEntries.clock = s.clock ∧
    s.silenceEntries.req = s.req := by
  unfold State.silenceEntries
  split <;> simp

/-- `expireClash` changes only: out, sec, table, att, ret, check, pace, disp, bus, start. -/
@[simp] theorem State.expireClash_frame :
    s.expireClash.pending = s.pending ∧ s.expireClash.now = s.now ∧ s.expireClash.mode = s.mode ∧
    s.expireClash.cfg = s.cfg ∧ s.expireClash.pins = s.pins ∧ s.expireClash.calls = s.calls ∧
    s.expireClash.clock = s.clock ∧ s.expireClash.req = s.req := by
  unfold State.expireClash
  split <;> simp

/-- `expireRefresh` changes only: table, bus. -/
@[simp] theorem State.expireRefresh_frame :
    s.expireRefresh.pending = s.pending ∧ s.expireRefresh.now = s.now ∧
    s.expireRefresh.mode = s.mode ∧ s.expireRefresh.cfg = s.cfg ∧ s.expireRefresh.pins = s.pins ∧
    s.expireRefresh.out = s.out ∧ s.expireRefresh.calls = s.calls ∧ s.expireRefresh.sec = s.sec ∧
    s.expireRefresh.att = s.att ∧ s.expireRefresh.ret = s.ret ∧ s.expireRefresh.check = s.check ∧
    s.expireRefresh.clock = s.clock ∧ s.expireRefresh.pace = s.pace ∧
    s.expireRefresh.disp = s.disp ∧ s.expireRefresh.req = s.req ∧
    s.expireRefresh.start = s.start := by
  unfold State.expireRefresh
  split <;> simp

/-- `expireMarkCount` changes only: clock, bus. -/
@[simp] theorem State.expireMarkCount_frame :
    s.expireMarkCount.pending = s.pending ∧ s.expireMarkCount.now = s.now ∧
    s.expireMarkCount.mode = s.mode ∧ s.expireMarkCount.cfg = s.cfg ∧
    s.expireMarkCount.pins = s.pins ∧ s.expireMarkCount.out = s.out ∧
    s.expireMarkCount.calls = s.calls ∧ s.expireMarkCount.sec = s.sec ∧
    s.expireMarkCount.table = s.table ∧ s.expireMarkCount.att = s.att ∧
    s.expireMarkCount.ret = s.ret ∧ s.expireMarkCount.check = s.check ∧
    s.expireMarkCount.pace = s.pace ∧ s.expireMarkCount.disp = s.disp ∧
    s.expireMarkCount.req = s.req ∧ s.expireMarkCount.start = s.start := by
  unfold State.expireMarkCount
  split <;> simp

/-- `expirePeriod` changes only: pace, bus. -/
@[simp] theorem State.expirePeriod_frame :
    s.expirePeriod.pending = s.pending ∧ s.expirePeriod.now = s.now ∧ s.expirePeriod.mode = s.mode ∧
    s.expirePeriod.cfg = s.cfg ∧ s.expirePeriod.pins = s.pins ∧ s.expirePeriod.out = s.out ∧
    s.expirePeriod.calls = s.calls ∧ s.expirePeriod.sec = s.sec ∧ s.expirePeriod.table = s.table ∧
    s.expirePeriod.att = s.att ∧ s.expirePeriod.ret = s.ret ∧ s.expirePeriod.check = s.check ∧
    s.expirePeriod.clock = s.clock ∧ s.expirePeriod.disp = s.disp ∧ s.expirePeriod.req = s.req ∧
    s.expirePeriod.start = s.start := by
  unfold State.expirePeriod
  split <;> simp

/-- `expireSilence` changes only: clock. -/
@[simp] theorem State.expireSilence_frame :
    s.expireSilence.pending = s.pending ∧ s.expireSilence.now = s.now ∧
    s.expireSilence.mode = s.mode ∧ s.expireSilence.cfg = s.cfg ∧ s.expireSilence.pins = s.pins ∧
    s.expireSilence.out = s.out ∧ s.expireSilence.calls = s.calls ∧ s.expireSilence.sec = s.sec ∧
    s.expireSilence.table = s.table ∧ s.expireSilence.att = s.att ∧ s.expireSilence.ret = s.ret ∧
    s.expireSilence.check = s.check ∧ s.expireSilence.pace = s.pace ∧
    s.expireSilence.disp = s.disp ∧ s.expireSilence.bus = s.bus ∧ s.expireSilence.req = s.req ∧
    s.expireSilence.start = s.start := by
  unfold State.expireSilence
  split <;> simp

/-- `expireCountSilence` changes only: pace. -/
@[simp] theorem State.expireCountSilence_frame :
    s.expireCountSilence.pending = s.pending ∧ s.expireCountSilence.now = s.now ∧
    s.expireCountSilence.mode = s.mode ∧ s.expireCountSilence.cfg = s.cfg ∧
    s.expireCountSilence.pins = s.pins ∧ s.expireCountSilence.out = s.out ∧
    s.expireCountSilence.calls = s.calls ∧ s.expireCountSilence.sec = s.sec ∧
    s.expireCountSilence.table = s.table ∧ s.expireCountSilence.att = s.att ∧
    s.expireCountSilence.ret = s.ret ∧ s.expireCountSilence.check = s.check ∧
    s.expireCountSilence.clock = s.clock ∧ s.expireCountSilence.disp = s.disp ∧
    s.expireCountSilence.bus = s.bus ∧ s.expireCountSilence.req = s.req ∧
    s.expireCountSilence.start = s.start := by
  unfold State.expireCountSilence
  split <;> simp

/-- `expireDurations` changes only: out, sec, table, att, ret, check, pace, disp, bus, start. -/
@[simp] theorem State.expireDurations_frame :
    s.expireDurations.pending = s.pending ∧ s.expireDurations.now = s.now ∧
    s.expireDurations.mode = s.mode ∧ s.expireDurations.cfg = s.cfg ∧
    s.expireDurations.pins = s.pins ∧ s.expireDurations.calls = s.calls ∧
    s.expireDurations.clock = s.clock ∧ s.expireDurations.req = s.req := by
  unfold State.expireDurations
  split <;> simp

/-- `reachPlanEnd` changes only: out, sec, table, att, ret, check, pace, disp, bus, start. -/
@[simp] theorem State.reachPlanEnd_frame :
    s.reachPlanEnd.pending = s.pending ∧ s.reachPlanEnd.now = s.now ∧ s.reachPlanEnd.mode = s.mode ∧
    s.reachPlanEnd.cfg = s.cfg ∧ s.reachPlanEnd.pins = s.pins ∧ s.reachPlanEnd.calls = s.calls ∧
    s.reachPlanEnd.clock = s.clock ∧ s.reachPlanEnd.req = s.req := by
  unfold State.reachPlanEnd
  split <;> simp

/-- `expireOvertime` changes only: mode, out, calls, sec, table, att, ret, check, clock, pace, disp, bus, start. -/
@[simp] theorem State.expireOvertime_frame :
    s.expireOvertime.pending = s.pending ∧ s.expireOvertime.now = s.now ∧
    s.expireOvertime.cfg = s.cfg ∧ s.expireOvertime.pins = s.pins ∧
    s.expireOvertime.req = s.req := by
  unfold State.expireOvertime
  split <;> simp

/-- `expireDormant` changes only: mode, out, sec, table, att, ret, check, pace, disp, bus, req, start. -/
@[simp] theorem State.expireDormant_frame :
    s.expireDormant.pending = s.pending ∧ s.expireDormant.now = s.now ∧
    s.expireDormant.cfg = s.cfg ∧ s.expireDormant.pins = s.pins ∧ s.expireDormant.calls = s.calls ∧
    s.expireDormant.clock = s.clock := by
  unfold State.expireDormant
  split <;> simp

/-- `settle` changes only: mode, out, calls, sec, table, att, ret, check, clock, pace, disp, bus, req, start. -/
@[simp] theorem State.settle_frame :
    s.settle.pending = s.pending ∧ s.settle.now = s.now ∧ s.settle.cfg = s.cfg ∧
    s.settle.pins = s.pins := by
  simp [State.settle]

/-- `begin_` changes only: now, mode, out, calls, sec, table, att, ret, check, clock, pace, disp, bus, req, start. -/
@[simp] theorem State.begin_frame (t : Time) :
    (s.begin_ t).pending = s.pending ∧ (s.begin_ t).cfg = s.cfg ∧ (s.begin_ t).pins = s.pins := by
  simp [State.begin_]

/-- `tickClock` changes only: clock. -/
@[simp] theorem State.tickClock_frame :
    s.tickClock.pending = s.pending ∧ s.tickClock.now = s.now ∧ s.tickClock.mode = s.mode ∧
    s.tickClock.cfg = s.cfg ∧ s.tickClock.pins = s.pins ∧ s.tickClock.out = s.out ∧
    s.tickClock.calls = s.calls ∧ s.tickClock.sec = s.sec ∧ s.tickClock.table = s.table ∧
    s.tickClock.att = s.att ∧ s.tickClock.ret = s.ret ∧ s.tickClock.check = s.check ∧
    s.tickClock.pace = s.pace ∧ s.tickClock.disp = s.disp ∧ s.tickClock.bus = s.bus ∧
    s.tickClock.req = s.req ∧ s.tickClock.start = s.start := by
  simp [State.tickClock]

/-- `tickCalls` changes only: calls. -/
@[simp] theorem State.tickCalls_frame :
    s.tickCalls.pending = s.pending ∧ s.tickCalls.now = s.now ∧ s.tickCalls.mode = s.mode ∧
    s.tickCalls.cfg = s.cfg ∧ s.tickCalls.pins = s.pins ∧ s.tickCalls.out = s.out ∧
    s.tickCalls.sec = s.sec ∧ s.tickCalls.table = s.table ∧ s.tickCalls.att = s.att ∧
    s.tickCalls.ret = s.ret ∧ s.tickCalls.check = s.check ∧ s.tickCalls.clock = s.clock ∧
    s.tickCalls.pace = s.pace ∧ s.tickCalls.disp = s.disp ∧ s.tickCalls.bus = s.bus ∧
    s.tickCalls.req = s.req ∧ s.tickCalls.start = s.start := by
  unfold State.tickCalls
  split <;> simp

/-- `tickTable` changes only: table. -/
@[simp] theorem State.tickTable_frame :
    s.tickTable.pending = s.pending ∧ s.tickTable.now = s.now ∧ s.tickTable.mode = s.mode ∧
    s.tickTable.cfg = s.cfg ∧ s.tickTable.pins = s.pins ∧ s.tickTable.out = s.out ∧
    s.tickTable.calls = s.calls ∧ s.tickTable.sec = s.sec ∧ s.tickTable.att = s.att ∧
    s.tickTable.ret = s.ret ∧ s.tickTable.check = s.check ∧ s.tickTable.clock = s.clock ∧
    s.tickTable.pace = s.pace ∧ s.tickTable.disp = s.disp ∧ s.tickTable.bus = s.bus ∧
    s.tickTable.req = s.req ∧ s.tickTable.start = s.start := by
  simp [State.tickTable]

/-- `tickMarks` changes only: clock, pace. -/
@[simp] theorem State.tickMarks_frame :
    s.tickMarks.pending = s.pending ∧ s.tickMarks.now = s.now ∧ s.tickMarks.mode = s.mode ∧
    s.tickMarks.cfg = s.cfg ∧ s.tickMarks.pins = s.pins ∧ s.tickMarks.out = s.out ∧
    s.tickMarks.calls = s.calls ∧ s.tickMarks.sec = s.sec ∧ s.tickMarks.table = s.table ∧
    s.tickMarks.att = s.att ∧ s.tickMarks.ret = s.ret ∧ s.tickMarks.check = s.check ∧
    s.tickMarks.disp = s.disp ∧ s.tickMarks.bus = s.bus ∧ s.tickMarks.req = s.req ∧
    s.tickMarks.start = s.start := by
  unfold State.tickMarks
  dsimp only
  repeat' split
  all_goals simp

/-- `tickMessages` changes only: disp. -/
@[simp] theorem State.tickMessages_frame :
    s.tickMessages.pending = s.pending ∧ s.tickMessages.now = s.now ∧ s.tickMessages.mode = s.mode ∧
    s.tickMessages.cfg = s.cfg ∧ s.tickMessages.pins = s.pins ∧ s.tickMessages.out = s.out ∧
    s.tickMessages.calls = s.calls ∧ s.tickMessages.sec = s.sec ∧ s.tickMessages.table = s.table ∧
    s.tickMessages.att = s.att ∧ s.tickMessages.ret = s.ret ∧ s.tickMessages.check = s.check ∧
    s.tickMessages.clock = s.clock ∧ s.tickMessages.pace = s.pace ∧ s.tickMessages.bus = s.bus ∧
    s.tickMessages.req = s.req ∧ s.tickMessages.start = s.start := by
  simp [State.tickMessages]

/-- `tickDormant` changes only: start. -/
@[simp] theorem State.tickDormant_frame :
    s.tickDormant.pending = s.pending ∧ s.tickDormant.now = s.now ∧ s.tickDormant.mode = s.mode ∧
    s.tickDormant.cfg = s.cfg ∧ s.tickDormant.pins = s.pins ∧ s.tickDormant.out = s.out ∧
    s.tickDormant.calls = s.calls ∧ s.tickDormant.sec = s.sec ∧ s.tickDormant.table = s.table ∧
    s.tickDormant.att = s.att ∧ s.tickDormant.ret = s.ret ∧ s.tickDormant.check = s.check ∧
    s.tickDormant.clock = s.clock ∧ s.tickDormant.pace = s.pace ∧ s.tickDormant.disp = s.disp ∧
    s.tickDormant.bus = s.bus ∧ s.tickDormant.req = s.req := by
  unfold State.tickDormant
  split <;> simp

/-- `tick` changes only: out, calls, sec, table, att, ret, check, clock, pace, disp, bus, start. -/
@[simp] theorem State.tick_frame :
    s.tick.pending = s.pending ∧ s.tick.now = s.now ∧ s.tick.mode = s.mode ∧ s.tick.cfg = s.cfg ∧
    s.tick.pins = s.pins ∧ s.tick.req = s.req := by
  simp [State.tick]

end Sys2Proof.Machine
end

