-- ==== Sys2Proof/Laws/Commands.lean ====
section
/-! SUPPORT. What the operations behind single commands leave unchanged. -/

namespace Sys2Proof.Machine

variable (s : State)

/-- `enterHold` changes only: calls, ret, check. -/
@[simp] theorem State.enterHold_frame (k : CallKind) :
    (s.enterHold k).pending = s.pending ∧ (s.enterHold k).now = s.now ∧
    (s.enterHold k).mode = s.mode ∧ (s.enterHold k).cfg = s.cfg ∧ (s.enterHold k).pins = s.pins ∧
    (s.enterHold k).out = s.out ∧ (s.enterHold k).sec = s.sec ∧ (s.enterHold k).table = s.table ∧
    (s.enterHold k).att = s.att ∧ (s.enterHold k).clock = s.clock ∧ (s.enterHold k).pace = s.pace ∧
    (s.enterHold k).disp = s.disp ∧ (s.enterHold k).bus = s.bus ∧ (s.enterHold k).req = s.req ∧
    (s.enterHold k).start = s.start := by
  simp [State.enterHold]

/-- `appendCall` changes only: calls, ret, check. -/
@[simp] theorem State.appendCall_frame (x : Call) :
    (s.appendCall x).pending = s.pending ∧ (s.appendCall x).now = s.now ∧
    (s.appendCall x).mode = s.mode ∧ (s.appendCall x).cfg = s.cfg ∧ (s.appendCall x).pins = s.pins ∧
    (s.appendCall x).out = s.out ∧ (s.appendCall x).sec = s.sec ∧ (s.appendCall x).table = s.table ∧
    (s.appendCall x).att = s.att ∧ (s.appendCall x).clock = s.clock ∧
    (s.appendCall x).pace = s.pace ∧ (s.appendCall x).disp = s.disp ∧ (s.appendCall x).bus = s.bus ∧
    (s.appendCall x).req = s.req ∧ (s.appendCall x).start = s.start := by
  simp [State.appendCall]

/-- `raiseSafety` changes only: calls, ret, check, disp. -/
@[simp] theorem State.raiseSafety_frame (n : Nat) :
    (s.raiseSafety n).pending = s.pending ∧ (s.raiseSafety n).now = s.now ∧
    (s.raiseSafety n).mode = s.mode ∧ (s.raiseSafety n).cfg = s.cfg ∧
    (s.raiseSafety n).pins = s.pins ∧ (s.raiseSafety n).out = s.out ∧
    (s.raiseSafety n).sec = s.sec ∧ (s.raiseSafety n).table = s.table ∧
    (s.raiseSafety n).att = s.att ∧ (s.raiseSafety n).clock = s.clock ∧
    (s.raiseSafety n).pace = s.pace ∧ (s.raiseSafety n).bus = s.bus ∧
    (s.raiseSafety n).req = s.req ∧ (s.raiseSafety n).start = s.start := by
  simp [State.raiseSafety]

/-- `raiseOpen` changes only: calls, ret, check. -/
@[simp] theorem State.raiseOpen_frame (n : Nat) (k : CallKind) :
    (s.raiseOpen n k).pending = s.pending ∧ (s.raiseOpen n k).now = s.now ∧
    (s.raiseOpen n k).mode = s.mode ∧ (s.raiseOpen n k).cfg = s.cfg ∧
    (s.raiseOpen n k).pins = s.pins ∧ (s.raiseOpen n k).out = s.out ∧
    (s.raiseOpen n k).sec = s.sec ∧ (s.raiseOpen n k).table = s.table ∧
    (s.raiseOpen n k).att = s.att ∧ (s.raiseOpen n k).clock = s.clock ∧
    (s.raiseOpen n k).pace = s.pace ∧ (s.raiseOpen n k).disp = s.disp ∧
    (s.raiseOpen n k).bus = s.bus ∧ (s.raiseOpen n k).req = s.req ∧
    (s.raiseOpen n k).start = s.start := by
  simp [State.raiseOpen]

/-- `setOverflow` changes only: calls, ret, check. -/
@[simp] theorem State.setOverflow_frame (k : CallKind) :
    (s.setOverflow k).pending = s.pending ∧ (s.setOverflow k).now = s.now ∧
    (s.setOverflow k).mode = s.mode ∧ (s.setOverflow k).cfg = s.cfg ∧
    (s.setOverflow k).pins = s.pins ∧ (s.setOverflow k).out = s.out ∧
    (s.setOverflow k).sec = s.sec ∧ (s.setOverflow k).table = s.table ∧
    (s.setOverflow k).att = s.att ∧ (s.setOverflow k).clock = s.clock ∧
    (s.setOverflow k).pace = s.pace ∧ (s.setOverflow k).disp = s.disp ∧
    (s.setOverflow k).bus = s.bus ∧ (s.setOverflow k).req = s.req ∧
    (s.setOverflow k).start = s.start := by
  simp [State.setOverflow]

/-- `pullNew` changes only: calls, ret, check, disp. -/
@[simp] theorem State.pullNew_frame (c : Cord) :
    (s.pullNew c).pending = s.pending ∧ (s.pullNew c).now = s.now ∧ (s.pullNew c).mode = s.mode ∧
    (s.pullNew c).cfg = s.cfg ∧ (s.pullNew c).pins = s.pins ∧ (s.pullNew c).out = s.out ∧
    (s.pullNew c).sec = s.sec ∧ (s.pullNew c).table = s.table ∧ (s.pullNew c).att = s.att ∧
    (s.pullNew c).clock = s.clock ∧ (s.pullNew c).pace = s.pace ∧ (s.pullNew c).bus = s.bus ∧
    (s.pullNew c).req = s.req ∧ (s.pullNew c).start = s.start := by
  unfold State.pullNew
  repeat' split
  all_goals simp

/-- `answer` changes only: calls. -/
@[simp] theorem State.answer_frame (c : Cord) :
    (s.answer c).pending = s.pending ∧ (s.answer c).now = s.now ∧ (s.answer c).mode = s.mode ∧
    (s.answer c).cfg = s.cfg ∧ (s.answer c).pins = s.pins ∧ (s.answer c).out = s.out ∧
    (s.answer c).sec = s.sec ∧ (s.answer c).table = s.table ∧ (s.answer c).att = s.att ∧
    (s.answer c).ret = s.ret ∧ (s.answer c).check = s.check ∧ (s.answer c).clock = s.clock ∧
    (s.answer c).pace = s.pace ∧ (s.answer c).disp = s.disp ∧ (s.answer c).bus = s.bus ∧
    (s.answer c).req = s.req ∧ (s.answer c).start = s.start := by
  simp [State.answer]

/-- `resolve` changes only: calls. -/
@[simp] theorem State.resolve_frame (c : Cord) :
    (s.resolve c).pending = s.pending ∧ (s.resolve c).now = s.now ∧ (s.resolve c).mode = s.mode ∧
    (s.resolve c).cfg = s.cfg ∧ (s.resolve c).pins = s.pins ∧ (s.resolve c).out = s.out ∧
    (s.resolve c).sec = s.sec ∧ (s.resolve c).table = s.table ∧ (s.resolve c).att = s.att ∧
    (s.resolve c).ret = s.ret ∧ (s.resolve c).check = s.check ∧ (s.resolve c).clock = s.clock ∧
    (s.resolve c).pace = s.pace ∧ (s.resolve c).disp = s.disp ∧ (s.resolve c).bus = s.bus ∧
    (s.resolve c).req = s.req ∧ (s.resolve c).start = s.start := by
  simp [State.resolve]

/-- `pull` changes only: calls, ret, check, disp. -/
@[simp] theorem State.pull_frame (c : Cord) :
    (s.pull c).pending = s.pending ∧ (s.pull c).now = s.now ∧ (s.pull c).mode = s.mode ∧
    (s.pull c).cfg = s.cfg ∧ (s.pull c).pins = s.pins ∧ (s.pull c).out = s.out ∧
    (s.pull c).sec = s.sec ∧ (s.pull c).table = s.table ∧ (s.pull c).att = s.att ∧
    (s.pull c).clock = s.clock ∧ (s.pull c).pace = s.pace ∧ (s.pull c).bus = s.bus ∧
    (s.pull c).req = s.req ∧ (s.pull c).start = s.start := by
  unfold State.pull
  repeat' split
  all_goals simp

/-- `clearZone` changes only: calls. -/
@[simp] theorem State.clearZone_frame :
    s.clearZone.pending = s.pending ∧ s.clearZone.now = s.now ∧ s.clearZone.mode = s.mode ∧
    s.clearZone.cfg = s.cfg ∧ s.clearZone.pins = s.pins ∧ s.clearZone.out = s.out ∧
    s.clearZone.sec = s.sec ∧ s.clearZone.table = s.table ∧ s.clearZone.att = s.att ∧
    s.clearZone.ret = s.ret ∧ s.clearZone.check = s.check ∧ s.clearZone.clock = s.clock ∧
    s.clearZone.pace = s.pace ∧ s.clearZone.disp = s.disp ∧ s.clearZone.bus = s.bus ∧
    s.clearZone.req = s.req ∧ s.clearZone.start = s.start := by
  simp [State.clearZone]

/-- Entering holds one after another changes only calls and ret. -/
theorem State.foldl_enterHold_frame (l : List Call) :
    (l.foldl (fun u x => u.enterHold x.kind) s).pending = s.pending ∧
    (l.foldl (fun u x => u.enterHold x.kind) s).now = s.now ∧
    (l.foldl (fun u x => u.enterHold x.kind) s).mode = s.mode ∧
    (l.foldl (fun u x => u.enterHold x.kind) s).cfg = s.cfg ∧
    (l.foldl (fun u x => u.enterHold x.kind) s).pins = s.pins ∧
    (l.foldl (fun u x => u.enterHold x.kind) s).out = s.out ∧
    (l.foldl (fun u x => u.enterHold x.kind) s).sec = s.sec ∧
    (l.foldl (fun u x => u.enterHold x.kind) s).table = s.table ∧
    (l.foldl (fun u x => u.enterHold x.kind) s).att = s.att ∧
    (l.foldl (fun u x => u.enterHold x.kind) s).clock = s.clock ∧
    (l.foldl (fun u x => u.enterHold x.kind) s).pace = s.pace ∧
    (l.foldl (fun u x => u.enterHold x.kind) s).disp = s.disp ∧
    (l.foldl (fun u x => u.enterHold x.kind) s).bus = s.bus ∧
    (l.foldl (fun u x => u.enterHold x.kind) s).req = s.req ∧
    (l.foldl (fun u x => u.enterHold x.kind) s).start = s.start := by
  induction l generalizing s with
  | nil => simp
  | cons x l ih => simp only [List.foldl_cons]; simpa using ih (s.enterHold x.kind)

/-- `countDown` changes only: calls, ret, check. -/
@[simp] theorem State.countDown_frame :
    s.countDown.pending = s.pending ∧ s.countDown.now = s.now ∧ s.countDown.mode = s.mode ∧
    s.countDown.cfg = s.cfg ∧ s.countDown.pins = s.pins ∧ s.countDown.out = s.out ∧
    s.countDown.sec = s.sec ∧ s.countDown.table = s.table ∧ s.countDown.att = s.att ∧
    s.countDown.clock = s.clock ∧ s.countDown.pace = s.pace ∧ s.countDown.disp = s.disp ∧
    s.countDown.bus = s.bus ∧ s.countDown.req = s.req ∧ s.countDown.start = s.start := by
  unfold State.countDown
  simp [State.foldl_enterHold_frame]

/-- `rekeyAfter` changes of the board it re-keys only: att, ret, check. -/
theorem State.rekeyAfter_frame (p : State × State) (c : Instr) :
    (rekeyAfter p c).2.pending = p.2.pending ∧ (rekeyAfter p c).2.now = p.2.now ∧
    (rekeyAfter p c).2.mode = p.2.mode ∧ (rekeyAfter p c).2.cfg = p.2.cfg ∧
    (rekeyAfter p c).2.pins = p.2.pins ∧ (rekeyAfter p c).2.out = p.2.out ∧
    (rekeyAfter p c).2.calls = p.2.calls ∧ (rekeyAfter p c).2.sec = p.2.sec ∧
    (rekeyAfter p c).2.table = p.2.table ∧ (rekeyAfter p c).2.clock = p.2.clock ∧
    (rekeyAfter p c).2.pace = p.2.pace ∧ (rekeyAfter p c).2.disp = p.2.disp ∧
    (rekeyAfter p c).2.bus = p.2.bus ∧ (rekeyAfter p c).2.req = p.2.req ∧
    (rekeyAfter p c).2.start = p.2.start := by
  unfold rekeyAfter
  dsimp only
  split <;> simp

/-- Re-keying after the list events of a queue changes only: att, ret, check. -/
theorem State.foldl_rekeyAfter_frame (l : List Instr) (p : State × State) :
    (l.foldl rekeyAfter p).2.pending = p.2.pending ∧ (l.foldl rekeyAfter p).2.now = p.2.now ∧
    (l.foldl rekeyAfter p).2.mode = p.2.mode ∧ (l.foldl rekeyAfter p).2.cfg = p.2.cfg ∧
    (l.foldl rekeyAfter p).2.pins = p.2.pins ∧ (l.foldl rekeyAfter p).2.out = p.2.out ∧
    (l.foldl rekeyAfter p).2.calls = p.2.calls ∧ (l.foldl rekeyAfter p).2.sec = p.2.sec ∧
    (l.foldl rekeyAfter p).2.table = p.2.table ∧ (l.foldl rekeyAfter p).2.clock = p.2.clock ∧
    (l.foldl rekeyAfter p).2.pace = p.2.pace ∧ (l.foldl rekeyAfter p).2.disp = p.2.disp ∧
    (l.foldl rekeyAfter p).2.bus = p.2.bus ∧ (l.foldl rekeyAfter p).2.req = p.2.req ∧
    (l.foldl rekeyAfter p).2.start = p.2.start := by
  induction l generalizing p with
  | nil => simp
  | cons c l ih =>
    have h := ih (rekeyAfter p c)
    simp only [State.rekeyAfter_frame] at h
    exact h

/-- `rekeyTogether` changes only: att, ret, check. -/
@[simp] theorem State.rekeyTogether_frame :
    s.rekeyTogether.pending = s.pending ∧ s.rekeyTogether.now = s.now ∧
    s.rekeyTogether.mode = s.mode ∧ s.rekeyTogether.cfg = s.cfg ∧ s.rekeyTogether.pins = s.pins ∧
    s.rekeyTogether.out = s.out ∧ s.rekeyTogether.calls = s.calls ∧ s.rekeyTogether.sec = s.sec ∧
    s.rekeyTogether.table = s.table ∧ s.rekeyTogether.clock = s.clock ∧
    s.rekeyTogether.pace = s.pace ∧ s.rekeyTogether.disp = s.disp ∧ s.rekeyTogether.bus = s.bus ∧
    s.rekeyTogether.req = s.req ∧ s.rekeyTogether.start = s.start := by
  unfold State.rekeyTogether
  split
  · exact State.foldl_rekeyAfter_frame s.together (s, s)
  · simp

/-- `pulse` changes only: out, calls, sec, table, att, ret, check, pace, disp, bus, start. -/
@[simp] theorem State.pulse_frame (n : Nat) :
    (s.pulse n).pending = s.pending ∧ (s.pulse n).now = s.now ∧ (s.pulse n).mode = s.mode ∧
    (s.pulse n).cfg = s.cfg ∧ (s.pulse n).pins = s.pins ∧ (s.pulse n).clock = s.clock ∧
    (s.pulse n).req = s.req := by
  unfold State.pulse
  dsimp only
  split
  · simp
  · split <;> simp

/-- `countCar` changes only: out, sec, table, att, ret, check, pace, disp, bus, start. -/
@[simp] theorem State.countCar_frame :
    s.countCar.pending = s.pending ∧ s.countCar.now = s.now ∧ s.countCar.mode = s.mode ∧
    s.countCar.cfg = s.cfg ∧ s.countCar.pins = s.pins ∧ s.countCar.calls = s.calls ∧
    s.countCar.clock = s.clock ∧ s.countCar.req = s.req := by
  simp [State.countCar]

/-- `setTracker` changes only: calls, clock. -/
@[simp] theorem State.setTracker_frame (i : InputId) (x : Tracker) :
    (s.setTracker i x).pending = s.pending ∧ (s.setTracker i x).now = s.now ∧
    (s.setTracker i x).mode = s.mode ∧ (s.setTracker i x).cfg = s.cfg ∧
    (s.setTracker i x).pins = s.pins ∧ (s.setTracker i x).out = s.out ∧
    (s.setTracker i x).sec = s.sec ∧ (s.setTracker i x).table = s.table ∧
    (s.setTracker i x).att = s.att ∧ (s.setTracker i x).ret = s.ret ∧
    (s.setTracker i x).check = s.check ∧ (s.setTracker i x).pace = s.pace ∧
    (s.setTracker i x).disp = s.disp ∧ (s.setTracker i x).bus = s.bus ∧
    (s.setTracker i x).req = s.req ∧ (s.setTracker i x).start = s.start := by
  cases i <;> simp [State.setTracker]

/-- `changeLevel` changes only: pins, calls, clock. -/
@[simp] theorem State.changeLevel_frame (i : InputId) (v : Bool) :
    (s.changeLevel i v).pending = s.pending ∧ (s.changeLevel i v).now = s.now ∧
    (s.changeLevel i v).mode = s.mode ∧ (s.changeLevel i v).cfg = s.cfg ∧
    (s.changeLevel i v).out = s.out ∧ (s.changeLevel i v).sec = s.sec ∧
    (s.changeLevel i v).table = s.table ∧ (s.changeLevel i v).att = s.att ∧
    (s.changeLevel i v).ret = s.ret ∧ (s.changeLevel i v).check = s.check ∧
    (s.changeLevel i v).pace = s.pace ∧ (s.changeLevel i v).disp = s.disp ∧
    (s.changeLevel i v).bus = s.bus ∧ (s.changeLevel i v).req = s.req ∧
    (s.changeLevel i v).start = s.start := by
  unfold State.changeLevel
  dsimp only
  repeat' split
  all_goals simp

/-- `changeFlash` changes only: out, disp. -/
@[simp] theorem State.changeFlash_frame :
    s.changeFlash.pending = s.pending ∧ s.changeFlash.now = s.now ∧ s.changeFlash.mode = s.mode ∧
    s.changeFlash.cfg = s.cfg ∧ s.changeFlash.pins = s.pins ∧ s.changeFlash.calls = s.calls ∧
    s.changeFlash.sec = s.sec ∧ s.changeFlash.table = s.table ∧ s.changeFlash.att = s.att ∧
    s.changeFlash.ret = s.ret ∧ s.changeFlash.check = s.check ∧ s.changeFlash.clock = s.clock ∧
    s.changeFlash.pace = s.pace ∧ s.changeFlash.bus = s.bus ∧ s.changeFlash.req = s.req ∧
    s.changeFlash.start = s.start := by
  simp [State.changeFlash]

/-- `startAttempt` changes only: bus, req. -/
@[simp] theorem State.startAttempt_frame (i : SlotId) (f : List Byte) :
    (s.startAttempt i f).pending = s.pending ∧ (s.startAttempt i f).now = s.now ∧
    (s.startAttempt i f).mode = s.mode ∧ (s.startAttempt i f).cfg = s.cfg ∧
    (s.startAttempt i f).pins = s.pins ∧ (s.startAttempt i f).out = s.out ∧
    (s.startAttempt i f).calls = s.calls ∧ (s.startAttempt i f).sec = s.sec ∧
    (s.startAttempt i f).table = s.table ∧ (s.startAttempt i f).att = s.att ∧
    (s.startAttempt i f).ret = s.ret ∧ (s.startAttempt i f).check = s.check ∧
    (s.startAttempt i f).clock = s.clock ∧ (s.startAttempt i f).pace = s.pace ∧
    (s.startAttempt i f).disp = s.disp ∧ (s.startAttempt i f).start = s.start := by
  cases i <;> simp [State.startAttempt]

/-- `reportSent` changes only: table, req. -/
@[simp] theorem State.reportSent_frame (x : Tx) :
    (s.reportSent x).pending = s.pending ∧ (s.reportSent x).now = s.now ∧
    (s.reportSent x).mode = s.mode ∧ (s.reportSent x).cfg = s.cfg ∧ (s.reportSent x).pins = s.pins ∧
    (s.reportSent x).out = s.out ∧ (s.reportSent x).calls = s.calls ∧ (s.reportSent x).sec = s.sec ∧
    (s.reportSent x).att = s.att ∧ (s.reportSent x).ret = s.ret ∧ (s.reportSent x).check = s.check ∧
    (s.reportSent x).clock = s.clock ∧ (s.reportSent x).pace = s.pace ∧
    (s.reportSent x).disp = s.disp ∧ (s.reportSent x).bus = s.bus ∧
    (s.reportSent x).start = s.start := by
  unfold State.reportSent
  split <;> simp

/-- `replyEnded` changes only: req. -/
@[simp] theorem State.replyEnded_frame (x : Tx) (f : Requests → Requests) :
    (s.replyEnded x f).pending = s.pending ∧ (s.replyEnded x f).now = s.now ∧
    (s.replyEnded x f).mode = s.mode ∧ (s.replyEnded x f).cfg = s.cfg ∧
    (s.replyEnded x f).pins = s.pins ∧ (s.replyEnded x f).out = s.out ∧
    (s.replyEnded x f).calls = s.calls ∧ (s.replyEnded x f).sec = s.sec ∧
    (s.replyEnded x f).table = s.table ∧ (s.replyEnded x f).att = s.att ∧
    (s.replyEnded x f).ret = s.ret ∧ (s.replyEnded x f).check = s.check ∧
    (s.replyEnded x f).clock = s.clock ∧ (s.replyEnded x f).pace = s.pace ∧
    (s.replyEnded x f).disp = s.disp ∧ (s.replyEnded x f).bus = s.bus ∧
    (s.replyEnded x f).start = s.start := by
  unfold State.replyEnded
  split <;> simp

/-- `sent` changes only: out, sec, table, att, ret, check, pace, disp, bus, req, start. -/
@[simp] theorem State.sent_frame (x : Tx) :
    (s.sent x).pending = s.pending ∧ (s.sent x).now = s.now ∧ (s.sent x).mode = s.mode ∧
    (s.sent x).cfg = s.cfg ∧ (s.sent x).pins = s.pins ∧ (s.sent x).calls = s.calls ∧
    (s.sent x).clock = s.clock := by
  unfold State.sent
  dsimp only
  split <;> simp

/-- `collide` changes only: out, sec, table, att, ret, check, pace, disp, bus, req, start. -/
@[simp] theorem State.collide_frame (x : Tx) :
    (s.collide x).pending = s.pending ∧ (s.collide x).now = s.now ∧ (s.collide x).mode = s.mode ∧
    (s.collide x).cfg = s.cfg ∧ (s.collide x).pins = s.pins ∧ (s.collide x).calls = s.calls ∧
    (s.collide x).clock = s.clock := by
  unfold State.collide
  dsimp only
  repeat' split
  all_goals simp

/-- `activity` changes only: mode, out, sec, table, att, ret, check, clock, pace, disp, bus, start. -/
@[simp] theorem State.activity_frame :
    s.activity.pending = s.pending ∧ s.activity.now = s.now ∧ s.activity.cfg = s.cfg ∧
    s.activity.pins = s.pins ∧ s.activity.calls = s.calls ∧ s.activity.req = s.req := by
  unfold State.activity
  dsimp only
  repeat' split
  all_goals simp

/-- `endReception` changes only: bus. -/
@[simp] theorem State.endReception_frame :
    s.endReception.pending = s.pending ∧ s.endReception.now = s.now ∧ s.endReception.mode = s.mode ∧
    s.endReception.cfg = s.cfg ∧ s.endReception.pins = s.pins ∧ s.endReception.out = s.out ∧
    s.endReception.calls = s.calls ∧ s.endReception.sec = s.sec ∧ s.endReception.table = s.table ∧
    s.endReception.att = s.att ∧ s.endReception.ret = s.ret ∧ s.endReception.check = s.check ∧
    s.endReception.clock = s.clock ∧ s.endReception.pace = s.pace ∧ s.endReception.disp = s.disp ∧
    s.endReception.req = s.req ∧ s.endReception.start = s.start := by
  simp [State.endReception]

/-- `takeStatus` changes only: table. -/
@[simp] theorem State.takeStatus_frame (e : Envelope) :
    (s.takeStatus e).pending = s.pending ∧ (s.takeStatus e).now = s.now ∧
    (s.takeStatus e).mode = s.mode ∧ (s.takeStatus e).cfg = s.cfg ∧ (s.takeStatus e).pins = s.pins ∧
    (s.takeStatus e).out = s.out ∧ (s.takeStatus e).calls = s.calls ∧ (s.takeStatus e).sec = s.sec ∧
    (s.takeStatus e).att = s.att ∧ (s.takeStatus e).ret = s.ret ∧ (s.takeStatus e).check = s.check ∧
    (s.takeStatus e).clock = s.clock ∧ (s.takeStatus e).pace = s.pace ∧
    (s.takeStatus e).disp = s.disp ∧ (s.takeStatus e).bus = s.bus ∧ (s.takeStatus e).req = s.req ∧
    (s.takeStatus e).start = s.start := by
  unfold State.takeStatus
  repeat' split
  all_goals simp

/-- `recoverCount` changes only: ret, check, pace, bus. -/
@[simp] theorem State.recoverCount_frame (e : Envelope) :
    (s.recoverCount e).pending = s.pending ∧ (s.recoverCount e).now = s.now ∧
    (s.recoverCount e).mode = s.mode ∧ (s.recoverCount e).cfg = s.cfg ∧
    (s.recoverCount e).pins = s.pins ∧ (s.recoverCount e).out = s.out ∧
    (s.recoverCount e).calls = s.calls ∧ (s.recoverCount e).sec = s.sec ∧
    (s.recoverCount e).table = s.table ∧ (s.recoverCount e).att = s.att ∧
    (s.recoverCount e).clock = s.clock ∧ (s.recoverCount e).disp = s.disp ∧
    (s.recoverCount e).req = s.req ∧ (s.recoverCount e).start = s.start := by
  unfold State.recoverCount
  dsimp only
  split <;> simp

/-- `onZoneStatus` changes only: out, sec, table, att, ret, check, pace, disp, bus, start. -/
@[simp] theorem State.onZoneStatus_frame (e : Envelope) :
    (s.onZoneStatus e).pending = s.pending ∧ (s.onZoneStatus e).now = s.now ∧
    (s.onZoneStatus e).mode = s.mode ∧ (s.onZoneStatus e).cfg = s.cfg ∧
    (s.onZoneStatus e).pins = s.pins ∧ (s.onZoneStatus e).calls = s.calls ∧
    (s.onZoneStatus e).clock = s.clock ∧ (s.onZoneStatus e).req = s.req := by
  simp [State.onZoneStatus]

/-- `onTimeMark` changes only: mode, out, calls, sec, table, att, ret, check, clock, pace, disp, bus, start. -/
@[simp] theorem State.onTimeMark_frame (e : Envelope) :
    (s.onTimeMark e).pending = s.pending ∧ (s.onTimeMark e).now = s.now ∧
    (s.onTimeMark e).cfg = s.cfg ∧ (s.onTimeMark e).pins = s.pins ∧
    (s.onTimeMark e).req = s.req := by
  simp [State.onTimeMark]

/-- `useCount` changes only: ret, check, pace. -/
@[simp] theorem State.useCount_frame (e : Envelope) :
    (s.useCount e).pending = s.pending ∧ (s.useCount e).now = s.now ∧ (s.useCount e).mode = s.mode ∧
    (s.useCount e).cfg = s.cfg ∧ (s.useCount e).pins = s.pins ∧ (s.useCount e).out = s.out ∧
    (s.useCount e).calls = s.calls ∧ (s.useCount e).sec = s.sec ∧ (s.useCount e).table = s.table ∧
    (s.useCount e).att = s.att ∧ (s.useCount e).clock = s.clock ∧ (s.useCount e).disp = s.disp ∧
    (s.useCount e).bus = s.bus ∧ (s.useCount e).req = s.req ∧ (s.useCount e).start = s.start := by
  unfold State.useCount
  split <;> simp

/-- `onCount` changes only: out, sec, table, att, ret, check, pace, disp, bus, start. -/
@[simp] theorem State.onCount_frame (e : Envelope) :
    (s.onCount e).pending = s.pending ∧ (s.onCount e).now = s.now ∧ (s.onCount e).mode = s.mode ∧
    (s.onCount e).cfg = s.cfg ∧ (s.onCount e).pins = s.pins ∧ (s.onCount e).calls = s.calls ∧
    (s.onCount e).clock = s.clock ∧ (s.onCount e).req = s.req := by
  simp [State.onCount]

/-- `onMessage` changes only: out, sec, table, att, ret, check, pace, disp, bus, start. -/
@[simp] theorem State.onMessage_frame (e : Envelope) :
    (s.onMessage e).pending = s.pending ∧ (s.onMessage e).now = s.now ∧
    (s.onMessage e).mode = s.mode ∧ (s.onMessage e).cfg = s.cfg ∧ (s.onMessage e).pins = s.pins ∧
    (s.onMessage e).calls = s.calls ∧ (s.onMessage e).clock = s.clock ∧
    (s.onMessage e).req = s.req := by
  unfold State.onMessage
  split <;> simp

/-- `onWithdrawal` changes only: out, sec, table, att, ret, check, pace, disp, bus, start. -/
@[simp] theorem State.onWithdrawal_frame (e : Envelope) :
    (s.onWithdrawal e).pending = s.pending ∧ (s.onWithdrawal e).now = s.now ∧
    (s.onWithdrawal e).mode = s.mode ∧ (s.onWithdrawal e).cfg = s.cfg ∧
    (s.onWithdrawal e).pins = s.pins ∧ (s.onWithdrawal e).calls = s.calls ∧
    (s.onWithdrawal e).clock = s.clock ∧ (s.onWithdrawal e).req = s.req := by
  unfold State.onWithdrawal
  split <;> simp

/-- `handReply` changes only: bus, req. -/
@[simp] theorem State.handReply_frame (n : Nat) (p : List Byte) :
    (s.handReply n p).pending = s.pending ∧ (s.handReply n p).now = s.now ∧
    (s.handReply n p).mode = s.mode ∧ (s.handReply n p).cfg = s.cfg ∧
    (s.handReply n p).pins = s.pins ∧ (s.handReply n p).out = s.out ∧
    (s.handReply n p).calls = s.calls ∧ (s.handReply n p).sec = s.sec ∧
    (s.handReply n p).table = s.table ∧ (s.handReply n p).att = s.att ∧
    (s.handReply n p).ret = s.ret ∧ (s.handReply n p).check = s.check ∧
    (s.handReply n p).clock = s.clock ∧ (s.handReply n p).pace = s.pace ∧
    (s.handReply n p).disp = s.disp ∧ (s.handReply n p).start = s.start := by
  simp [State.handReply]

/-- `answerRequest` changes only: bus, req. -/
@[simp] theorem State.answerRequest_frame (e : Envelope) (n : Nat) (p : List Byte) :
    (s.answerRequest e n p).pending = s.pending ∧ (s.answerRequest e n p).now = s.now ∧
    (s.answerRequest e n p).mode = s.mode ∧ (s.answerRequest e n p).cfg = s.cfg ∧
    (s.answerRequest e n p).pins = s.pins ∧ (s.answerRequest e n p).out = s.out ∧
    (s.answerRequest e n p).calls = s.calls ∧ (s.answerRequest e n p).sec = s.sec ∧
    (s.answerRequest e n p).table = s.table ∧ (s.answerRequest e n p).att = s.att ∧
    (s.answerRequest e n p).ret = s.ret ∧ (s.answerRequest e n p).check = s.check ∧
    (s.answerRequest e n p).clock = s.clock ∧ (s.answerRequest e n p).pace = s.pace ∧
    (s.answerRequest e n p).disp = s.disp ∧ (s.answerRequest e n p).start = s.start := by
  simp [State.answerRequest]

/-- `serveRead` changes only: bus, req. -/
@[simp] theorem State.serveRead_frame (e : Envelope) :
    (s.serveRead e).pending = s.pending ∧ (s.serveRead e).now = s.now ∧
    (s.serveRead e).mode = s.mode ∧ (s.serveRead e).cfg = s.cfg ∧ (s.serveRead e).pins = s.pins ∧
    (s.serveRead e).out = s.out ∧ (s.serveRead e).calls = s.calls ∧ (s.serveRead e).sec = s.sec ∧
    (s.serveRead e).table = s.table ∧ (s.serveRead e).att = s.att ∧ (s.serveRead e).ret = s.ret ∧
    (s.serveRead e).check = s.check ∧ (s.serveRead e).clock = s.clock ∧
    (s.serveRead e).pace = s.pace ∧ (s.serveRead e).disp = s.disp ∧
    (s.serveRead e).start = s.start := by
  unfold State.serveRead
  dsimp only
  repeat' split
  all_goals simp

/-- `clearChanged` changes only: ret, check. -/
@[simp] theorem State.clearChanged_frame (n : Nat) :
    (s.clearChanged n).pending = s.pending ∧ (s.clearChanged n).now = s.now ∧
    (s.clearChanged n).mode = s.mode ∧ (s.clearChanged n).cfg = s.cfg ∧
    (s.clearChanged n).pins = s.pins ∧ (s.clearChanged n).out = s.out ∧
    (s.clearChanged n).calls = s.calls ∧ (s.clearChanged n).sec = s.sec ∧
    (s.clearChanged n).table = s.table ∧ (s.clearChanged n).att = s.att ∧
    (s.clearChanged n).clock = s.clock ∧ (s.clearChanged n).pace = s.pace ∧
    (s.clearChanged n).disp = s.disp ∧ (s.clearChanged n).bus = s.bus ∧
    (s.clearChanged n).req = s.req ∧ (s.clearChanged n).start = s.start := by
  unfold State.clearChanged
  split <;> simp

/-- `serveMark` changes only: ret, check, bus, req. -/
@[simp] theorem State.serveMark_frame (e : Envelope) :
    (s.serveMark e).pending = s.pending ∧ (s.serveMark e).now = s.now ∧
    (s.serveMark e).mode = s.mode ∧ (s.serveMark e).cfg = s.cfg ∧ (s.serveMark e).pins = s.pins ∧
    (s.serveMark e).out = s.out ∧ (s.serveMark e).calls = s.calls ∧ (s.serveMark e).sec = s.sec ∧
    (s.serveMark e).table = s.table ∧ (s.serveMark e).att = s.att ∧
    (s.serveMark e).clock = s.clock ∧ (s.serveMark e).pace = s.pace ∧
    (s.serveMark e).disp = s.disp ∧ (s.serveMark e).start = s.start := by
  unfold State.serveMark
  dsimp only
  repeat' split
  all_goals simp

end Sys2Proof.Machine
end

