-- ==== Sys2Proof/Laws/Values.lean ====
section
/-! SUPPORT. What the shared operations do: for each, one lemma that says the values it leaves, cited in
place of unfolding it. -/

namespace Sys2Proof.Machine

variable (s : State)

/-! ## Time and marks -/

@[simp] theorem State.atTime_now (t : Time) : (s.atTime t).now = max s.now t := rfl

/-- A mark changes its slot alone, and nothing on a mirror or outside STANDBY and SHIFT. -/
theorem State.mark_value (i : SlotId) :
    s.mark i = if s.running = true ∧ s.mirror = false
      then s.setBus (s.bus.setSlot i (s.bus.slot i).mark) else s := by
  unfold State.mark
  by_cases h : s.running = true <;> by_cases k : s.mirror = true <;> simp [h, k]

/-- A slot that was marked is not EMPTY, and one that was PENDING keeps its count. -/
theorem Slot.mark_value (x : Slot) :
    x.mark.state ≠ .empty ∧ (x.state = .empty → x.mark = ⟨.pending, 0, false⟩) ∧
    (x.state = .pending → x.mark = x) ∧
    (x.state = .sending → x.mark = { x with remark := true }) := by
  unfold Slot.mark
  cases h : x.state <;> simp [h]

@[simp] theorem Bus.slot_setSlot_self (b : Bus) (i : SlotId) (x : Slot) : (b.setSlot i x).slot i = x := by
  cases i <;> rfl

theorem Bus.slot_setSlot_other (b : Bus) (i j : SlotId) (x : Slot) (h : j ≠ i) :
    (b.setSlot i x).slot j = b.slot j := by
  cases i <;> cases j <;> first | rfl | exact absurd rfl h

/-- A slot's replacement changes that slot alone. -/
@[simp] theorem Bus.setSlot_frame (b : Bus) (i : SlotId) (x : Slot) :
    (b.setSlot i x).tx = b.tx ∧ (b.setSlot i x).jam = b.jam ∧ (b.setSlot i x).backoff = b.backoff ∧ (b.setSlot i x).rng = b.rng ∧
    (b.setSlot i x).trouble = b.trouble ∧ (b.setSlot i x).idle = b.idle ∧
    (b.setSlot i x).gapFrom = b.gapFrom ∧ (b.setSlot i x).gapCut = b.gapCut ∧
    (b.setSlot i x).armed = b.armed ∧
    (b.setSlot i x).wake = b.wake ∧ (b.setSlot i x).activityReady = b.activityReady := by
  cases i <;> simp [Bus.setSlot]

/-! ## The retained area and its check word -/

/-- A check word that agrees with the area goes on agreeing at every change of it (R83, R193). -/
theorem State.setRet_agrees (x : Retained) (h : s.check = checkWordOf s.ret) :
    (s.setRet x).check = checkWordOf x := by
  by_cases k : x = s.ret
  · simp [k, h]
  · simp [k]

/-- A clearing leaves the area cleared and in agreement (R188, R192). -/
theorem State.clearArea_value :
    s.clearArea.ret = .cleared ∧ s.clearArea.check = checkWordOf s.clearArea.ret := by
  simp [State.clearArea]

/-! ## Derived times and the gap of a pulse -/

/-- After a change of takt the derived times are the current ones, and the gap before is kept (R28). -/
theorem State.retime_value (h : s.running = true) :
    s.retime.sec.times = s.currentTimes ∧
    (s.sec.times = s.currentTimes → s.retime = s) ∧
    (s.sec.times ≠ s.currentTimes →
      s.retime.sec.gapChange = some (s.now, s.sec.gapAt s.now)) := by
  unfold State.retime
  by_cases k : s.sec.times = s.currentTimes
  · simp [h, k]
  · simp only [h, k, if_true, if_false]
    split
    · split
      · refine ⟨?_, fun e => absurd e (by simp), fun _ => ?_⟩ <;>
          (unfold State.setMotion; split <;> simp [State.cancelHoldCheck])
      · simp
    · simp

/-- A pulse with nothing waiting at its moment is measured against the gap as it stands (R30). -/
theorem State.pulseGap_value (h : s.together = []) : s.pulseGap = s.sec.gapAt s.now := by
  simp [State.pulseGap, h]

/-- A pulse with nothing waiting at its moment re-keys nothing but by the hand-overs themselves (R73). -/
theorem State.rekeyTogether_alone (h : s.together = []) : s.rekeyTogether = s := by
  simp [State.rekeyTogether, h]

/-- With one list event waiting, the stop follows the evaluation made after it where it takes a call from
the list, and stays otherwise (R73). -/
theorem State.rekeyTogether_one (c : Instr) (h : s.together = [c]) (k : s.mode = .shift) :
    s.rekeyTogether =
      if (s.takeListEvent c).calls.list.length < s.calls.list.length
      then s.rekey (evaluate (s.takeListEvent c).cfg (s.takeListEvent c).attInputs) else s := by
  simp [State.rekeyTogether, rekeyAfter, h, k]

/-! ## The own zone record -/

/-- The own zone record of an awake board that is no mirror is the composed one; any other keeps what it
had (R53, R55). -/
theorem State.followOwn_value :
    (s.mode.awake = true → s.mirror = false → s.followOwn.table.own = s.ownRecord) ∧
    (s.mode.awake = false ∨ s.mirror = true → s.followOwn = s) := by
  unfold State.followOwn
  refine ⟨fun h k => ?_, fun h => ?_⟩
  · simp only [h, k]
    by_cases e : s.ownRecord = s.table.own
    · simp [e]
    · simp [e]
  · rcases h with h | h <;> simp [h]

/-! ## The wave on the line -/

/-- During an attempt the line carries the bits of its frame, from its start on (R154, R157). -/
theorem Bus.txLevel_value (b : Bus) (t : Time) :
    (∀ x ∈ b.tx, b.txLevel t = (frameBits x.frame).getD ((t - x.start) / 8) true) ∧
    (b.tx = none → (b.txLevel t = false ↔ ∃ m ∈ b.jam, m ≤ t ∧ t < m + 160)) ∧
    b.driverEnabled t = !b.txLevel t := by
  refine ⟨?_, ?_, rfl⟩
  · intro x hx
    simp only [Option.mem_def] at hx
    simp [Bus.txLevel, hx, Tx.bitAt, bitTime]
  · intro h
    cases hj : b.jam
    · simp [Bus.txLevel, h, hj]
    · simp only [Bus.txLevel, h, hj, jammed, Option.any_some, Bool.not_eq_false', Bool.and_eq_true,
        decide_eq_true_eq, Option.mem_def, Option.some.injEq, exists_eq_left']
      rfl

/-! ## Motion, car counter, peak -/

/-- After `setMotion` the motion is the one given; a stop leaves no timer and no hold-fail flag. -/
theorem State.setMotion_value (m : Motion) :
    (s.setMotion m).sec.motion = m ∧
    (s.sec.motion = m → s.setMotion m = s) ∧
    (s.sec.motion ≠ .stopped → m = .stopped →
      (s.setMotion m).sec.stopTimer = none ∧ (s.setMotion m).sec.holdTimer = none ∧
      (s.setMotion m).sec.holdFail = false) ∧
    (m ≠ .stopped → (s.setMotion m).sec.stopTimer = s.sec.stopTimer ∧
      (s.setMotion m).sec.holdFail = s.sec.holdFail) := by
  unfold State.setMotion
  by_cases h : s.sec.motion = m
  · simp only [h, if_true, true_and]
    exact ⟨fun _ => trivial, fun h1 h2 => absurd h2 h1, fun _ => trivial⟩
  · cases m <;> simp [h, State.cancelHoldCheck, State.startHoldTimer] <;> split <;> simp

/-- After `setCar` the counter is the one given, and a change hands it on, marks COUNT and restarts the
period. -/
theorem State.setCar_value (n : Nat) :
    (s.setCar n).ret.car = n ∧ (n = s.ret.car → s.setCar n = s) ∧
    (n ≠ s.ret.car → s.setCar n = ((s.setRet { s.ret with car := n, actual := n }).setPace
      { s.pace with period := 0 }).mark .count) := by
  unfold State.setCar
  by_cases h : n = s.ret.car <;> simp [h]

/-- The peak never falls at an evaluation. -/
theorem State.evalPeak_value :
    s.evalPeak.ret = { s.ret with peak := s.evalPeak.ret.peak } ∧
    (∀ p ∈ s.ret.peak, ∃ q ∈ s.evalPeak.ret.peak, p ≤ q) := by
  unfold State.evalPeak
  split
  · split
    · refine ⟨rfl, ?_⟩
      intro p hp
      have hp' : s.ret.peak = some p := hp
      exact ⟨_, rfl, by rw [hp']; exact Nat.le_max_left _ _⟩
    · exact ⟨rfl, fun p hp => ⟨p, hp, Nat.le_refl p⟩⟩
  · exact ⟨rfl, fun p hp => ⟨p, hp, Nat.le_refl p⟩⟩

/-! ## Shift records -/

/-- Closing the open interval leaves none open and changes the current record alone. -/
theorem Retained.closeInterval_value (r : Retained) :
    r.closeInterval.interval = none ∧ r.closeInterval.last = r.last ∧ r.closeInterval.shift = r.shift ∧
    r.closeInterval.serial = r.serial ∧ r.closeInterval.actual = r.actual ∧
    r.closeInterval.peak = r.peak ∧ r.closeInterval.car = r.car ∧
    (r.interval = none → r.closeInterval = r) ∧
    (∀ i ∈ r.interval, r.closeInterval.current = r.current.map (fun c => c.close_ i)) := by
  unfold Retained.closeInterval
  split <;> simp_all

/-- What a boundary leaves of the retained area before the pace unit and the counter follow. -/
theorem Retained.cross_value (r : Retained) (shift serial : Nat) :
    (r.cross shift serial).shift = shift ∧ (r.cross shift serial).serial = some serial ∧
    (r.cross shift serial).interval = none ∧
    (r.cross shift serial).current = (if shift = 0 then none else some (.begin_ shift serial)) ∧
    (r.current = none → (r.cross shift serial).last = r.last) ∧
    (∀ c ∈ r.current, ∃ d, r.closeInterval.current = some d ∧
      (r.cross shift serial).last = some (d.freeze ⟨r.actual, r.peak⟩)) ∧
    (r.cross shift serial).car = r.car := by
  unfold Retained.cross Retained.closeInterval
  cases h : r.interval <;> cases k : r.current <;> simp [h, k]

/-- A close keeps everything of a record but tally, total, version and changed flag. -/
theorem Record.close_frame (r : Record) (i : Interval) :
    (r.close_ i).shift = r.shift ∧ (r.close_ i).serial = r.serial ∧ (r.close_ i).raised = r.raised ∧
    (r.close_ i).holds = r.holds ∧ (r.close_ i).close = r.close ∧
    (r.close_ i).tally = chargeTally (chargeKey r.tally i.key) i.seconds i.charged r.tally ∧
    (r.close_ i).total = addSeconds r.total i.seconds := by
  unfold Record.close_ Record.advance
  simp only
  split <;> simp

/-! ## Boundaries -/

/-- A boundary leaves the board in STANDBY or SHIFT (R91). -/
theorem State.crossMode_runs (n : Nat) : (s.crossMode n).running = true := by
  unfold State.crossMode
  repeat' split
  all_goals simp_all [State.running, Mode.runs]

/-- The pace unit at a boundary leaves counter and count period alone. -/
theorem State.crossPace_value :
    s.crossPace.ret.car = s.ret.car ∧ s.crossPace.pace.period = s.pace.period ∧
    s.crossPace.pace.source = none ∧ s.crossPace.ret.actual = 0 := by
  simp [State.crossPace]

/-- The car counter at a boundary: 0, no car-out edge recorded, and where it was above 0 COUNT marked and
the count period at 0 (R37, R124, log 22). -/
theorem State.boundary_counter (n m : Nat) (hm : s.mirror = false) :
    (s.boundary n m).ret.car = 0 ∧ (s.boundary n m).sec.lastCar = none ∧
    (s.boundary n m).bus.count = (if s.ret.car = 0 then s.bus.count else s.bus.count.mark) ∧
    (s.boundary n m).pace.period = (if s.ret.car = 0 then s.pace.period else 0) := by
  simp only [State.boundary]
  generalize hv : State.crossMode n _ = v
  have h1 : v.running = true := by rw [← hv]; exact State.crossMode_runs _ n
  have h2 : v.mirror = false := by rw [← hv]; simpa [State.mirror] using hm
  have h3 : v.ret.car = s.ret.car := by rw [← hv]; simp [Retained.cross_value]
  have h4 : v.bus = s.bus := by rw [← hv]; simp
  have h5 : v.pace = s.pace := by rw [← hv]; simp
  rw [State.evalPeak_value _ |>.1]
  simp only [State.crossPace_value, State.evalPeak_frame, State.crossPace_frame, State.setSec_ret,
    State.setSec_bus, State.setSec_pace, State.setSec_sec, (v.setCar_value 0).1, true_and]
  by_cases k : s.ret.car = 0
  · simp [k, (v.setCar_value 0).2.1 (by rw [h3, k]), h4, h5]
  · rw [(v.setCar_value 0).2.2 (by rw [h3]; exact fun e => k e.symm), State.mark_value]
    simp [k, h4, State.running, State.mirror, Bus.slot, Bus.setSlot] at *
    simp [h1, h2]

/-! ## The end of a gap -/

/-- What LINE_IDLE does (R155, R162, R163): at the end of a gap the line is idle; at one whose start bit
was taken first it stays busy; both arm the receiver of a running board; otherwise nothing. -/
theorem State.lineIdle_value (t : Time) :
    let b := s.begin_ t
    (b.gapOver = true → execLineIdle t s = .next (b.endGap true)) ∧
    (b.gapOver = false → b.gapCutNow = true → execLineIdle t s = .next (b.endGap false)) ∧
    (b.gapOver = false → b.gapCutNow = false → execLineIdle t s = .next b) := by
  refine ⟨fun h => ?_, fun h k => ?_, fun h k => ?_⟩ <;> simp_all [execLineIdle]

/-- When a gap is over, and when one was cut by a start bit of this moment. -/
theorem State.gap_iff :
    (s.gapOver = true ↔ s.mode.awake = true ∧ s.bus.idle = false ∧ s.bus.tx = none ∧
      s.bus.gapFrom + 192 ≤ s.now) ∧
    (s.gapCutNow = true ↔ s.mode.awake = true ∧ s.bus.tx = none ∧ s.bus.gapCut = some s.now) := by
  simp [State.gapOver, State.gapCutNow, gapTime, bitTime, and_assoc]
  exact fun _ _ _ => decide_eq_true_iff

/-! ## What follows at the end of a command -/

/-- The hold output after the call list and the mode have been followed (R20). -/
@[simp] theorem State.followHold_out : s.followHold.out.hold = s.holdWanted := by
  unfold State.followHold
  by_cases h : s.holdWanted = s.out.hold
  · rw [if_pos h, h]
  · rw [if_neg h]
    by_cases k : s.holdWanted = true
    · rw [if_pos k, k]
      dsimp only
      split <;> split <;> simp
    · rw [if_neg k]
      simp [k]

/-- What the copies say is what their owners hold: the zone condition and the ENC and HOLD-FAIL flags are on a
mirror those of the LIVE mirrored record (R131, R134), and the elapsed times are taken at the shift second
in SHIFT with the time valid (R136). -/
theorem State.dispInputs_value :
    s.dispInputs.shownCondition = s.ownView.condition ∧
    s.dispInputs.knownSecond = s.knownSecond ∧
    s.dispInputs.indicators.enc =
      (if s.mirror = true then s.liveMirrored.any (fun e => e.encFault) else s.sec.encFault) ∧
    s.dispInputs.indicators.holdFail =
      (if s.mirror = true then s.liveMirrored.any (fun e => e.holdFail) else s.sec.holdFail) := by
  refine ⟨?_, rfl, ?_⟩ <;>
    simp only [DispInputs.shownCondition, DispInputs.indicators, DispInputs.liveMirrored,
      State.dispInputs, State.ownView, State.liveMirrored, State.mirror]
  all_goals
    by_cases h : s.cfg.roles.mirror = true
    · cases k : s.table.mirrored with
      | none => simp [h, OwnView.quiet]
      | some e =>
        by_cases l : e.live = true <;>
          simp [h, l, PeerEntry.mirrorView, OwnView.quiet, Option.filter]
    · simp [h]

/-- What the picture and the outputs are after a redraw (R127 to R132). -/
theorem State.redraw_value :
    s.redraw.disp.copies = s.dispInputs ∧
    s.redraw.disp.picture = render s.dispInputs { s.disp with copies := s.dispInputs } ∧
    s.redraw.out = { s.out with
      bcnRed := beaconLevel s.dispInputs .red, bcnAmb := beaconLevel s.dispInputs .amber
      bcnGrn := beaconLevel s.dispInputs .green, horn := s.dispInputs.horn } := by
  unfold State.redraw
  refine ⟨?_, ?_, rfl⟩
  · simp only [State.setOut_disp, State.setDisp_disp]
    split
    · rfl
    · split <;> rfl
  · simp only [State.setOut_disp, State.setDisp_disp]
    split
    · next h => exact h.symm
    · split <;> rfl

/-! ## The display link -/

/-- Choosing an item of the text line changes neither the picture nor the display link. -/
theorem State.chooseItem_link (e : Option Item) (o : List Message) :
    (s.chooseItem e o).disp.picture = s.disp.picture ∧ (s.chooseItem e o).disp.link = s.disp.link := by
  unfold State.chooseItem
  split <;> simp

/-- Handing on changes neither the picture nor the display link: the redraw behind it does. -/
theorem State.handOn_link :
    s.handOn.disp.picture = s.disp.picture ∧ s.handOn.disp.link = s.disp.link := by
  have alert (u : State) (k : CallKind) :
      (u.startAlert k).disp.picture = u.disp.picture ∧ (u.startAlert k).disp.link = u.disp.link := by
    unfold State.startAlert
    split <;> simp
  have hold (u : State) :
      u.followHold.disp.picture = u.disp.picture ∧ u.followHold.disp.link = u.disp.link := by
    unfold State.followHold
    dsimp only
    repeat' split
    all_goals simp [alert]
  have text (u : State) :
      u.followText.disp.picture = u.disp.picture ∧ u.followText.disp.link = u.disp.link := by
    unfold State.followText
    repeat' split
    all_goals simp [State.chooseItem_link]
  have pages (u : State) :
      u.followPages.disp.picture = u.disp.picture ∧ u.followPages.disp.link = u.disp.link := by
    unfold State.followPages
    dsimp only
    repeat' split
    all_goals simp
  simp [State.handOn, pages, text, hold]

/-- A redraw puts a picture that has changed on the display link, but in LOADING (R129). -/
theorem State.redraw_link :
    s.redraw.disp.link =
      if s.redraw.disp.picture = s.disp.picture ∨ s.mode = .loading then s.disp.link
      else s.disp.link.send s.redraw.disp.picture := by
  unfold State.redraw
  dsimp only
  by_cases h : render s.dispInputs { s.disp with copies := s.dispInputs } = s.disp.picture
  · simp [h]
  · by_cases k : s.mode = .loading <;> simp [h, k]

/-- The end of a command puts a picture that has changed on the display link, but in LOADING (R129). -/
theorem State.finish_link :
    s.finish.disp.link =
      if s.finish.disp.picture = s.disp.picture ∨ s.mode = .loading then s.disp.link
      else s.disp.link.send s.finish.disp.picture := by
  have h := s.handOn.redraw_link
  rw [s.handOn_link.1, s.handOn_link.2, s.handOn_frame.2.2.1] at h
  exact h

/-! ## Receptions -/

/-- Everything a reception can do (R163): the owner acts on a valid frame of the row at an armed
receiver of a running board, anything else received disarms, and nothing is received otherwise. -/
theorem State.receive_value (frame : List Byte) (row : Envelope → Bool)
    (owner : Envelope → State → State) :
    ((s.bus.armed = false ∨ s.running = false) → s.receive frame row owner = s) ∧
    (s.bus.armed = true → s.running = true →
      (∀ e ∈ parseFrame frame, row e = true → s.receive frame row owner = owner e s.endReception) ∧
      (∀ e ∈ parseFrame frame, row e = false → s.receive frame row owner = s.endReception) ∧
      (parseFrame frame = none → s.receive frame row owner = s.endReception)) := by
  unfold State.receive
  refine ⟨?_, ?_⟩
  · rintro (h | h) <;> simp [h]
  · intro h k
    simp only [h, k, Bool.and_self, if_true]
    refine ⟨?_, ?_, ?_⟩
    · intro e he hr
      rw [Option.mem_def.mp he]
      simp [hr]
    · intro e he hr
      rw [Option.mem_def.mp he]
      simp [hr]
    · intro hn
      rw [hn]

/-! ## Ordered lists -/

theorem mem_placeMessage (m x : Message) (l : List Message) :
    x ∈ placeMessage m l ↔ x = m ∨ x ∈ l := by
  induction l with
  | nil => simp [placeMessage]
  | cons y rest ih =>
    unfold placeMessage
    split
    · simp
    · simp [ih]; tauto

@[simp] theorem length_placeMessage (m : Message) (l : List Message) :
    (placeMessage m l).length = l.length + 1 := by
  induction l with
  | nil => rfl
  | cons y rest ih =>
    unfold placeMessage
    split <;> simp [ih]

/-- A message is placed before the messages of lower priority and behind every other (R147). -/
theorem placeMessage_split (m : Message) (l : List Message)
    (h : l.Pairwise (fun x y => y.priority ≤ x.priority)) :
    placeMessage m l = l.filter (fun x => m.priority ≤ x.priority) ++ [m] ++
      l.filter (fun x => x.priority < m.priority) := by
  induction l with
  | nil => rfl
  | cons y rest ih =>
    obtain ⟨hy, hrest⟩ := List.pairwise_cons.mp h
    unfold placeMessage
    by_cases k : y.priority < m.priority
    · have h1 : rest.filter (fun x => decide (m.priority ≤ x.priority)) = [] := by
        rw [List.filter_eq_nil_iff]
        intro x hx
        have := hy x hx
        simp only [decide_eq_true_eq]
        omega
      have h2 : rest.filter (fun x => decide (x.priority < m.priority)) = rest := by
        rw [List.filter_eq_self]
        intro x hx
        have := hy x hx
        simp only [decide_eq_true_eq]
        omega
      have h3 : ¬ m.priority ≤ y.priority := by omega
      simp [k, h1, h2, h3]
    · have h3 : m.priority ≤ y.priority := by omega
      simp [k, h3, ih hrest]

/-- Where an entry stands after it was placed: its own zone's entry is the new one, every other is kept
(R45). -/
theorem mem_placeEntry (e x : PeerEntry) (l : List PeerEntry)
    (h : l.Pairwise (fun x y => x.zone < y.zone)) :
    x ∈ placeEntry e l ↔ x = e ∨ (x ∈ l ∧ x.zone ≠ e.zone) := by
  induction l with
  | nil => simp [placeEntry]
  | cons y rest ih =>
    obtain ⟨hy, hrest⟩ := List.pairwise_cons.mp h
    unfold placeEntry
    split
    · next k =>
      simp only [List.mem_cons]
      constructor
      · rintro (h1 | h1 | h1)
        · exact .inl h1
        · subst h1; exact .inr ⟨.inl rfl, by omega⟩
        · have := hy x h1; exact .inr ⟨.inr h1, by omega⟩
      · rintro (h1 | ⟨h1 | h1, _⟩)
        · exact .inl h1
        · exact .inr (.inl h1)
        · exact .inr (.inr h1)
    · split
      · next k2 =>
        simp only [List.mem_cons]
        constructor
        · rintro (h1 | h1)
          · exact .inl h1
          · have := hy x h1; exact .inr ⟨.inr h1, by omega⟩
        · rintro (h1 | ⟨h1 | h1, h2⟩)
          · exact .inl h1
          · subst h1; exact absurd k2.symm h2
          · exact .inr h1
      · next k1 k2 =>
        simp only [List.mem_cons, ih hrest]
        constructor
        · rintro (h1 | h1 | ⟨h1, h2⟩)
          · subst h1; exact .inr ⟨.inl rfl, fun h => k2 h.symm⟩
          · exact .inl h1
          · exact .inr ⟨.inr h1, h2⟩
        · rintro (h1 | ⟨h1 | h1, h2⟩)
          · exact .inr (.inl h1)
          · exact .inl h1
          · exact .inr (.inr ⟨h1, h2⟩)

end Sys2Proof.Machine
end

