-- ==== Sys2Proof/WellFormed.lean ====
section
/-! DEFINITION. Which commands are well formed: what the sender of commands may put into the operands.
`exec` is total: a command that is not well formed still answers (a frame that is not of its row is
dropped, log 13), and no statement but those that say so asks for a well-formed command. -/

namespace Sys2Proof

/-- A frame operand is a valid frame (R163) of its row (R165). -/
def frameIs (row : Machine.Envelope → Bool) (frame : List Byte) : Bool :=
  (Machine.parseFrame frame).any row

/-- What a cause of FRAME_DROPPED carries: bytes that form no valid frame (R163). -/
def DropCause.wf : DropCause → Bool
  | .badStart => true
  | .badLength => true
  | .broken => true
  | .gap => true
  | .invalid frame => (Machine.parseFrame frame).isNone

/-- A command whose operands are what its row stands for. -/
def Instr.wf : Instr → Bool
  | .powerOn _ _ => true
  | .restartInput _ _ => true
  | .rstwRelease _ => true
  | .configImageRead _ _ => true
  | .inputActive _ _ => true
  | .inputInactive _ _ => true
  | .qualifyTimeExpiry _ _ _ _ => true
  | .releaseTimeExpiry _ _ => true
  | .advancePulse _ => true
  | .stopDetectExpiry _ => true
  | .holdResponseExpiry _ => true
  | .carOutEdge _ => true
  | .bufferSensorChange _ _ _ => true
  | .bufferSensorQualifyExpiry _ _ => true
  | .readBackChange _ _ => true
  | .readBackQualifyExpiry _ => true
  | .secondsExpiry _ => true
  | .holdLimitExpiry _ => true
  | .entrySilent _ => true
  | .clashCountExpiry _ => true
  | .refreshCountExpiry _ => true
  | .markCountExpiry _ => true
  | .countPeriodExpiry _ => true
  | .silenceCountExpiry _ => true
  | .countSilenceExpiry _ => true
  | .messageDurationExpiry _ => true
  | .endOfPlan _ => true
  | .overtimeLimit _ => true
  | .dormantCountExpiry _ => true
  | .flashPhaseChange _ => true
  | .pictureRefresh _ => true
  | .pictureSent _ => true
  | .pageTimerExpiry _ => true
  | .stepTimerExpiry _ => true
  | .holdSoundEnd _ => true
  | .raiseChirpEnd _ => true
  | .lineIdle _ => true
  | .transmissionStart _ => true
  | .frameSent _ => true
  | .collision _ => true
  | .backoffEnd _ => true
  | .frameDropped _ why => why.wf
  | .zoneStatus _ frame => frameIs Machine.Envelope.isZoneStatus frame
  | .timeMark _ frame => frameIs Machine.Envelope.isTimeMark frame
  | .count _ frame => frameIs Machine.Envelope.isCount frame
  | .message _ frame => frameIs Machine.Envelope.isMessage frame
  | .withdrawal _ frame => frameIs Machine.Envelope.isWithdrawal frame
  | .identify _ frame => frameIs Machine.Envelope.isIdentify frame
  | .readRecord _ frame => frameIs Machine.Envelope.isReadRecord frame
  | .markCollected _ frame => frameIs Machine.Envelope.isMarkCollected frame
  | .badRequest _ frame => frameIs Machine.Envelope.isBadRequest frame
  | .reply _ frame => frameIs Machine.Envelope.isReply frame
  | .wakeActivity _ => true
  | .wakeWindowExpiry _ => true
  | .lineBusy _ => true
  | .rstwActive _ => true
  | .supplyDisturbance _ => true

end Sys2Proof
end

