-- ==== Sys2Proof/Tests/Slice0.lean ====
section
/-! SUPPORT. Our own tests: the well-formedness checks at work, the worked figures of the spec, and for
every statement with hypotheses a state and operands that meet them. Expected figures are the spec's. -/

namespace Sys2Proof.Tests

set_option Elab.async false

open Sys2Proof.Machine

/-! ## Boards to try things on -/

/-- A plan of the spec's chapter Shift Clock and Plans, worked example of break membership. -/
def dayPlan : List PlanEntry :=
  [⟨2, 0, 600⟩, ⟨1, 7200, 8100⟩, ⟨1, 14400, 16200⟩, ⟨2, 18000, 550⟩, ⟨1, 23400, 24300⟩,
   ⟨3, 30600, 360⟩]

/-- A short plan: breaks from 3 to 6 and from 6 to 9, L = 600. -/
def shortPlan : List PlanEntry :=
  [⟨2, 0, 200⟩, ⟨1, 3, 6⟩, ⟨1, 6, 9⟩, ⟨3, 600, 324⟩]

/-- A configuration: zone 12 in section 2 of 3, two stations with cords of every kind, 3 pitches of 16
pulses, a hold limit of 60 s for MATERIAL, EQUIPMENT with policy SIGNAL, R = 1. -/
def cfgOfRoles (roles : Roles) : Cfg where
  imageId := 0x1234
  zone := 12
  section_ := 2
  nS := 3
  roles := roles
  refresh := 1
  groups := [3]
  inputMap := [some ⟨2, .quality⟩, none, some ⟨2, .material⟩, none, none, none, none, none, none, none,
    none, none, some ⟨7, .equipment⟩, some ⟨7, .material⟩, none, none, none, none, none,
    some ⟨7, .safety⟩]
  quality := ⟨.latched, 10⟩
  material := ⟨.timed, 60⟩
  equipment := ⟨.signal, 1800⟩
  pitches := 3
  ppp := 16
  offsets := [0, 6, 0, 0, 0, 0, 30, 0, 0, 0, 0, 0]
  stopMin := 3
  holdResponse := 8
  carSpacing := 2
  defaultTakt := 600
  dormantOn := true
  twoActivity := true
  dormantMinutes := 5
  chirpOn := true

/-- No role. -/
def noRoles : Roles := ⟨false, false, false, false, false⟩

/-- A reference board that is head and tail of its section. -/
def refRoles : Roles := ⟨true, true, false, true, false⟩

/-- A count point. -/
def countRoles : Roles := ⟨false, false, true, true, false⟩

/-- A mirror. -/
def mirrorRoles : Roles := ⟨false, false, false, false, true⟩

/-- A board just started into STANDBY with a configuration. -/
def boardOf (cfg : Cfg) : State :=
  ({ State.reset with
      mode := .standby
      cfg := cfg
      clock := { Clock.initial with plans := ⟨judge dayPlan, judge shortPlan, judge []⟩ }
      sec := { SectionMonitor.initial with stopTimer := if cfg.roles.mirror then none else some 0 }
      bus := { Bus.initial with rng := some 0xACE1#16 }
      start := { State.reset.start with reading := false } } : State).finish

/-- The state after a command. -/
def after (c : Instr) (s : State) : State :=
  match exec c s with
  | .next u => u
  | _ => s

/-- The state with a tracker whose qualify time expires now. -/
def ready (i : InputId) (s : State) : State :=
  s.setTracker i ⟨.qualifying s.now, if s.now < 1000000 then none else some (s.now - 1000000)⟩

/-- An ordinary board in STANDBY. -/
def standby : State := boardOf (cfgOfRoles noRoles)

/-- A reference board in STANDBY. -/
def reference : State := boardOf (cfgOfRoles refRoles)

/-- A mirror in STANDBY. -/
def mirrored : State := boardOf (cfgOfRoles mirrorRoles)

/-- A reference board in shift 2 under the short plan, at shift second 0. -/
def inShift : State := after (.qualifyTimeExpiry 0 .shst false true) (ready .shst reference)

/-- A count point in shift 2. -/
def counting : State :=
  after (.qualifyTimeExpiry 0 .shst false true) (ready .shst (boardOf (cfgOfRoles countRoles)))

/-- The board in shift 2 with its section STOPPED, under DRIVE. -/
def stopped : State := after (.stopDetectExpiry 9000000) inShift

/-- The board in shift 2 with a SAFETY call. -/
def holding : State :=
  after (.qualifyTimeExpiry 0 (.call 19) false false) (ready (.call 19) inShift)

/-- A board powered on again, its image being read. -/
def loading : State := after (.powerOn 0 true) standby

/-- A reference board gone DORMANT from STANDBY. -/
def dormant : State :=
  after (.dormantCountExpiry 0) (reference.setStart { reference.start with dormantCount := 300 })

/-- A board with its receiver armed. -/
def listening (s : State) : State := s.setBus { s.bus with armed := true, idle := true }

/-- A call of one cord of station 2. -/
def aCall (state : CallState) (remaining : Nat) : Call := ⟨2, .material, state, none, remaining, 0⟩

/-- The board with these calls in its list. -/
def withCalls (l : List Call) (s : State) : State := (s.setCalls { s.calls with list := l }).finish

/-- The board with this text-line channel. -/
def withRun (r : Running) (s : State) : State := s.setDisp { s.disp with running := some r }

/-! ## States that meet the hypotheses of the statements -/

/-- A sound state with a command waiting, and the step it takes. -/
abbrev Steps (s : State) : Prop := s.Ok ∧ ∃ u, step s = .next u

/-- The laws of a sound state do not read the queue. -/
theorem ok_setPending (s : State) (h : s.Ok) (q : List Instr) : (s.setPending q).Ok :=
  ⟨h.atRest, h.cfgOk, h.holdFollows, h.callsOk, h.dormantOk, h.sectionOk, h.tableOk, h.ownFollows,
    h.causeFollows, h.recordsOk, h.shiftOk, h.clockOk, h.paceOk, h.storeOk, h.shownFollows, h.slotsOk,
    h.generatorOk, h.mirrorQuiet⟩

theorem test_ok_loading : loading.Ok := by constructor <;> decide +kernel
theorem test_ok_standby : standby.Ok := by constructor <;> decide +kernel
theorem test_ok_mirrored : mirrored.Ok := by constructor <;> decide +kernel
theorem test_ok_inShift : inShift.Ok := by constructor <;> decide +kernel
theorem test_ok_counting : counting.Ok := by constructor <;> decide +kernel
theorem test_ok_stopped : stopped.Ok := by constructor <;> decide +kernel
theorem test_ok_holding : holding.Ok := by constructor <;> decide +kernel
theorem test_ok_dormant : dormant.Ok := by constructor <;> decide +kernel

theorem test_witness_StepRunsFrontCommand :
    (standby.setPending [.advancePulse 5, .lineBusy 6]).pending = .advancePulse 5 :: [.lineBusy 6] ∧
    State.reset.pending = [] := by decide +kernel

theorem test_witness_EndOfCommand :
    stopped.mode = .shift ∧ stopped.running = true ∧ stopped.mode.awake = true ∧
    stopped.mirror = false ∧ mirrored.mirror = true ∧ standby.mode ≠ .shift := by decide +kernel

/-- A picture that changes while the link is free and while it sends one, one that does not, and LOADING. -/
theorem test_witness_EndOfCommand_link :
    (∀ p ∈ [none, some Picture.dark],
      let b := (standby.setDisp { standby.disp with link := ⟨p, false, .dark⟩ }).setMode .dormant
      b.disp.link.sending = p ∧ b.finish.disp.picture ≠ b.disp.picture ∧ b.finish.mode ≠ .loading) ∧
    standby.finish.disp.picture = standby.disp.picture ∧ loading.finish.mode = .loading := by decide +kernel

/-- Derived times of another takt in a section whose stop-detect timer runs since 0: their own expiry has
passed, falls due now. -/
theorem test_witness_EndOfCommand_takt :
    (∀ n ∈ [9000000, 3000000],
      let b := (inShift.setSec { inShift.sec with times := .zero, stopTimer := some 0 }).setNow n
      b.running = true ∧ b.sec.times ≠ b.currentTimes ∧ b.sec.motion ≠ .stopped ∧
      b.finish.sec.times.stopDetect * 1000 = 3000000) := by decide +kernel

/-- A key that changes, with and without an open interval. -/
theorem test_witness_EndOfCommand_key :
    (let b := stopped.setAtt { stopped.att with readBack := ⟨0, true⟩ }
     b.ret.interval.isSome = true ∧ b.ret.interval.map (fun i => i.key) ≠ b.finish.att.cause ∧
       b.finish.att.cause.isSome = true) ∧
    (let b := inShift.setSec { inShift.sec with motion := .stopped, stopTimer := none }
     b.ret.interval = none ∧ b.finish.att.cause.isSome = true) := by decide +kernel

/-- A board that knows of four holding zones. -/
def crowded : State :=
  standby.setTable { standby.table with
    entries := [20, 21, 22, 23].map (fun z =>
      ⟨z, 1, false, false, false, false, .hold, 0, none, some .material, none, false, false, false, false,
        false, false, false, true, .moving, 1, 5, 0, 2, 0, true⟩) }

theorem test_witness_EndOfCommand_pages :
    (crowded.finish.stopLines.length + 2) / 3 = 2 ∧ crowded.disp.pageTimer = none ∧
    crowded.finish.disp.pageTimer ≠ none ∧ (standby.finish.stopLines.length + 2) / 3 ≤ 1 := by
  decide +kernel

theorem test_witness_SettlingLeavesNothing :
    inShift.Quiet ∧ inShift.Ok := ⟨by decide +kernel, test_ok_inShift⟩

theorem test_witness_SettlingLeavesNothing_outstanding :
    (after (.secondsExpiry 1000000) inShift).Ok ∧ ¬ (after (.secondsExpiry 1000000) inShift).Quiet :=
  ⟨by constructor <;> decide +kernel, by decide +kernel⟩

theorem test_witness_StepKeepsStartAndConfiguration :
    Steps (loading.setPending [.configImageRead 0 []]) ∧
    Steps (standby.setPending [.secondsExpiry 1000000]) :=
  ⟨⟨ok_setPending _ test_ok_loading _, _, rfl⟩, ⟨ok_setPending _ test_ok_standby _, _, rfl⟩⟩

theorem test_witness_StepKeepsHoldOutput :
    Steps (holding.setPending [.qualifyTimeExpiry 0 .clr false false]) ∧
    Steps (inShift.setPending [.advancePulse 5]) :=
  ⟨⟨ok_setPending _ test_ok_holding _, _, rfl⟩, ⟨ok_setPending _ test_ok_inShift _, _, rfl⟩⟩

theorem test_witness_StepKeepsCallList :
    Steps (holding.setPending [.advancePulse 5]) ∧ holding.calls.list ≠ [] :=
  ⟨⟨ok_setPending _ test_ok_holding _, _, rfl⟩, by decide +kernel⟩

theorem test_witness_StepKeepsSectionMonitor :
    Steps (stopped.setPending [.advancePulse 9000001]) :=
  ⟨ok_setPending _ test_ok_stopped _, _, rfl⟩

theorem test_witness_StepKeepsZoneTable :
    Steps (mirrored.setPending [.zoneStatus 0 []]) :=
  ⟨ok_setPending _ test_ok_mirrored _, _, rfl⟩

theorem test_witness_StepKeepsCauseAndInterval :
    Steps (inShift.setPending [.stopDetectExpiry 9000000]) ∧
    stopped.mode.awake = true ∧ stopped.ret.interval.isSome = true :=
  ⟨⟨ok_setPending _ test_ok_inShift _, _, rfl⟩, by decide +kernel⟩

theorem test_witness_StepKeepsShiftRecords :
    Steps (stopped.setPending [.advancePulse 9000001]) ∧ stopped.ret.current.isSome = true :=
  ⟨⟨ok_setPending _ test_ok_stopped _, _, rfl⟩, by decide +kernel⟩

theorem test_witness_StepKeepsShiftAndClock :
    Steps (counting.setPending [.secondsExpiry 1000000]) :=
  ⟨ok_setPending _ test_ok_counting _, _, rfl⟩

theorem test_witness_StepKeepsPaceUnit :
    Steps (counting.setPending [.carOutEdge 0]) ∧ counting.ret.peak.isSome = true :=
  ⟨⟨ok_setPending _ test_ok_counting _, _, rfl⟩, by decide +kernel⟩

theorem test_witness_StepKeepsDisplay :
    Steps (dormant.setPending [.wakeActivity 0]) := ⟨ok_setPending _ test_ok_dormant _, _, rfl⟩

theorem test_witness_StepKeepsSlotsAndReplies :
    Steps (inShift.setPending [.transmissionStart 0]) ∧ inShift.bus.time.state = .pending :=
  ⟨⟨ok_setPending _ test_ok_inShift _, _, rfl⟩, by decide +kernel⟩

theorem test_witness_StepKeepsMirrorQuiet :
    Steps (mirrored.setPending [.transmissionStart 0]) ∧ mirrored.mirror = true :=
  ⟨⟨ok_setPending _ test_ok_mirrored _, _, rfl⟩, by decide +kernel⟩

/-- The count point as a car-out edge leaves it. -/
def counted : State :=
  after (.carOutEdge 0) ((counting.setPending [.carOutEdge 0]).setPending [])

theorem test_witness_FiguresNeverDecrease :
    (counting.setPending [.carOutEdge 0]).Ok ∧
    step (counting.setPending [.carOutEdge 0]) = .next counted ∧
    counting.mode.awake = true ∧ counted.mode.awake = true ∧
    counted.ret.shift = counting.ret.shift ∧ counted.ret.serial = counting.ret.serial :=
  ⟨ok_setPending _ test_ok_counting _, rfl, by decide +kernel⟩

theorem test_witness_TargetOfUsablePlan :
    usableEntries dayPlan = true ∧ 0 ≤ 30600 ∧ lengthOf dayPlan ≤ 30600 ∧
    usableEntries shortPlan = true := by decide +kernel

theorem test_witness_CloseKeepsTotalEqualToTally :
    (Record.begin_ 1 0).total = ((Record.begin_ 1 0).tally.map (fun e => e.seconds)).sum ∧
    (Record.begin_ 1 0).total + (⟨otherKey, 4294967295, true⟩ : Interval).seconds < 4294967296 := by
  decide +kernel

/-- A record with 31 keyed entries. -/
def manyEntries : Record :=
  { Record.begin_ 1 0 with tally := (List.range 31).map (fun i => ⟨⟨i, 1, .call .material, .direct⟩, 1, 0⟩) }

/-- A key with an entry and one without, in a record with room and in a full one. -/
theorem test_witness_CloseKeepsTotalEqualToTally_key :
    (Record.begin_ 1 0).Ok ∧ manyEntries.Ok ∧ keyedCount manyEntries.tally = 31 ∧
    manyEntries.tally[30]? = some ⟨⟨30, 1, .call .material, .direct⟩, 1, 0⟩ ∧
    (∀ e ∈ manyEntries.tally, e.key ≠ ⟨0, 2, .drive, .direct⟩) ∧
    (⟨0, 2, .drive, .direct⟩ : CauseKey) ≠ ⟨0, 0, .other, .direct⟩ ∧
    (⟨⟨0, 2, .drive, .direct⟩, 4294967295, false⟩ : Interval).seconds < 4294967296 := by decide +kernel

/-- A section that stands in SHIFT, with nothing to attribute the stop to. -/
def standing : AttInputs := ⟨.shift, .stopped, .quiet, [], none, false, false, false, false⟩

/-- Every step of the search and no cause, on a board of section 2 of 3 that is head and tail. -/
theorem test_witness_CauseSearch :
    evaluate (cfgOfRoles refRoles) standing = some ⟨0, 2, .drive, .direct⟩ ∧
    evaluate (cfgOfRoles refRoles) { standing with starved := true }
      = some ⟨0, 1, .starved, .viaStarved⟩ ∧
    evaluate (cfgOfRoles refRoles) { standing with blocked := true }
      = some ⟨0, 3, .blocked, .viaBlocked⟩ ∧
    evaluate (cfgOfRoles refRoles) { standing with readBack := true }
      = some ⟨0, 2, .external, .direct⟩ ∧
    evaluate (cfgOfRoles refRoles) { standing with own := ⟨.hold, some .quality, some 5⟩, starved := true }
      = some ⟨12, 2, .call .quality, .direct⟩ ∧
    evaluate (cfgOfRoles refRoles) { standing with motion := .moving, readBack := true } = none := by
  decide +kernel

/-- Two heads of section 1, of which the lower-numbered reports: starved, so that the walk leaves the
line; and a tail of section 3 that reports blocked. -/
theorem test_witness_CauseSearch_walks :
    let c : AttInputs := { standing with peers :=
      [⟨5, 1, true, false, false, false, .run, none, none, true, false, true⟩,
       ⟨6, 1, true, false, false, false, .run, none, none, false, false, true⟩,
       ⟨30, 3, false, true, false, false, .run, none, none, false, true, true⟩] }
    c.headStarved (cfgOfRoles refRoles) 1 = true ∧
    starvedWalk c (cfgOfRoles refRoles) 1 = ⟨0, 0, .starved, .viaStarved⟩ ∧
    c.tailBlocked (cfgOfRoles refRoles) 3 = true ∧
    blockedWalk c (cfgOfRoles refRoles) 1 = ⟨0, 9, .blocked, .viaBlocked⟩ := by decide +kernel

theorem test_witness_FrameReadsBack :
    1 ≤ 1 ∧ 126 ≤ 126 ∧ 255 ≤ 255 ∧ lengthAllowed 1 17 = true ∧ lengthAllowed 2 4 = true ∧
    lengthAllowed 4 45 = true ∧ lengthAllowed 5 1 = true ∧ lengthAllowed 6 48 = true := by decide

theorem test_witness_StatusReadsBack :
    holding.Ok ∧ holding.running = true ∧ holding.mirror = false ∧ holding.cfg.section_ ≤ 2 :=
  ⟨test_ok_holding, by decide +kernel⟩

/-- RSTW active since 7 µs. -/
def pressed : State := standby.setStart { standby.start with rstw := .active 7 }

theorem test_witness_RestartInputEntersLoading :
    (pressed.begin_ 50007).start.rstw = .active 7 ∧ 7 + 50000 ≤ (pressed.begin_ 50007).now ∧
    (pressed.begin_ 50006).now < 7 + 50000 := by decide +kernel

theorem test_witness_RestartLineAndDisturbance :
    (standby.begin_ 0).start.rstw = .inactive ∧ (standby.begin_ 0).mode ≠ .loading ∧
    (State.reset.begin_ 0).mode = .loading := by
  decide +kernel

theorem test_witness_BadImageHalts :
    (State.reset.begin_ 0).mode = .loading ∧ (State.reset.begin_ 0).start.reading = true ∧
    imageFault [] = some .e1 := by decide +kernel

theorem test_witness_BadImageHalts_ok : (State.reset.begin_ 0).Ok := by constructor <;> decide +kernel

/-- Erased; a wrong format code; a length of 63; of 64 and of 512 with a wrong CRC. -/
theorem test_witness_ImageChecksInOrder :
    memAt [] 4 = 255 ∧ memAt [2] 0 ≠ 1 ∧ memAt [1, 0, 0, 0, 63] 0 = 1 ∧
    imageLength [1, 0, 0, 0, 63] = 63 ∧ imageLength [1, 0, 0, 0, 64] = 64 ∧
    imageLength [1, 0, 0, 2, 0] = 512 := by decide +kernel

theorem test_witness_InputsMoveTracker :
    (standby.begin_ 0).calls.trackers.length = 20 ∧ (standby.begin_ 0).pins.call.length = 20 ∧
    (standby.begin_ 0).pins.level (.call 2) = !true ∧ (standby.begin_ 0).sampled (.call 2) = true ∧
    (standby.begin_ 0).pins.level (.call 1) = !true ∧ (standby.begin_ 0).sampled (.call 1) = false ∧
    (((standby.setTracker .clr ⟨.releasing 5, none⟩).begin_ 5).tracker .clr).state = .releasing 5 ∧
    ((standby.setTracker .clr ⟨.qualifying 999999, some 0⟩).begin_ 999999).sampled .clr = true ∧
    (((standby.setTracker .clr ⟨.qualifying 999999, some 0⟩).begin_ 999999).tracker .clr).last = some 0 ∧
    ((standby.setTracker .clr ⟨.qualifying 999999, some 0⟩).begin_ 999999).now < 0 + 1000000 := by
  decide +kernel

/-- A running board, a counted pull of a cord whose kind is not OFF. -/
abbrev Pulls (b : State) (n : Fin 20) (cord : Cord) : Prop :=
  b.running = true ∧ Counted b (.call n) ∧ b.cfg.cord n = some cord ∧
  (b.cfg.policy cord.kind).policy ≠ .off

theorem test_witness_PullRaisesCall :
    Pulls ((ready (.call 2) standby).begin_ 0) 2 ⟨2, .material⟩ ∧
    ((ready (.call 2) standby).begin_ 0).calls.find ⟨2, .material⟩ = none ∧
    ((ready (.call 2) standby).begin_ 0).calls.overflow = none := by decide +kernel

/-- A SAFETY pull in SHIFT onto a list of 15, exactly 1 s after the last pull of its input. -/
theorem test_witness_PullRaisesCall_safety :
    let b := (ready (.call 19) (withCalls (List.replicate 15 (aCall .opened 3))
      (inShift.setNow 1000000))).begin_ 1000000
    Pulls b 19 ⟨7, .safety⟩ ∧ b.calls.find ⟨7, .safety⟩ = none ∧ b.calls.overflow = none ∧
    b.calls.list.length < 16 := by decide +kernel

theorem test_witness_PullActsOnStandingCall :
    (∀ x ∈ [aCall .opened 3, aCall .answered 3, aCall .holding 0, aCall .overdue 0],
      let b := (ready (.call 2) (withCalls [x] inShift)).begin_ 0
      Pulls b 2 ⟨2, .material⟩ ∧ b.calls.find ⟨2, .material⟩ = some x) ∧
    (Pulls ((ready (.call 19) holding).begin_ 0) 19 ⟨7, .safety⟩ ∧
      ((ready (.call 19) holding).begin_ 0).calls.find ⟨7, .safety⟩ =
        some ⟨7, .safety, .holding, some 0, 0, 0⟩) := by decide +kernel

/-- A list of 16, and an overflow hold with the list down to nothing. -/
theorem test_witness_PullOnFullListSetsOverflow :
    (let b := (ready (.call 13) (withCalls (List.replicate 16 (aCall .opened 3)) inShift)).begin_ 0
     Pulls b 13 ⟨7, .material⟩ ∧ b.calls.find ⟨7, .material⟩ = none ∧ 16 ≤ b.calls.list.length) ∧
    (let b := (ready (.call 13) (inShift.setCalls
       { inShift.calls with overflow := some ⟨.quality, none⟩ })).begin_ 0
     Pulls b 13 ⟨7, .material⟩ ∧ b.calls.find ⟨7, .material⟩ = none ∧ b.calls.overflow ≠ none) := by
  decide +kernel

/-- The records of the boards pulled on are sound. -/
theorem test_witness_PullRaisesCall_records :
    ((ready (.call 2) standby).begin_ 0).RecordsOk ∧
    ((ready (.call 19) (withCalls (List.replicate 15 (aCall .opened 3))
      (inShift.setNow 1000000))).begin_ 1000000).RecordsOk := ⟨by decide +kernel, by decide +kernel⟩

theorem test_witness_PullOnFullListSetsOverflow_records :
    ((ready (.call 13) (withCalls (List.replicate 16 (aCall .opened 3)) inShift)).begin_ 0).RecordsOk ∧
    ((ready (.call 13) (inShift.setCalls
      { inShift.calls with overflow := some ⟨.quality, none⟩ })).begin_ 0).RecordsOk :=
  ⟨by decide +kernel, by decide +kernel⟩

theorem test_witness_ClearKeyEmptiesList :
    ((ready .clr holding).begin_ 0).running = true ∧ Counted ((ready .clr holding).begin_ 0) .clr ∧
    ((ready .clr dormant).begin_ 0).mode = .dormant ∧ Counted ((ready .clr dormant).begin_ 0) .clr := by
  decide +kernel

/-- Each input, and an OFF kind, in DORMANT. -/
theorem test_witness_LocalInputWakesBoard :
    (∀ i ∈ [InputId.clr, .shst, .shend, .call 2, .call 19],
      ((ready i dormant).begin_ 0).mode = .dormant ∧ Counted ((ready i dormant).begin_ 0) i) ∧
    (let b := (ready (.call 2) { dormant with cfg := { dormant.cfg with material := ⟨.off, 10⟩ } }).begin_ 0
     b.mode = .dormant ∧ Counted b (.call 2) ∧ b.cfg.cord 2 = some ⟨2, .material⟩ ∧
       (b.cfg.policy .material).policy = .off) := by decide +kernel

/-- Shift pulses in STANDBY, without and with a serial, and in SHIFT. -/
theorem test_witness_ShiftPulsesCrossBoundary :
    ((ready .shst reference).begin_ 0).Ok ∧ ((ready .shst reference).begin_ 0).running = true ∧
    Counted ((ready .shst reference).begin_ 0) .shst ∧ Counted ((ready .shend reference).begin_ 0) .shend ∧
    ((ready .shend reference).begin_ 0).mode = .standby ∧
    ((ready .shend reference).begin_ 0).ret.serial = none :=
  ⟨by constructor <;> decide +kernel, by decide +kernel⟩

theorem test_witness_ShiftPulsesCrossBoundary_shift :
    ((ready .shend inShift).begin_ 0).Ok ∧ ((ready .shend inShift).begin_ 0).running = true ∧
    Counted ((ready .shend inShift).begin_ 0) .shend ∧ ((ready .shend inShift).begin_ 0).mode = .shift ∧
    Counted ((ready .shst inShift).begin_ 0) .shst :=
  ⟨by constructor <;> decide +kernel, by decide +kernel⟩

/-- A reference board whose shift has ended. -/
def ended : State := after (.qualifyTimeExpiry 0 .shend false false) (ready .shend inShift)

/-- A reference board with a serial and authority gone DORMANT after its shift. -/
def dormantAgain : State :=
  after (.dormantCountExpiry 0) (ended.setStart { ended.start with dormantCount := 300 })

/-- Pulls and the clear key in DORMANT on a sound board, which holds no call. -/
theorem test_witness_LocalInputWakesBoard_pulls :
    ((ready (.call 2) dormant).begin_ 0).Ok ∧ ((ready (.call 19) dormant).begin_ 0).Ok ∧
    ((ready .clr dormant).begin_ 0).Ok ∧
    (∀ n ∈ [(2 : Fin 20), 19],
      let b := (ready (.call n) dormant).begin_ 0
      b.calls.list = [] ∧ b.calls.overflow = none ∧ (b.cfg.cord n).isSome = true ∧
        ∀ c ∈ b.cfg.cord n, (b.cfg.policy c.kind).policy ≠ .off ∧ (c.kind = .safety ↔ n = 19)) :=
  ⟨by constructor <;> decide +kernel, by constructor <;> decide +kernel, by constructor <;> decide +kernel,
    by decide +kernel⟩

/-- Shift pulses in DORMANT on a board without a serial, and on one with serial and authority. -/
theorem test_witness_LocalInputWakesBoard_pulses :
    ((ready .shst dormant).begin_ 0).Ok ∧ ((ready .shend dormant).begin_ 0).Ok ∧
    ((ready .shst dormant).begin_ 0).ret.serial = none :=
  ⟨by constructor <;> decide +kernel, by constructor <;> decide +kernel, by decide +kernel⟩

theorem test_witness_LocalInputWakesBoard_authority :
    ((ready .shst dormantAgain).begin_ 0).Ok ∧ ((ready .shend dormantAgain).begin_ 0).Ok ∧
    (∀ i ∈ [InputId.shst, .shend],
      let b := (ready i dormantAgain).begin_ 0
      b.mode = .dormant ∧ Counted b i ∧ b.ret.serial = some 2 ∧ b.clock.authority = true) :=
  ⟨by constructor <;> decide +kernel, by constructor <;> decide +kernel, by decide +kernel⟩

theorem test_witness_ShiftPulsesCrossBoundary_again :
    ((ready .shend ended).begin_ 0).Ok ∧ ((ready .shend ended).begin_ 0).running = true ∧
    Counted ((ready .shend ended).begin_ 0) .shend ∧ ((ready .shend ended).begin_ 0).mode = .standby ∧
    ((ready .shend ended).begin_ 0).ret.serial = some 2 :=
  ⟨by constructor <;> decide +kernel, by decide +kernel⟩

/-- A count point in shift 2 with five cars counted, the last at 0, its COUNT slot EMPTY. -/
def carsOut : State :=
  let s := (counting.setRet { counting.ret with car := 5, actual := 5 }).setPace
    { counting.pace with period := 4 }
  ((s.setBus { s.bus with count := .clear }).setSec { s.sec with lastCar := some 0 }).finish

/-- A counter above 0 at each boundary, and at a shift start pulse in DORMANT on a count point. -/
theorem test_witness_ShiftPulsesCrossBoundary_counter :
    (∀ i ∈ [InputId.shst, .shend],
      let b := (ready i carsOut).begin_ 0
      b.mode = .shift ∧ Counted b i ∧ b.ret.car ≠ 0 ∧ b.sec.lastCar ≠ none) ∧
    ((ready .shst carsOut).begin_ 0).Ok ∧ ((ready .shend carsOut).begin_ 0).Ok :=
  ⟨by decide +kernel, by constructor <;> decide +kernel, by constructor <;> decide +kernel⟩

/-- The count point gone DORMANT after its shift, with a serial. -/
def dormantCounter : State :=
  let s := after (.qualifyTimeExpiry 0 .shend false false) (ready .shend carsOut)
  after (.dormantCountExpiry 0) (s.setStart { s.start with dormantCount := 300 })

theorem test_witness_LocalInputWakesBoard_counter :
    (∀ i ∈ [InputId.shst, .shend, .clr],
      let b := (ready i dormantCounter).begin_ 0
      b.mode = .dormant ∧ Counted b i ∧ b.cfg.roles.countPoint = true ∧ b.ret.serial.isSome = true) ∧
    ((ready .shst dormantCounter).begin_ 0).Ok :=
  ⟨by decide +kernel, by constructor <;> decide +kernel⟩

/-- The overtime limit of the short plan is reached: 600 + 14,400. -/
def late : State := (inShift.setClock { inShift.clock with s := 15000 }).finish

set_option maxRecDepth 100000 in
theorem test_witness_OvertimeEndsShift :
    (late.atTime 0).Ok ∧ (late.atTime 0).mode = .shift ∧
    (late.atTime 0).overtimeLimit ≤ (late.atTime 0).clock.s ∧ (late.atTime 0).overtimeLimit = 15000 ∧
    (late.atTime 0).clock.authority = true :=
  ⟨by constructor <;> decide +kernel, by decide +kernel⟩

set_option maxRecDepth 100000 in
/-- The same on a count point with a counter above 0. -/
theorem test_witness_OvertimeEndsShift_counter :
    let b := (carsOut.setClock { carsOut.clock with s := 15000 }).finish.atTime 0
    b.Ok ∧ b.mode = .shift ∧ b.overtimeLimit ≤ b.clock.s ∧ b.ret.car = 5 :=
  ⟨by constructor <;> decide +kernel, by decide +kernel⟩

/-- No pulse recorded; one exactly the minimum gap before; one a microsecond less. -/
theorem test_witness_AdvancePulseIsJudged :
    (standby.begin_ 0).advSampled = true ∧ (standby.begin_ 0).sec.times = (standby.begin_ 0).currentTimes ∧
    (standby.begin_ 0).sec.lastPulse = none ∧
    (let b := (standby.setSec { standby.sec with lastPulse := some 0 }).begin_ 937000
     b.sec.lastPulse = some 0 ∧ 0 + b.sec.times.minGap * 1000 = b.now) ∧
    (let b := (standby.setSec { standby.sec with lastPulse := some 0 }).begin_ 936999
     b.sec.lastPulse = some 0 ∧ b.now < 0 + b.sec.times.minGap * 1000) := by decide +kernel

/-- The reference board a second on, the shift start pulse just taken. -/
def started : State := after (.qualifyTimeExpiry 1000000 .shst false true) (ready .shst reference)

/-- No command at the pulse's moment: no takt change there, and one taken before (the shift start, which
takes the takt from 600 to 200 ds). -/
theorem test_witness_AdvancePulseIsJudged_gap :
    (standby.begin_ 7).pending = [] ∧ (standby.begin_ 7).sec.gapChange = some (0, 0) ∧
    (standby.begin_ 7).now = 7 ∧ (started.begin_ 1000000).pending = [] ∧
    (started.begin_ 1000000).sec.gapChange = some (1000000, 937) ∧
    (started.begin_ 1000000).now = 1000000 ∧ (started.begin_ 1000000).sec.times.minGap = 312 ∧
    (started.begin_ 1000000).advSampled = true ∧
    (started.begin_ 1000000).sec.times = (started.begin_ 1000000).currentTimes := by decide +kernel

/-- The shift start pulse waits behind the advance pulse of its moment. -/
def startWaits : State := (ready .shst reference).setPending [.qualifyTimeExpiry 0 .shst false true, .lineBusy 1]

theorem test_witness_AdvancePulseIsJudged_waiting :
    (startWaits.begin_ 0).pending = [.qualifyTimeExpiry 0 .shst false true, .lineBusy 1] ∧
    (startWaits.begin_ 0).now = 0 ∧ (startWaits.begin_ 0).advSampled = true ∧
    (startWaits.begin_ 0).sec.times = (startWaits.begin_ 0).currentTimes ∧
    (after (.qualifyTimeExpiry 0 .shst false true) (startWaits.begin_ 0)).sec.times ≠
      (startWaits.begin_ 0).sec.times := by decide +kernel

/-- An ANSWERED call `n` pulses from its hold point while the section stands. -/
def nearHold (n : Nat) : State := withCalls [⟨2, .material, .answered, none, n, 0⟩] stopped

/-- The pulse that reaches the hold point, and the one before it. -/
theorem test_witness_AdvancePulseIsJudged_hold :
    (∀ n ∈ [1, 2], let b := (nearHold n).begin_ 9000001
      b.mode = .shift ∧ b.sec.motion = .stopped ∧ b.ret.interval.isSome = true ∧
      b.ret.current.isSome = true ∧ b.out.hold = false ∧ b.advSampled = true ∧
      b.sec.times = b.currentTimes ∧ b.sec.lastPulse = none ∧ b.out.hold = b.holdWanted) ∧
    (after (.advancePulse 9000001) (nearHold 1)).out.hold = true ∧ standby.mode ≠ .shift := by
  decide +kernel

theorem test_witness_AdvancePulseIsJudged_ok :
    ((nearHold 1).begin_ 9000001).Ok ∧ ((nearHold 2).begin_ 9000001).Ok :=
  ⟨by constructor <;> decide +kernel, by constructor <;> decide +kernel⟩

/-- The pulse that reaches the hold point with the pull that resolves the call, or a zone clear key press,
waiting at its moment. -/
def resolving (i : InputId) : State :=
  (ready i (nearHold 1)).setPending [.qualifyTimeExpiry 9000001 i false false, .lineBusy 9000002]

theorem test_witness_AdvancePulseIsJudged_resolved :
    (∀ i ∈ [InputId.call 2, .clr],
      let b := (resolving i).begin_ 9000001
      b.mode = .shift ∧ b.sec.motion = .stopped ∧ b.advSampled = true ∧ b.sec.lastPulse = none ∧
      b.sec.times = b.currentTimes ∧ Counted b i ∧
      b.pending = [.qualifyTimeExpiry 9000001 i false false, .lineBusy 9000002] ∧ b.now = 9000001 ∧
      b.ret.interval.map (fun x => x.key) = some ⟨0, 2, .drive, .direct⟩ ∧ b.ret.current.isSome = true ∧
      b.cfg.cord 2 = some ⟨2, .material⟩ ∧ b.calls.find ⟨2, .material⟩ = some (aCall .answered 1) ∧
      (b.cfg.policy .material).policy = .timed) := by decide +kernel

theorem test_witness_AdvancePulseIsJudged_resolved_ok :
    ((resolving (.call 2)).begin_ 9000001).Ok ∧ ((resolving .clr).begin_ 9000001).Ok ∧
    ((resolving (.call 2)).begin_ 9000001).Quiet ∧ ((resolving .clr).begin_ 9000001).Quiet :=
  ⟨by constructor <;> decide +kernel, by constructor <;> decide +kernel, by decide +kernel,
    by decide +kernel⟩

theorem test_witness_SectionTimersExpire :
    (let b := inShift.begin_ 3000000
     b.sec.times = b.currentTimes ∧ b.out.hold = b.holdWanted ∧ b.running = true ∧
       b.mirror = false ∧ b.sec.motion ≠ .stopped ∧ b.sec.stopTimer = some 0 ∧
       0 + b.sec.times.stopDetect * 1000 = b.now) ∧
    (let b := holding.begin_ 8000000
     b.sec.times = b.currentTimes ∧ b.out.hold = b.holdWanted ∧ b.running = true ∧
       b.sec.holdTimer = some 8000000) := by decide +kernel

theorem test_witness_CarOutEdgeIsCounted :
    (let b := counting.begin_ 0
     b.cfg.roles.countPoint = true ∧ b.mode = .shift ∧ b.ret.car < 9999 ∧ b.sec.lastCar = none) ∧
    (let b := counted.begin_ 2000000
     b.ret.car < 9999 ∧ b.sec.lastCar = some 0 ∧ 0 + b.cfg.carSpacing * 1000000 = b.now) ∧
    (let b := counted.begin_ 1999999
     b.sec.lastCar = some 0 ∧ b.now < 0 + b.cfg.carSpacing * 1000000) ∧
    9999 ≤ ((counting.setRet { counting.ret with car := 9999 }).begin_ 0).ret.car ∧
    (inShift.begin_ 0).cfg.roles.countPoint = false ∧ (standby.begin_ 0).mode ≠ .shift := by
  decide +kernel

theorem test_witness_SensorsAreFiltered :
    (standby.begin_ 0).pins.sensor .strv ≠ true ∧ (standby.begin_ 0).pins.holdrb ≠ true ∧
    (∀ x ∈ [Sensor.strv, .blkd], (reference.begin_ 1000000).sensorSampled x = true ∧
      ((reference.begin_ 1000000).table.filter x).since + 1000000 ≤ (reference.begin_ 1000000).now) ∧
    (standby.begin_ 100000).running = true ∧
    (standby.begin_ 100000).att.readBack.since + 100000 ≤ (standby.begin_ 100000).now := by
  decide +kernel

/-- The seconds expiry in STANDBY, in SHIFT before and at the start of a break, and in DORMANT. -/
theorem test_witness_SecondsExpiryCounts :
    (standby.begin_ 0).Ok ∧ (standby.begin_ 0).mode = .standby ∧ (standby.begin_ 0).cfg.dormantOn = true ∧
    (standby.begin_ 0).calls.list = [] ∧ (standby.begin_ 0).calls.overflow = none :=
  ⟨by constructor <;> decide +kernel, by decide +kernel⟩

/-- The stopped board one second before its first break. -/
def beforeBreak : State := (stopped.setClock { stopped.clock with s := 2 }).finish

theorem test_witness_SecondsExpiryCounts_shift :
    (beforeBreak.begin_ 0).Ok ∧ (beforeBreak.begin_ 0).mode = .shift ∧
    (beforeBreak.begin_ 0).ret.interval.isSome = true ∧ (beforeBreak.begin_ 0).inBreak = false ∧
    (beforeBreak.begin_ 0).usablePlan.isSome = true ∧ (beforeBreak.begin_ 0).clock.timeValid = true ∧
    (after (.secondsExpiry 0) beforeBreak).inBreak = true ∧
    (after (.secondsExpiry 0) stopped).inBreak = (stopped.begin_ 0).inBreak ∧
    (after (.secondsExpiry 0) stopped).sec.motion = (stopped.begin_ 0).sec.motion :=
  ⟨by constructor <;> decide +kernel, by decide +kernel⟩

/-- The stopped board in the last second of its breaks. -/
def endOfBreak : State := (stopped.setClock { stopped.clock with s := 8 }).finish

theorem test_witness_SecondsExpiryCounts_break_ends :
    (endOfBreak.begin_ 0).Ok ∧ (endOfBreak.begin_ 0).mode = .shift ∧
    (endOfBreak.begin_ 0).inBreak = true ∧ (endOfBreak.begin_ 0).ownMotion = .stopped ∧
    (after (.secondsExpiry 0) endOfBreak).inBreak = false :=
  ⟨by constructor <;> decide +kernel, by decide +kernel⟩

theorem test_witness_SecondsExpiryCounts_dormant :
    (dormant.begin_ 0).Ok ∧ (dormant.begin_ 0).mode.awake = true :=
  ⟨by constructor <;> decide +kernel, by decide +kernel⟩

/-- A clash frame has come at the expiry's own moment, with and without a count at its end. -/
def clashing (met : Option Time) : State :=
  (inShift.setTable { inShift.table with clash := true, clashCount := 0, clashMet := met }).finish

theorem test_witness_SecondsExpiryCounts_clash :
    (∀ m ∈ [some 0, none], ((clashing m).begin_ 0).table.clash = true ∧
      ((clashing m).begin_ 0).table.clashMet = m ∧ ((clashing m).begin_ 0).now = 0) ∧
    ((clashing (some 0)).begin_ 0).Ok ∧ ((clashing none).begin_ 0).Ok :=
  ⟨by decide +kernel, by constructor <;> decide +kernel, by constructor <;> decide +kernel⟩

/-- A peer entry at its threshold. -/
def peerAt (age : Nat) : PeerEntry :=
  ⟨3, 1, false, false, false, false, .run, 0, none, none, none, false, false, false, false, false,
    false, false, true, .moving, 1, 5, 0, 2, age, true⟩

theorem test_witness_LimitsOfCallsAndEntries :
    (let b := (withCalls [⟨2, .material, .holding, none, 0, 60⟩] standby).atTime 0
     b.running = true ∧ ∃ x ∈ b.calls.list, b.cfg.timedOut x = true) ∧
    (let b := (standby.setTable { standby.table with entries := [peerAt 7] }).atTime 0
     b.mode.awake = true ∧ ∃ e ∈ b.table.entries, e.overdue = true) ∧
    (let b := (mirrored.setTable { mirrored.table with mirrored := some (peerAt 7) }).atTime 0
     ∃ e ∈ b.table.mirrored, e.overdue = true) ∧
    (let b := (standby.setTable { standby.table with clash := true, clashCount := 60 }).atTime 0
     b.mode.awake = true ∧ b.table.clash = true ∧ 60 ≤ b.table.clashCount) := by decide +kernel

theorem test_witness_LimitsOfCountsAndSources :
    (let b := (counting.setTable { counting.table with refreshCount := 1 }).atTime 0
     b.running = true ∧ b.mirror = false ∧ b.cfg.refresh ≤ b.table.refreshCount) ∧
    (let b := (counting.setClock { counting.clock with markCount := 10 }).atTime 0
     b.clock.authority = true ∧ 10 ≤ b.clock.markCount) ∧
    (let b := (counting.setPace { counting.pace with period := 10 }).atTime 0
     b.cfg.roles.countPoint = true ∧ b.ret.serial ≠ none ∧ 10 ≤ b.pace.period) ∧
    (let b := (standby.setClock { standby.clock with source := some 13, silence := 30 }).atTime 0
     b.mode.awake = true ∧ b.clock.source = some 13 ∧ b.clock.sourceOwn = false ∧ 30 ≤ b.clock.silence) ∧
    (let b := (mirrored.setClock { mirrored.clock with source := some 12, silence := 30 }).atTime 0
     b.mode.awake = true ∧ b.clock.source = some b.cfg.zone ∧ b.clock.sourceOwn = false ∧
       30 ≤ b.clock.silence) ∧
    (let b := (standby.setPace { standby.pace with source := some 40, silence := 30 }).atTime 0
     b.mode.awake = true ∧ b.pace.source ≠ none ∧ 30 ≤ b.pace.silence) := by decide +kernel

/-- A message of priority `p` with key (70, n). -/
def msg (n p : Nat) : Message := ⟨⟨70, n⟩, p, .fixed, 9, ascii "AUDIT"⟩

/-- The running message and the pending one run out; another stands behind. -/
theorem test_witness_LimitsOfMessagesAndPlan_running :
    (let b := (standby.setDisp { standby.disp with
       store := [{ msg 1 2 with remaining := 0 }, msg 2 1]
       running := some ⟨.message ⟨70, 1⟩, .fixed, ascii "AUDIT", 0, 5, 250000⟩
       pending := some ⟨70, 1⟩ }).atTime 0
     b.mode.awake = true ∧ b.StoreOk ∧ b.disp.store[0]?.map (fun m => (m.key, m.remaining)) =
       some (⟨70, 1⟩, 0)) := by decide +kernel

/-- The board at the end of the short plan. -/
def atEnd : State := (inShift.setClock { inShift.clock with s := 600 }).finish

theorem test_witness_LimitsOfMessagesAndPlan :
    (let b := (standby.setDisp { standby.disp with
       store := [{ msg 1 2 with remaining := 0 }, msg 2 1] }).atTime 0
     b.mode.awake = true ∧ ∃ m ∈ b.disp.store, m.remaining = 0) ∧
    (let b := atEnd.atTime 0
     b.Ok ∧ b.mode = .shift ∧ b.clock.timeValid = true ∧ b.pace.plan = some (judge shortPlan) ∧
       (judge shortPlan).usable = true ∧ lengthOf (judge shortPlan).entries ≤ b.clock.s) :=
  ⟨by decide +kernel, by constructor <;> decide +kernel, by decide +kernel⟩

theorem test_witness_DormantEntry :
    (let b := (standby.setStart { standby.start with dormantCount := 300 }).atTime 0
     b.Ok ∧ b.mode = .standby ∧ b.cfg.dormantOn = true ∧
       b.cfg.dormantMinutes * 60 ≤ b.start.dormantCount) :=
  ⟨by constructor <;> decide +kernel, by decide +kernel⟩

theorem test_witness_DisplayTimersExpire :
    (let b := (standby.setDisp { standby.disp with
       flashDue := some 5, pageTimer := some 5 }).begin_ 5
     5 ≤ b.now ∧ b.running = true ∧ b.disp.flashDue = some 5 ∧ b.disp.pageTimer = some 5) ∧
    (holding.begin_ 2000000).calls.holdSound = some 2000000 ∧
    (holding.begin_ 500000).calls.chirp = some 500000 := by decide +kernel

/-- A run of an item due now. -/
def runDue (item : Item) (m : Style) (steps : Nat) : Running := ⟨item, m, ascii "AUDIT", 0, steps, 0⟩

/-- A step that is not the last; the last one of an alert, of a message behind which another stands, and
of one with a pending message; an empty rotation. -/
theorem test_witness_TextLineSteps :
    (∀ m ∈ [Style.fixed, .crawl, .settle],
      ((withRun (runDue .alert m 2) standby).begin_ 0).running = true ∧
      ((withRun (runDue .alert m 2) standby).begin_ 0).disp.running = some (runDue .alert m 2) ∧
      1 < (runDue .alert m 2).steps) ∧
    (runDue .alert .settle 1).steps ≤ 1 ∧
    (∀ x ∈ [Item.alert, .stopBanner, .breakBanner, .message ⟨70, 2⟩],
      let b := (withRun (runDue x .settle 1) (stopped.setDisp { stopped.disp with
        store := [msg 1 2, msg 2 1] })).begin_ 0
      b.running = true ∧ b.disp.running = some (runDue x .settle 1) ∧ b.StoreOk ∧
        b.disp.store[1]? = some (msg 2 1)) ∧
    (let b := (withRun (runDue (.message ⟨70, 1⟩) .fixed 1) (standby.setDisp { standby.disp with
       store := [msg 1 2, msg 2 1] })).begin_ 0
     b.disp.pending = none ∧ b.StoreOk ∧ b.disp.store[0]? = some (msg 1 2) ∧
       b.disp.store[1]? = some (msg 2 1)) ∧
    (let b := (withRun (runDue .alert .settle 1) (standby.setDisp { standby.disp with
       store := [msg 1 3], pending := some ⟨70, 1⟩ })).begin_ 0
     b.disp.pending = some (msg 1 3).key ∧
       findMessage b.disp.store (msg 1 3).key = some (msg 1 3)) ∧
    ((withRun (runDue .alert .settle 1) standby).begin_ 0).rotation = [] := by decide +kernel

theorem test_witness_PictureIsSentWhole :
    (standby.begin_ 0).mode ≠ .loading ∧ (standby.begin_ 0).disp.link.sending = some .dark ∧
    ((after (.pictureSent 0) (after (.pictureSent 0) standby)).begin_ 0).disp.link.sending = none := by
  decide +kernel

/-- The line of a DORMANT board that falls idle. -/
theorem test_witness_LineAndReceiver_dormant :
    (let b := (dormant.setBus { dormant.bus with idle := false, gapFrom := 0 }).begin_ 192
     b.mode = .dormant ∧ b.bus.idle = false ∧ b.bus.tx = none ∧ b.bus.gapFrom + 192 ≤ b.now) := by
  decide +kernel

theorem test_witness_LineAndReceiver :
    (let b := standby.begin_ 192
     b.mode.awake = true ∧ b.bus.idle = false ∧ b.bus.tx = none ∧ b.bus.gapFrom + 192 ≤ b.now) ∧
    ((standby.setBus { standby.bus with backoff := some 5 }).begin_ 5).bus.backoff = some 5 ∧
    (let b := (dormant.setBus { dormant.bus with wake := .seen 5 }).begin_ 5
     b.mode = .dormant ∧ b.bus.wake = .seen 5 ∧ 5 ≤ b.now) := by decide +kernel

/-- At 192 µs the gap is over, 1 µs earlier not; after a LINE_BUSY there it is cut. -/
theorem test_witness_LineAndReceiver_order :
    (standby.begin_ 192).Quiet ∧ 191 < (standby.begin_ 191).bus.gapFrom + 192 ∧
    (standby.begin_ 191).bus.gapCut = none ∧ (loading.begin_ 192).mode.awake = false ∧
    (let b := (after (.lineBusy 192) standby).begin_ 192
     b.mode.awake = true ∧ b.now < b.bus.gapFrom + 192 ∧ b.bus.tx = none ∧ b.bus.gapCut = some b.now) :=
  ⟨by decide +kernel, by decide +kernel⟩

/-- The line idle and one slot PENDING, with a waiting reply for the REPLY slot. -/
def withSlot (i : SlotId) : State :=
  let b := ({ counting.bus with
    idle := true, status := .clear, count := .clear, time := .clear } : Bus).setSlot i ⟨.pending, 7, false⟩
  (counting.setBus b).setReq ⟨if i = .reply then some ⟨70, [9, 0]⟩ else none, none⟩

theorem test_witness_AttemptStartsFirstPendingSlot :
    (∀ i ∈ [SlotId.reply, .status, .count, .time],
      let b := (withSlot i).begin_ 0
      b.running = true ∧ b.mirror = false ∧ b.bus.idle = true ∧ b.bus.backoff = none ∧
        b.bus.tx = none ∧ (b.bus.slot i).state = .pending ∧
        ∀ j ∈ [SlotId.reply, .status, .count, .time], j ≠ i → (b.bus.slot j).state ≠ .pending) := by
  decide +kernel

theorem test_witness_AttemptStartsFirstPendingSlot_ok :
    ((withSlot .reply).begin_ 0).Ok ∧ ((withSlot .time).begin_ 0).Ok :=
  ⟨by constructor <;> decide +kernel, by constructor <;> decide +kernel⟩

/-- The board during an attempt. -/
def sending (i : SlotId) : State := after (.transmissionStart 0) (withSlot i)

theorem test_witness_SentFrameFreesSlot :
    (∀ i ∈ [SlotId.reply, .status, .count, .time],
      ((sending i).begin_ 0).bus.tx.map (fun x => x.slot) = some i) ∧
    (let b := ((sending .time).setBus { (sending .time).bus with trouble := true }).finish.begin_ 0
     b.bus.trouble = true ∧ b.running = true ∧ b.mirror = false ∧ b.OwnFollows) := by decide +kernel

/-- An attempt in hand since before the board slept, which has woken meanwhile. -/
def overslept (i : SlotId) : State :=
  let b := (sending i).bus
  ((sending i).setBus { b with trouble := true, tx := b.tx.map (fun x => { x with slept := true }) }).finish

theorem test_witness_SentFrameFreesSlot_slept :
    ∀ i ∈ [SlotId.reply, .status, .count, .time],
      ((overslept i).begin_ 0).bus.tx.map (fun x => (x.slot, x.slept)) = some (i, true) := by decide +kernel

theorem test_witness_CollisionBacksOffOrDiscards_slept :
    ∀ i ∈ [SlotId.reply, .status, .count, .time],
      ((overslept i).begin_ 0).bus.tx.isSome = true ∧ ((overslept i).begin_ 0).bus.rng = some 0xACE1#16 ∧
      ((overslept i).begin_ 0).OwnFollows := by decide +kernel

/-- The board during an attempt, its bus-trouble flag set. -/
def troubled (i : SlotId) : State :=
  let s := ((sending i).setBus { (sending i).bus with trouble := true }).finish
  s.setBus { s.bus with status := if i = .status then (sending i).bus.status else s.bus.status }

/-- The attempts of FRAME_SENT and COLLISION in sound states: of the STATUS slot and of another, the
bus-trouble flag clear and set, and one that has slept. -/
theorem test_witness_SentFrameFreesSlot_ok :
    ((sending .status).begin_ 0).Ok ∧ ((sending .count).begin_ 0).Ok ∧
    ((troubled .status).begin_ 0).Ok ∧ ((troubled .count).begin_ 0).Ok ∧
    ((overslept .status).begin_ 0).Ok :=
  ⟨by constructor <;> decide +kernel, by constructor <;> decide +kernel,
    by constructor <;> decide +kernel, by constructor <;> decide +kernel,
    by constructor <;> decide +kernel⟩

theorem test_witness_CollisionBacksOffOrDiscards_status :
    (∀ b ∈ [(sending .status).begin_ 0, (troubled .status).begin_ 0],
      b.bus.tx.map (fun x => (x.slot, x.slept)) = some (.status, false) ∧ b.running = true ∧
      b.bus.rng = some 0xACE1#16 ∧ 8 ≤ b.bus.status.c + 1 ∧ b.bus.status.remark = false) ∧
    ((sending .status).begin_ 0).bus.trouble = false ∧ ((troubled .status).begin_ 0).bus.trouble = true := by
  decide +kernel

/-- The eighth collision, for withSlot leaves c = 7, and the seventh. -/
theorem test_witness_CollisionBacksOffOrDiscards :
    (let b := (sending .count).begin_ 0
     b.running = true ∧ b.bus.tx.isSome = true ∧ b.bus.rng = some 0xACE1#16 ∧
       8 ≤ (b.bus.slot .count).c + 1 ∧ b.bus.trouble = false ∧ b.mirror = false ∧ b.OwnFollows) ∧
    (let b := ((sending .count).setBus { (sending .count).bus with count := ⟨.sending, 6, true⟩ }).begin_ 0
     (b.bus.slot .count).c + 1 < 8) := by decide +kernel

/-- A first activity, a second one at the end of the window, and the single-activity form. -/
theorem test_witness_WakeActivityWakesBoard :
    (let b := (dormant.setBus { dormant.bus with activityReady := true }).begin_ 0
     b.Ok ∧ b.mode = .dormant ∧ b.bus.activityReady = true ∧ b.cfg.twoActivity = true ∧
       b.bus.wake = .waiting) :=
  ⟨by constructor <;> decide +kernel, by decide +kernel⟩

theorem test_witness_WakeActivityWakesBoard_second :
    (let b := (dormant.setBus { dormant.bus with activityReady := true, wake := .seen 5 }).begin_ 5
     b.Ok ∧ b.mode = .dormant ∧ b.bus.activityReady = true ∧ b.bus.wake = .seen 5 ∧ b.now ≤ 5) :=
  ⟨by constructor <;> decide +kernel, by decide +kernel⟩

theorem test_witness_WakeActivityWakesBoard_single :
    (let b := { dormant with
       bus := { dormant.bus with activityReady := true }
       cfg := { dormant.cfg with twoActivity := false } }.begin_ 0
     b.Ok ∧ b.mode = .dormant ∧ b.bus.activityReady = true ∧ b.cfg.twoActivity = false) :=
  ⟨by constructor <;> decide +kernel, by decide +kernel⟩

/-- A gap that ends at the activity's moment, one cut there by a LINE_BUSY, and no gap. -/
theorem test_witness_WakeActivityWakesBoard_gap :
    let d := dormant.setBus { dormant.bus with idle := false, gapFrom := 0, activityReady := false }
    (d.begin_ 192).Ok ∧ ((after (.lineBusy 192) d).begin_ 192).Ok ∧ (d.begin_ 191).Ok ∧
    ((d.begin_ 192).mode = .dormant ∧ (d.begin_ 192).bus.idle = false ∧ (d.begin_ 192).bus.tx = none ∧
      (d.begin_ 192).bus.gapFrom + 192 ≤ (d.begin_ 192).now ∧
      ((after (.lineBusy 192) d).begin_ 192).bus.gapCut = some 192 ∧
      ((after (.lineBusy 192) d).begin_ 192).now = 192 ∧ (d.begin_ 191).bus.activityReady = false ∧
      (d.begin_ 191).now < (d.begin_ 191).bus.gapFrom + 192 ∧ (d.begin_ 191).bus.gapCut = none) :=
  ⟨by constructor <;> decide +kernel, by constructor <;> decide +kernel, by constructor <;> decide +kernel,
    by decide +kernel⟩

/-! ## Frames -/

/-- A ZONE STATUS payload: shift 2, serial 1, condition RUN, adopted actual 7, R = 2, section 1. -/
def statusBytes : List Byte := [2, 1, 0, 0, 0, 0, 0, 0, 0, 0xFF, 0xFF, 1, 0, 0, 7, 2, 1]

/-- A running board whose receiver is armed takes the frame of these contents. -/
abbrev Takes (s : State) (kind sender target : Nat) (p : List Byte) : Prop :=
  Taken ((listening s).begin_ 0) (frameOf kind sender target p) kind sender target p

/-- From another zone, refused by R44 (section 4 of 3), under the own number, on a mirror, on a count
point in the same boundary, and a REPLY. -/
theorem test_witness_ZoneStatusIsTaken :
    Takes inShift 1 3 127 statusBytes ∧ statusAccepted 3 3 statusBytes = true ∧
    Takes inShift 1 3 127 (statusBytes.set 16 4) ∧ statusAccepted 3 3 (statusBytes.set 16 4) = false ∧
    Takes inShift 1 12 127 statusBytes ∧ statusAccepted 3 12 statusBytes = true ∧
    Takes mirrored 1 12 127 statusBytes ∧ Takes counting 1 3 127 statusBytes ∧
    ((listening counting).begin_ 0).ret.serial = some 1 ∧ Takes inShift 6 3 70 [1, 0] := by
  decide +kernel

theorem test_witness_ZoneStatusIsTaken_ok :
    ((listening inShift).begin_ 0).Ok ∧ ((listening mirrored).begin_ 0).Ok ∧
    ((listening counting).begin_ 0).Ok :=
  ⟨by constructor <;> decide +kernel, by constructor <;> decide +kernel, by constructor <;> decide +kernel⟩

/-- Out of range; one ahead, and 127; a new boundary at the overtime limit; the same boundary from the own
zone; another shift of the serial; 128 ahead; the same boundary at the limit and a second below it; on a
board without a serial. -/
theorem test_witness_TimeMarkIsJudged :
    (∀ p ∈ [[4, 1, 0, 0], [2, 1, 0xE1, 0x00], [2, 2, 0, 9], [1, 128, 0xE0, 0xFF], [2, 2, 0x3A, 0x98],
        [2, 1, 0, 60], [3, 1, 0, 0], [2, 129, 0, 0],
        [2, 1, 0x3A, 0x98], [2, 1, 0x3A, 0x97]],
      Takes inShift 2 12 127 p) ∧
    ((listening inShift).begin_ 0).ret.serial = some 1 ∧
    ((listening inShift).begin_ 0).ret.shift = 2 ∧ ((listening inShift).begin_ 0).clock.source = some 12 ∧
    overtimeLimitOf (((listening inShift).begin_ 0).clock.plans.get 2) = 0x3A98 ∧
    ((listening inShift).begin_ 0).overtimeLimit = 0x3A98 ∧
    ((listening inShift).begin_ 0).usablePlan.isSome = true ∧
    Takes standby 2 13 127 [0, 0, 0, 0] ∧ ((listening standby).begin_ 0).ret.serial = none := by
  decide +kernel

/-- A new boundary, one at its overtime limit, and the overtime limit of the same boundary, on a count point
with a counter above 0. -/
theorem test_witness_TimeMarkIsJudged_counter :
    (∀ p ∈ [[2, 2, 0, 9], [2, 2, 0x3A, 0x98], [2, 1, 0x3A, 0x98]], Takes carsOut 2 12 127 p) ∧
    ((listening carsOut).begin_ 0).ret.car = 5 ∧ ((listening carsOut).begin_ 0).ret.serial = some 1 ∧
    ((listening carsOut).begin_ 0).Ok :=
  ⟨by decide +kernel, by decide +kernel, by decide +kernel, by constructor <;> decide +kernel⟩

/-- Ahead of the mark by 60 s, and by 61 s. -/
theorem test_witness_TimeMarkIsJudged_behind :
    (let b := (listening (inShift.setClock { inShift.clock with s := 60 }).finish).begin_ 0
     b.Ok ∧ b.clock.timeValid = true ∧ b.mode = .shift ∧ 0 < b.clock.s ∧ b.clock.s ≤ 0 + 60) ∧
    (let b := (listening (inShift.setClock { inShift.clock with s := 61 }).finish).begin_ 0
     b.Ok ∧ 0 + 60 < b.clock.s) :=
  ⟨⟨by constructor <;> decide +kernel, by decide +kernel⟩,
    ⟨by constructor <;> decide +kernel, by decide +kernel⟩⟩

/-- Used, and not used: another serial, a sender above 64, a count point. -/
theorem test_witness_CountFrameIsJudged :
    Takes inShift 3 40 127 [2, 1, 0, 9] ∧ ((listening inShift).begin_ 0).pace.isFree = true ∧
    ((listening inShift).begin_ 0).cfg.roles.countPoint = false ∧ Takes inShift 3 40 127 [2, 0, 0, 9] ∧
    Takes inShift 3 65 127 [2, 1, 0, 9] ∧ Takes counting 3 40 127 [2, 1, 0, 9] := by decide +kernel

/-- Eight messages of priorities 3 down to 0. -/
def fullStore : List Message :=
  [msg 1 3, msg 2 2, msg 3 2, msg 4 1, msg 5 1, msg 6 0, msg 7 0, msg 8 0]

/-- A board with a full store. -/
def full : State := (standby.setDisp { standby.disp with store := fullStore }).finish

/-- Room, its own key, a full store with lower and with no lower priority; every kind of target; a
withdrawal; contents that fail R146. -/
theorem test_witness_MessagesAreStored :
    ((listening full).begin_ 0).StoreOk ∧ ((listening standby).begin_ 0).StoreOk ∧
    Takes standby 4 70 127 [9, 3, 2, 0, 9, 65] ∧ Takes full 4 70 12 [1, 0, 2, 0, 9, 65] ∧
    Takes full 4 90 131 [1, 3, 0, 0, 9, 65] ∧ Takes full 4 90 127 [1, 0, 0, 0, 9, 65] ∧
    (fullStore.filter (fun x => x.key ≠ ⟨90, 1⟩)).length = 8 ∧
    (fullStore.filter (fun x => x.key ≠ ⟨70, 1⟩)).length = 7 ∧
    Takes full 4 70 127 [1, 0, 0, 0, 0] ∧ Takes full 4 70 13 [1, 0, 0, 0, 0] ∧
    Takes full 4 70 127 [1, 4, 0, 0, 9, 65] ∧ Takes full 4 70 127 [1, 0, 3, 0, 9] := by
  decide +kernel

/-- A message of priority 3 on an idle line, over a message, and behind a banner. -/
theorem test_witness_MessagesAreStored_cut_in :
    (∀ r ∈ [none, some (runDue (.message ⟨70, 2⟩) .fixed 5), some (runDue .stopBanner .settle 5)],
      let b := (listening (full.setDisp { full.disp with running := r, pending := some ⟨70, 8⟩ })).begin_ 0
      Taken b (frameOf 4 90 127 [1, 3, 0, 0, 9, 65]) 4 90 127 [1, 3, 0, 0, 9, 65] ∧
      Taken b (frameOf 4 70 127 [2, 0, 0, 0, 0]) 4 70 127 [2, 0, 0, 0, 0] ∧ b.StoreOk ∧
      b.disp.running = r ∧ b.disp.store[1]? = some (msg 2 2)) := by decide +kernel

/-- An IDENTIFY; a READ RECORD of the current record, of an absent last record and of a block too far;
MARK COLLECTED with the version and another; too short, an unknown kind and an unknown selector; to
another station; on a mirror. -/
theorem test_witness_RequestsAreAnswered :
    (∀ p ∈ [[9, 1, 0, 0, 0, 0], [9, 2, 1, 0, 0, 0], [9, 2, 2, 0, 0, 0], [9, 2, 1, 1, 0, 0],
        [9, 2, 1, 9, 0, 0], [9, 3, 1, 0, 0, 0], [9, 3, 1, 0, 0, 1], [9], [9, 4, 1, 0, 0, 0],
        [9, 0, 1, 0, 0, 0], [9, 2, 3, 0, 0, 0]],
      Takes inShift 5 70 12 p) ∧
    ((listening inShift).begin_ 0).ret.current.map (fun r => r.version) = some 0 ∧
    ((listening inShift).begin_ 0).ret.last = none ∧ inShift.mirror = false ∧ inShift.cfg.zone = 12 ∧
    Takes inShift 5 70 13 [9, 1, 0, 0, 0, 0] ∧ Takes mirrored 5 70 12 [9, 1, 0, 0, 0, 0] := by
  decide +kernel

/-- A record of five entries: the second entry block holds one. -/
def fiveEntries : Record :=
  { Record.begin_ 1 50 with
    tally := [⟨⟨6, 1, .call .material, .viaStarved⟩, 1, 568⟩, ⟨⟨3, 1, .call .quality, .viaStarved⟩, 1, 200⟩,
      ⟨⟨0, 1, .starved, .viaStarved⟩, 1, 60⟩, ⟨⟨0, 2, .drive, .direct⟩, 1, 15⟩,
      ⟨⟨0, 2, .external, .direct⟩, 65535, 4294967295⟩] }

theorem test_witness_RecordBlocksHaveTheirLayout :
    fiveEntries.Ok ∧ 1 ≤ 2 ∧ 2 ≤ 8 ∧ 0 < 4 ∧
    fiveEntries.tally[4 * (2 - 1) + 0]? = some ⟨⟨0, 2, .external, .direct⟩, 65535, 4294967295⟩ := by
  decide +kernel

/-- A current record with and without an open interval, and a closed one. -/
theorem test_witness_RecordBlocksHaveTheirLayout_boards :
    (stopped.RecordsOk ∧ inShift.RecordsOk ∧ ended.RecordsOk) ∧
    (stopped.PaceOk ∧ inShift.PaceOk ∧ ended.PaceOk) ∧
    stopped.ret.interval.isSome = true ∧ inShift.ret.interval = none ∧ inShift.ret.peak.isSome = true ∧
    ended.ret.last.any (fun r => r.serial ≤ 255 && r.close.isSome) = true :=
  ⟨⟨by decide +kernel, by decide +kernel, by decide +kernel⟩,
    ⟨by decide +kernel, by decide +kernel, by decide +kernel⟩, by decide +kernel⟩

/-! ## The configuration image -/

/-- The bytes of a small image without plans, CRC apart: 81 bytes, length 83. -/
def imageBody : List (List Byte) :=
  [[1, 0x12, 0x34, 0, 83, 12, 2, 3, 0, 1, 0, 0, 0, 0, 0x21, 0, 0x22, 0, 0, 0],
   [0, 0, 0, 0, 0, 0, 0x73, 0x72, 0, 0, 0, 0, 0, 0x74, 1, 0, 10, 2, 0, 60],
   [3, 7, 8, 3, 16, 0, 0, 0, 6, 0, 0, 0, 0, 0, 0, 0, 0, 0, 30, 0],
   [0, 0, 0, 0, 0, 0, 0, 0, 0, 3, 8, 2, 2, 0x58, 3, 5, 1, 0, 0, 0, 0]]

/-- The image with its CRC. -/
def image : List Byte := imageBody.flatten ++ [0x38, 0xC5]

theorem test_image_crc_1 : (imageBody.getD 0 []).foldl crcByte 0xFFFF#16 = 0x18F6#16 := by decide +kernel
theorem test_image_crc_2 : (imageBody.getD 1 []).foldl crcByte 0x18F6#16 = 0xD64D#16 := by decide +kernel
theorem test_image_crc_3 : (imageBody.getD 2 []).foldl crcByte 0xD64D#16 = 0x6AEE#16 := by decide +kernel
theorem test_image_crc_4 : (imageBody.getD 3 []).foldl crcByte 0x6AEE#16 = 0x38C5#16 := by decide +kernel

theorem test_image_covered :
    (List.range (imageLength image - 2)).map (fun i => image.getD i 0xFF#8) =
      imageBody.getD 0 [] ++ imageBody.getD 1 [] ++ imageBody.getD 2 [] ++ imageBody.getD 3 [] := by
  decide +kernel

theorem test_image_crc : imageCrcGood image = true := by
  have h : crc16 ((List.range (imageLength image - 2)).map (fun i => image.getD i 0xFF#8)) = 0x38C5#16 := by
    rw [test_image_covered, crc16, List.foldl_append, List.foldl_append, List.foldl_append,
      test_image_crc_1, test_image_crc_2, test_image_crc_3, test_image_crc_4]
  simp only [imageCrcGood, h]
  decide +kernel

theorem test_image_good : imageFault image = none := by
  simp only [imageFault, test_image_crc]
  decide +kernel

/-- The image with one byte changed, under its CRC. -/
def bent (i : Nat) (v : Nat) (crc : List Byte) : List Byte := (imageBody.flatten.set i (byteOf v)) ++ crc

set_option maxRecDepth 100000 in
/-- A plan of 13 entries, zone 0, an EQUIPMENT policy code of 4, a default takt of 88: one image for each
check after the CRC. -/
theorem test_witness_ImageChecksInOrder_later :
    imageCrcGood (bent 77 13 [0x01, 0x43]) = true ∧
    imageFault (bent 77 13 [0x01, 0x43]) = some .e2 ∧
    imageCrcGood (bent 5 0 [0xF6, 0x51]) = true ∧
    imageFault (bent 5 0 [0xF6, 0x51]) = some .e4 ∧
    imageCrcGood (bent 40 4 [0x22, 0x06]) = true ∧
    imageFault (bent 40 4 [0x22, 0x06]) = some .e5 ∧
    imageCrcGood (bent 72 0 [0xFE, 0xA2]) = true ∧
    imageFault (bent 72 0 [0xFE, 0xA2]) = some .e6 := by decide +kernel

theorem test_witness_GoodImageStartsBoard :
    (loading.begin_ 0).Ok ∧ (loading.begin_ 0).mode = .loading ∧
    (loading.begin_ 0).start.reading = true ∧ imageFault image = none :=
  ⟨by constructor <;> decide +kernel, by decide +kernel, by decide +kernel, test_image_good⟩

/-- A warm restart with the retained contents of a stopped shift, its check word in agreement or not. -/
def restarted (agrees : Bool) : State :=
  (State.enterLoading false ⟨none, false, .dark⟩ ⟨none, false, .inactive, true, true, 0⟩ stopped).setCheck
    (if agrees then checkWordOf stopped.ret else checkWordOf stopped.ret ^^^ 1#16)

theorem test_witness_GoodImageStartsBoard_warm :
    ((restarted true).begin_ 0).Ok ∧ ((restarted false).begin_ 0).Ok ∧
    ((restarted true).begin_ 0).ret.interval.isSome = true ∧
    ((restarted false).begin_ 0).start.warm = true ∧
    ((restarted true).begin_ 0).check = checkWordOf ((restarted true).begin_ 0).ret ∧
    ((restarted false).begin_ 0).check ≠ checkWordOf ((restarted false).begin_ 0).ret :=
  ⟨by constructor <;> decide +kernel, by constructor <;> decide +kernel, by decide +kernel⟩

set_option maxRecDepth 100000 in
/-- The image of a count point, for a retained area with a serial. -/
theorem test_witness_GoodImageStartsBoard_count :
    imageCrcGood (bent 8 4 [0x08, 0x07]) = true ∧ imageFault (bent 8 4 [0x08, 0x07]) = none ∧
    (cfgOf (bent 8 4 [0x08, 0x07])).roles.countPoint = true ∧
    ((restarted true).begin_ 0).ret.serial = some 1 := by decide +kernel

/-! ## Well-formedness: each check refuses an ill-formed term -/

/-- A REQUEST of a kind and a selector. -/
def request (kind sel : Nat) : List Byte := frameOf 5 70 12 [9, byteOf kind, byteOf sel, 0, 0, 0]

theorem test_wf_frames_accepted :
    (Instr.zoneStatus 0 (frameOf 1 3 127 statusBytes)).wf = true ∧
    (Instr.timeMark 0 (frameOf 2 12 127 [1, 50, 0, 9])).wf = true ∧
    (Instr.count 0 (frameOf 3 40 127 [1, 50, 0, 9])).wf = true ∧
    (Instr.message 0 (frameOf 4 70 127 [1, 0, 0, 0, 9, 65])).wf = true ∧
    (Instr.withdrawal 0 (frameOf 4 70 127 [1, 0, 0, 0, 0])).wf = true ∧
    (Instr.identify 0 (request 1 0)).wf = true ∧ (Instr.readRecord 0 (request 2 1)).wf = true ∧
    (Instr.markCollected 0 (request 3 2)).wf = true ∧ (Instr.badRequest 0 (request 4 1)).wf = true ∧
    (Instr.reply 0 (frameOf 6 3 70 [9, 0])).wf = true := by decide +kernel

/-- The frame of a neighbouring row in the place of each row's own. -/
theorem test_wf_frames_refused :
    (Instr.zoneStatus 0 (frameOf 2 12 127 [1, 50, 0, 9])).wf = false ∧
    (Instr.timeMark 0 (frameOf 3 40 127 [1, 50, 0, 9])).wf = false ∧
    (Instr.count 0 (frameOf 2 12 127 [1, 50, 0, 9])).wf = false ∧
    (Instr.message 0 (frameOf 4 70 127 [1, 0, 0, 0, 0])).wf = false ∧
    (Instr.withdrawal 0 (frameOf 4 70 127 [1, 0, 0, 0, 9, 65])).wf = false ∧
    (Instr.identify 0 (request 2 1)).wf = false ∧ (Instr.readRecord 0 (request 2 3)).wf = false ∧
    (Instr.markCollected 0 (request 2 1)).wf = false ∧ (Instr.badRequest 0 (request 3 1)).wf = false ∧
    (Instr.reply 0 (request 1 0)).wf = false := by decide +kernel

/-- A wrong CRC, a wrong start byte, a sender of 0 and of 127, a kind of 7, a length its kind does not
allow, and a byte missing make no valid frame. -/
theorem test_wf_invalid_frames_refused :
    parseFrame ((frameOf 2 12 127 [1, 50, 0, 9]).set 12 0) = none ∧
    parseFrame ((frameOf 2 12 127 [1, 50, 0, 9]).set 2 0xC8) = none ∧
    parseFrame (frameOf 2 0 127 [1, 50, 0, 9]) = none ∧
    parseFrame (frameOf 2 127 127 [1, 50, 0, 9]) = none ∧
    parseFrame (frameOf 7 12 127 [1, 50, 0, 9]) = none ∧
    parseFrame (frameOf 2 12 127 [1, 50, 0]) = none ∧
    parseFrame ((frameOf 2 12 127 [1, 50, 0, 9]).dropLast) = none := by decide +kernel

/-- A valid frame is no cause of a drop; an invalid one is. -/
theorem test_wf_drop_cause :
    (Instr.frameDropped 0 (.invalid (frameOf 2 12 127 [1, 50, 0, 9]))).wf = false ∧
    (Instr.frameDropped 0 (.invalid [0x55, 0x55, 0xC9])).wf = true ∧
    (Instr.frameDropped 0 .gap).wf = true := by decide +kernel

/-- No row of the table has bits. -/
theorem test_decode_spells_nothing :
    decodeTableWord 8 1 = none ∧ (State.reset.withFetchWord 8 1).pending = [] := by decide

/-! ## Figures of the spec -/

/-- R164: the ASCII string 123456789 gives 29B1h. -/
theorem test_crc_of_digits : crc16 (ascii "123456789") = 0x29B1#16 := by decide +kernel

/-- R154 and the chapter Line Bus Access, worked example: byte 4 of a frame of zone 12 occupies bit times
40 to 49, a start bit and 0, 0, 1, 1, 0, 0, 0, 0. -/
theorem test_bits_of_sender :
    (byteBits 12) = [false, false, false, true, true, false, false, false, false, true] := by decide

/-- R27, chapter Section Motion, worked example: takt 600 ds, 16 pulses, minimum 3 s. -/
theorem test_derived_times : timesFor 600 16 3 = ⟨600, 3750, 937, 7500⟩ := by decide

/-- A section monitor fed with pulses at these milliseconds. -/
def pulses (ms : List Nat) : SectionMonitor :=
  ms.foldl (fun m t => if m.tooSoon m.times.minGap (t * 1000) then m.reject else m.accept (t * 1000))
    { SectionMonitor.initial with times := timesFor 600 16 3 }

/-- Chapter Section Motion, worked example of chatter: the window, run counter and flag after each of the
last pulses. -/
theorem test_chatter :
    (rejectedIn (pulses [0, 3750, 4100, 7500, 7700, 7900]).window = 3 ∧
      (pulses [0, 3750, 4100, 7500, 7700, 7900]).encFault = false) ∧
    (rejectedIn (pulses [0, 3750, 4100, 7500, 7700, 7900, 8200]).window = 4 ∧
      (pulses [0, 3750, 4100, 7500, 7700, 7900, 8200]).encFault = true) ∧
    ((pulses [0, 3750, 4100, 7500, 7700, 7900, 8200, 11250]).window.length = 8 ∧
      (pulses [0, 3750, 4100, 7500, 7700, 7900, 8200, 11250]).run = 1 ∧
      (pulses [0, 3750, 4100, 7500, 7700, 7900, 8200, 11250]).encFault = true) := by decide +kernel

/-- The flag is cleared at the 64th accepted pulse after the last rejected one, and not before (R31). -/
theorem test_encoder_fault_clears :
    ({ pulses [] with run := 62, encFault := true }.accept 0).encFault = true ∧
    ({ pulses [] with run := 63, encFault := true }.accept 0).encFault = false := by decide +kernel

/-- Chapter Pace Figures, worked example: T at the seconds of the table, and T_end. -/
theorem test_target_table :
    [59, 60, 600, 7200, 8100, 14400, 18000, 20000, 23400, 30600].map (targetAt dayPlan) =
      [0, 1, 10, 120, 120, 225, 255, 291, 353, 467] ∧
    planTotal dayPlan = 467 ∧ milliCars (breaksOf dayPlan) 30600 30600 (taktsOf dayPlan) = 467727 := by
  decide +kernel

/-- Chapter Shift Clock and Plans, worked example: break remaining and takt. -/
theorem test_break_and_takt_table :
    [0, 7199, 7200, 8100, 17999, 18000, 23400, 30600].map (breakEnd (breaksOf dayPlan)) =
      [none, none, some 8100, none, none, none, some 24300, none] ∧
    [0, 7199, 7200, 8100, 17999, 18000, 23400, 30600].map (fun s => taktAt dayPlan s 1) =
      [600, 600, 600, 600, 600, 550, 550, 550] := by decide +kernel

/-- Chapter Pace Figures: gap, ratio and projection at s = 20,000 with A = 276; the places of the gap are
the rendering of log 29. -/
theorem test_figures_at_20000 :
    gapOf 276 291 = -15 ∧ min (276 * 1000 / 291) 1999 = 948 ∧ projectionOf 276 291 467 false = 442 ∧
    gapField (-15) = ascii "- 15" ∧ paceField 948 = ascii " 94.8" := by decide +kernel

/-- R103: breaks out of order, an END that is not last, a takt of 199 and a start of 1,440 make a plan
unusable; twelve hours are allowed, a second more is not. -/
theorem test_plan_judgement :
    usableEntries dayPlan = true ∧
    usableEntries [⟨2, 0, 600⟩, ⟨1, 300, 400⟩, ⟨1, 100, 200⟩, ⟨3, 600, 0⟩] = false ∧
    usableEntries [⟨3, 600, 0⟩, ⟨2, 0, 600⟩] = false ∧
    usableEntries [⟨2, 0, 199⟩, ⟨3, 600, 0⟩] = false ∧
    usableEntries [⟨2, 0, 200⟩, ⟨3, 600, 1440⟩] = false ∧
    usableEntries [⟨2, 0, 200⟩, ⟨3, 43200, 1439⟩] = true ∧
    usableEntries [⟨2, 0, 200⟩, ⟨3, 43201, 1439⟩] = false := by decide +kernel

/-- Chapter Stop Attribution, worked example: what board 21 reads at s = 10,850, and later without a
holder in section 1. -/
def cascade (holders : List (Nat × CallKind × Nat)) (headOfTwo : Bool) : AttInputs :=
  { standing with
    peers :=
      holders.map (fun h =>
        ⟨h.1, 1, false, false, false, false, .hold, some h.2.1, some h.2.2, false, false, true⟩) ++
      [⟨9, 2, true, false, false, false, .run, none, none, headOfTwo, false, true⟩,
       ⟨16, 2, false, true, false, false, .run, none, none, false, false, true⟩,
       ⟨17, 3, true, false, false, false, .run, none, none, true, false, true⟩] }

theorem test_cascade_keys :
    evaluate { cfgOfRoles noRoles with section_ := 3 }
      (cascade [(3, .quality, 10600), (6, .material, 10000)] true)
        = some ⟨6, 1, .call .material, .viaStarved⟩ ∧
    evaluate { cfgOfRoles noRoles with section_ := 3 } (cascade [(3, .quality, 10600)] true)
        = some ⟨3, 1, .call .quality, .viaStarved⟩ ∧
    evaluate { cfgOfRoles noRoles with section_ := 3 } (cascade [] true)
        = some ⟨0, 1, .starved, .viaStarved⟩ ∧
    evaluate { cfgOfRoles noRoles with section_ := 3 } (cascade [] false)
        = some ⟨0, 2, .starved, .viaStarved⟩ := by decide +kernel

/-- Chapter Stop Attribution, worked example of a warm restart: 2 stops and 300 s, closed with 40 s. -/
theorem test_close_of_restart :
    let k : CauseKey := ⟨0, 2, .drive, .direct⟩
    let r := { Record.begin_ 1 50 with tally := [⟨k, 2, 300⟩], total := 300, version := 17 }
    (r.close_ ⟨k, 40, false⟩).tally = [⟨k, 3, 340⟩] ∧ (r.close_ ⟨k, 40, false⟩).version = 18 ∧
    (r.close_ ⟨k, 40, true⟩).tally = [⟨k, 2, 340⟩] ∧ (r.close_ ⟨k, 0, true⟩).version = 17 := by
  decide +kernel

/-- Chapter The Board Display: banner and alert texts, with their steps. -/
theorem test_texts :
    stopText ⟨14, 2, .call .material, .direct⟩ = ascii "STOP Z14 MATERIAL" ∧
    alertText 12 .quality = ascii "HOLD Z12 QUALITY" ∧ alertText 12 .safety = ascii "SAFETY HOLD Z12" ∧
    stepCount .settle 17 = 29 ∧ stepCount .crawl 19 = 39 ∧ stepCount .fixed 19 = 20 ∧
    breakText 900 = ascii "BREAK 15:00" := by decide +kernel

/-- R9, chapter Calls and Holds, worked example: hold-point distances 42 and 18. -/
theorem test_hold_points :
    (cfgOfRoles noRoles).holdPoint 2 = 42 ∧ (cfgOfRoles noRoles).holdPoint 7 = 18 := by decide

/-- The call sequence of that example, at its turning points: a MATERIAL call with one pulse to go holds,
an EQUIPMENT call (SIGNAL) becomes OVERDUE. -/
theorem test_hold_point_reached :
    (after (.advancePulse 0) (withCalls [⟨2, .material, .answered, none, 1, 0⟩] standby)).calls.list
      = [⟨2, .material, .holding, none, 0, 0⟩] ∧
    (after (.advancePulse 0) (withCalls [⟨2, .material, .answered, none, 1, 0⟩] standby)).out.hold = true ∧
    (after (.advancePulse 0) (withCalls [⟨7, .equipment, .opened, none, 1, 0⟩] standby)).calls.list
      = [⟨7, .equipment, .overdue, none, 0, 0⟩] ∧
    (after (.advancePulse 0) (withCalls [⟨7, .equipment, .opened, none, 1, 0⟩] standby)).out.hold
      = false := by decide +kernel

/-- The MATERIAL hold limit of that example: OVERDUE and released at held-for 60. -/
theorem test_hold_times_out :
    let s := withCalls [⟨2, .material, .holding, none, 0, 59⟩] standby
    (after (.holdLimitExpiry 0) (after (.secondsExpiry 0) s)).calls.list
      = [⟨2, .material, .overdue, none, 0, 60⟩] ∧
    (after (.holdLimitExpiry 0) (after (.secondsExpiry 0) s)).out.hold = false := by decide +kernel

/-- Chapter Pace Figures, worked example of following the count point: the larger value stays, a sender
above 64 is not used, and a lower zone takes over only from a free source. -/
theorem test_following_the_count :
    let s := listening (inShift.setRet { inShift.ret with actual := 270 })
    let s := s.setPace { s.pace with source := some 40 }
    (after (.count 0 (frameOf 3 40 127 ([2, 1] ++ be16 271))) s).ret.actual = 271 ∧
    (after (.count 0 (frameOf 3 40 127 ([2, 1] ++ be16 269))) s).ret.actual = 270 ∧
    (after (.count 0 (frameOf 3 70 127 ([2, 1] ++ be16 500))) s).ret.actual = 270 ∧
    (after (.count 0 (frameOf 3 35 127 ([2, 1] ++ be16 272))) s).ret.actual = 270 ∧
    (after (.count 0 (frameOf 3 35 127 ([2, 1] ++ be16 272)))
      (s.setPace { s.pace with sourceFree := true })).pace.source = some 35 := by decide +kernel

/-- Chapter Collecting Stations: 10 entries make payloads of 38, 48, 48 and 28, tag and status among
them (R176), and a fourth entry block is not present. -/
theorem test_sizing_a_read :
    let r := { Record.begin_ 1 0 with tally := List.replicate 10 ⟨otherKey, 0, 0⟩ }
    ([0, 1, 2, 3].map (fun k => 2 + (standby.blockBody 1 k r).length)) = [38, 48, 48, 28] ∧
    blockPresent r 3 = true ∧ blockPresent r 4 = false := by decide +kernel

/-- Chapter The Zone Table, worked example: with R = 2 an entry is SILENT at 7, not at 6 (R47). -/
theorem test_silence_threshold :
    (peerAt 6).overdue = false ∧ (peerAt 7).overdue = true := by decide

/-- R162, first row, at the end of a gap: start bit first, the line is busy, no attempt starts with STATUS
PENDING, and the receiver takes the other station's frame; both orders leave the same bus controller. -/
theorem test_start_bit_at_gap_end :
    let busyFirst := after (.lineIdle 192) (after (.lineBusy 192) inShift)
    let idleFirst := after (.lineBusy 192) (after (.lineIdle 192) inShift)
    busyFirst.bus.idle = false ∧ busyFirst.bus.armed = true ∧ busyFirst.bus.status.state = .pending ∧
    (after (.transmissionStart 192) busyFirst).bus.tx = none ∧
    (after (.zoneStatus 3000 (frameOf 1 3 127 statusBytes)) busyFirst).table.entries.map (fun e => e.zone) =
      [3] ∧
    idleFirst.bus = busyFirst.bus ∧ (after (.lineIdle 193) (after (.lineBusy 192) inShift)).bus.armed = false := by
  decide +kernel

/-- R37, R124: the end of a shift returns a counter of 5 to 0, marks COUNT and restarts its period; R129: the
new picture follows the one being sent. -/
theorem test_counter_at_boundary :
    let u := after (.qualifyTimeExpiry 0 .shend false false) (ready .shend carsOut)
    u.ret.car = 0 ∧ u.sec.lastCar = none ∧ u.bus.count = ⟨.pending, 0, false⟩ ∧ u.pace.period = 0 ∧
    u.disp.link.sending = carsOut.disp.link.sending ∧ u.disp.link.again = true := by decide +kernel

/-- R100: 60 s ahead pauses, 61 s ahead steps back. -/
theorem test_pause_or_step :
    let c := { inShift.clock with s := 20060 }
    ((c.follow 20000).s = 20060 ∧ (c.follow 20000).pause = 60) ∧
    ((c.follow 19999).s = 19999 ∧ (c.follow 19999).pause = 0) ∧
    ((c.follow 20061).s = 20061 ∧ (c.follow 20061).pause = 0) := by decide +kernel

/-- R87, R88, R165: on a mirror of a reference zone the mirrored board is a station other than the board
itself; its silence counts, and at 30 the source is free, so that a mark of zone 40 is adopted. A board that
took its own input counts none and is not free. -/
theorem test_source_under_own_number :
    let mark := frameOf 2 12 127 [2, 1, 0, 0]
    let adopted := after (.timeMark 0 mark) (listening mirrored)
    let silent := after (.secondsExpiry 0) (adopted.setClock { adopted.clock with silence := 29 })
    let turned := after (.timeMark 0 (frameOf 2 40 127 [2, 1, 0, 9])) (listening silent)
    adopted.clock.source = some 12 ∧ adopted.cfg.zone = 12 ∧ silent.clock.silence = 30 ∧
    turned.clock.source = some 40 ∧ turned.clock.silence = 0 ∧
    (after (.timeMark 0 (frameOf 2 40 127 [2, 1, 0, 9])) (listening adopted)).clock.source = some 12 ∧
    inShift.clock.source = some 12 ∧ (after (.secondsExpiry 0) inShift).clock.silence = 0 ∧
    (after (.timeMark 0 (frameOf 2 40 127 [2, 1, 0, 9]))
      (listening (inShift.setClock { inShift.clock with silence := 30 }))).clock.source = some 12 := by
  decide +kernel

/-- R28, chapter Section Motion: the change first, the old gap of 937 ms; the pulse first, the new gap of
312 ms; by a pulse 500 ms after the last. -/
theorem test_gap_of_takt_change :
    let at_ (s : State) : State := (s.setSec { s.sec with lastPulse := some 500000 }).setNow 1000000
    let changed := after (.qualifyTimeExpiry 1000000 .shst false true) (at_ (ready .shst reference))
    (after (.advancePulse 1000000) changed).sec.window = [true] ∧
    (after (.advancePulse 1000000) (at_ (startWaits.setPending
      [.qualifyTimeExpiry 1000000 .shst false true]))).sec.window = [false] := by decide +kernel

/-- R51: clash frame and expiry at one moment at a count of 59, in either order, leave the flag set with
count 0; at a count of 58 the frame's moment does not matter. -/
theorem test_clash_and_expiry :
    let frame := frameOf 1 12 127 statusBytes
    let b (n : Nat) := listening ((clashing none).setTable { (clashing none).table with clashCount := n })
    let first := after (.secondsExpiry 0) (after (.zoneStatus 0 frame) (b 59))
    let last := after (.zoneStatus 0 frame) (after (.secondsExpiry 0) (b 59))
    first.table.clash = true ∧ first.table.clashCount = 0 ∧ last.table.clash = true ∧
    last.table.clashCount = 0 ∧
    (after (.secondsExpiry 0) (after (.zoneStatus 0 frame) (b 58))).table.clashCount = 1 := by
  decide +kernel

/-- R73, the case R15 names: an own-zone interval of no seconds between the call's hold and the motion,
its stop counted. -/
theorem test_pulse_at_hold_point :
    (after (.advancePulse 9000001) (nearHold 1)).ret.current.map (fun r => r.tally) =
      some [⟨⟨0, 2, .drive, .direct⟩, 1, 0⟩, ⟨⟨12, 2, .call .material, .direct⟩, 1, 0⟩] := by decide +kernel

/-- R73, with the pull, or the clear key press, that resolves the call at the same moment: the own zone's
interval of no seconds stands between two of the earlier key, each with its own stop; the resolving command
finds the section MOVING and charges nothing. -/
theorem test_pulse_at_hold_point_resolved :
    ∀ i ∈ [InputId.call 2, .clr],
      let u := after (.advancePulse 9000001) (resolving i)
      let v := after (.qualifyTimeExpiry 9000001 i false false) u
      u.calls.list.map (fun x => x.state) = [.holding] ∧ u.sec.motion = .moving ∧
      u.ret.current.map (fun r => r.tally) =
        some [⟨⟨0, 2, .drive, .direct⟩, 2, 0⟩, ⟨⟨12, 2, .call .material, .direct⟩, 1, 0⟩] ∧
      v.calls.list = [] ∧ v.ret.current.map (fun r => r.tally) = u.ret.current.map (fun r => r.tally) := by
  decide +kernel

/-- R159: a discarded ZONE STATUS is marked again where the bus-trouble flag was clear, and not where it
was set. -/
theorem test_discarded_status :
    (after (.collision 0) (sending .status)).bus.status = ⟨.pending, 0, false⟩ ∧
    (after (.collision 0) (troubled .status)).bus.status = ⟨.empty, 0, false⟩ := by decide +kernel

/-- R153: a warm restart that halts keeps the display's copies of its start, though the retained area
holds a peak and an actual. -/
theorem test_copies_of_warm_halt :
    let u := after (.configImageRead 0 []) (restarted true)
    u.mode = .halted ∧ u.ret.peak.isSome = true ∧ u.disp.copies.figures = .initial := by decide +kernel

/-- R159: the jam, 20 bit times at space from the end of the collision's bit time, then released. -/
theorem test_jam :
    let b := (after (.collision 800) (sending .count)).bus
    [807, 808, 967, 968].map b.driverEnabled = [false, true, true, false] ∧
    [807, 808, 967, 968].map b.txLevel = [true, false, false, true] := by decide +kernel

/-- R168: an attempt that was in hand at the entry into DORMANT, ended after the wake, leaves its slot
EMPTY and the bus-trouble flag as it was, whichever way it ends. -/
theorem test_attempt_over_sleep :
    (after (.frameSent 0) (overslept .time)).bus.trouble = true ∧
    (after (.frameSent 0) (overslept .time)).bus.time.state = .empty ∧
    (after (.collision 0) (overslept .reply)).req = ⟨none, none⟩ ∧
    (after (.collision 0) (overslept .reply)).bus.rng = some 0xACE1#16 := by decide +kernel

/-- R193: the check word of the reset state agrees with its cleared area. -/
theorem test_reset_check_word : State.reset.check = checkWordOf .cleared := by decide +kernel

/-- R161: the generator's step on a state with its lowest bit set and clear; r = 0 waits not at all. -/
theorem test_random_step :
    nextRandom 0x0001#16 = 0xB400#16 ∧ nextRandom 0x0002#16 = 0x0001#16 ∧
    drawOf 0xFFFF#16 9 = 31 := by decide

/-- Chapter The Board Display, worked example of a full store: dropped, evicting, replacing. -/
theorem test_full_store :
    let m (s i p d : Nat) : Message := ⟨⟨s, i⟩, p, .fixed, d, ascii "A"⟩
    let store := [m 66 1 3 600, m 70 4 2 120, m 71 8 2 300, m 70 2 1 900, m 80 1 1 45, m 70 7 0 3600,
      m 71 3 0 30, m 66 5 0 1]
    let keys (l : List Message) := (keysOf l).map (fun k => (k.sender, k.id))
    let second := ((storeAfter (m 90 2 1 9) store).map (fun x => x.1)).getD []
    storeAfter (m 90 1 0 9) store = none ∧
    keys second = [(66, 1), (70, 4), (71, 8), (70, 2), (80, 1), (90, 2), (71, 3), (66, 5)] ∧
    ((storeAfter (m 70 4 0 60) second).map (fun x => keys x.1)) =
      some [(66, 1), (71, 8), (70, 2), (80, 1), (90, 2), (71, 3), (66, 5), (70, 4)] := by decide +kernel

end Sys2Proof.Tests
end

section
/-! What the views of a state depend on, and what handing on at the end of a command leaves in each block. -/

namespace Sys2Proof.Machine

/-! ## What the views depend on -/

section Views

variable {s u : State}

theorem State.running_congr (hm : u.mode = s.mode) : u.running = s.running := by
  simp [State.running, hm]

theorem State.mirror_congr (hc : u.cfg = s.cfg) : u.mirror = s.mirror := by
  simp [State.mirror, hc]

theorem State.holdWanted_congr (hm : u.mode = s.mode) (hc : u.cfg = s.cfg)
    (hl : u.calls.list = s.calls.list) (ho : u.calls.overflow = s.calls.overflow) :
    u.holdWanted = s.holdWanted := by
  simp [State.holdWanted, State.running, State.mirror, hm, hc, hl, ho]

theorem State.zoneCondition_congr (hm : u.mode = s.mode) (hc : u.cfg = s.cfg)
    (hl : u.calls.list = s.calls.list) (ho : u.calls.overflow = s.calls.overflow) :
    u.zoneCondition = s.zoneCondition := by
  simp [State.zoneCondition, State.holdWanted_congr hm hc hl ho, hl]

theorem State.ownHolder_congr (hm : u.mode = s.mode) (hc : u.cfg = s.cfg)
    (hl : u.calls.list = s.calls.list) (ho : u.calls.overflow = s.calls.overflow) :
    u.ownHolder = s.ownHolder := by
  simp [State.ownHolder, CallUnit.holders, State.holdWanted_congr hm hc hl ho, hl, ho, hc]

theorem State.knownSecond_congr (hm : u.mode = s.mode) (hk : u.clock = s.clock) :
    u.knownSecond = s.knownSecond := by
  simp [State.knownSecond, hm, hk]

theorem State.usablePlan_congr (hk : u.clock = s.clock) (hr : u.ret.shift = s.ret.shift) :
    u.usablePlan = s.usablePlan := by
  simp [State.usablePlan, State.runningPlan, hk, hr]

theorem State.currentTimes_congr (hm : u.mode = s.mode) (hc : u.cfg = s.cfg) (hk : u.clock = s.clock)
    (hr : u.ret.shift = s.ret.shift) : u.currentTimes = s.currentTimes := by
  simp [State.currentTimes, State.currentTakt, State.usablePlan_congr hk hr, State.mirror, hm, hc, hk]

theorem State.breakEnds_congr (hm : u.mode = s.mode) (hk : u.clock = s.clock)
    (hr : u.ret.shift = s.ret.shift) : u.breakEnds = s.breakEnds := by
  simp [State.breakEnds, State.usablePlan_congr hk hr, State.knownSecond_congr hm hk]

theorem State.inBreak_congr (hm : u.mode = s.mode) (hk : u.clock = s.clock)
    (hr : u.ret.shift = s.ret.shift) : u.inBreak = s.inBreak := by
  simp [State.inBreak, State.breakEnds_congr hm hk hr]

theorem State.breakRemaining_congr (hm : u.mode = s.mode) (hk : u.clock = s.clock)
    (hr : u.ret.shift = s.ret.shift) : u.breakRemaining = s.breakRemaining := by
  simp [State.breakRemaining, State.breakEnds_congr hm hk hr, hk]

theorem State.liveMirrored_congr (hz : u.table.mirrored = s.table.mirrored) :
    u.liveMirrored = s.liveMirrored := by
  simp [State.liveMirrored, hz]

theorem State.ownMotion_congr (hc : u.cfg = s.cfg) (hz : u.table.mirrored = s.table.mirrored)
    (hv : u.sec.motion = s.sec.motion) : u.ownMotion = s.ownMotion := by
  simp only [State.ownMotion, State.mirror_congr hc, hz, hv]

theorem Retained.view_congr {r q : Retained} (h : q.shift = r.shift) (k : q.serial = r.serial) :
    q.view = r.view := by
  funext e
  simp [Retained.view, Retained.comparable, h, k]

theorem State.ownView_congr (hm : u.mode = s.mode) (hc : u.cfg = s.cfg)
    (hl : u.calls.list = s.calls.list) (ho : u.calls.overflow = s.calls.overflow)
    (hz : u.table.mirrored = s.table.mirrored) (hr : u.ret.shift = s.ret.shift)
    (hn : u.ret.serial = s.ret.serial) : u.ownView = s.ownView := by
  simp only [State.ownView, State.mirror_congr hc, State.liveMirrored_congr hz,
    State.zoneCondition_congr hm hc hl ho, State.ownHolder_congr hm hc hl ho, Retained.comparable, hr, hn]

theorem State.stopLines_congr (hm : u.mode = s.mode) (hc : u.cfg = s.cfg)
    (hl : u.calls.list = s.calls.list) (ho : u.calls.overflow = s.calls.overflow)
    (hz : u.table.mirrored = s.table.mirrored) (he : u.table.entries = s.table.entries)
    (hr : u.ret.shift = s.ret.shift) (hn : u.ret.serial = s.ret.serial) :
    u.stopLines = s.stopLines := by
  simp [State.stopLines, State.ownCandidate, State.ownView_congr hm hc hl ho hz hr hn, he, hc,
    Retained.view_congr hr hn]

/-- The attributor's inputs depend on these fields alone (R61). -/
theorem State.attInputs_congr (hm : u.mode = s.mode) (hc : u.cfg = s.cfg)
    (hl : u.calls.list = s.calls.list) (ho : u.calls.overflow = s.calls.overflow)
    (hv : u.sec.motion = s.sec.motion) (hz : u.table.mirrored = s.table.mirrored)
    (he : u.table.entries = s.table.entries) (hst : u.table.starved.flag = s.table.starved.flag)
    (hbl : u.table.blocked.flag = s.table.blocked.flag) (hb : u.att.readBack.flag = s.att.readBack.flag)
    (hk : u.clock = s.clock) (hr : u.ret.shift = s.ret.shift) (hn : u.ret.serial = s.ret.serial) :
    u.attInputs = s.attInputs := by
  simp only [State.attInputs, State.ownMotion_congr hc hz hv, State.ownView_congr hm hc hl ho hz hr hn,
    State.liveMirrored_congr hz, State.inBreak_congr hm hk hr, Retained.view_congr hr hn,
    State.mirror_congr hc, hm, hc, he, hst, hbl, hb]

/-- The own zone record depends on these fields alone (R55). -/
theorem State.ownRecord_congr (hm : u.mode = s.mode) (hc : u.cfg = s.cfg)
    (hl : u.calls.list = s.calls.list) (ho : u.calls.overflow = s.calls.overflow)
    (hv : u.sec.motion = s.sec.motion) (hef : u.sec.encFault = s.sec.encFault)
    (hhf : u.sec.holdFail = s.sec.holdFail) (hst : u.table.starved.flag = s.table.starved.flag)
    (hbl : u.table.blocked.flag = s.table.blocked.flag) (ht : u.clock.timeValid = s.clock.timeValid)
    (hb : u.bus.trouble = s.bus.trouble) (hr : u.ret.shift = s.ret.shift)
    (hn : u.ret.serial = s.ret.serial) : u.ownRecord = s.ownRecord := by
  simp [State.ownRecord, State.zoneCondition_congr hm hc hl ho, State.ownHolder_congr hm hc hl ho,
    hl, ho, hv, hef, hhf, hst, hbl, ht, hb, hr, hn]

end Views

end Sys2Proof.Machine
end

section
namespace Sys2Proof.Machine

variable (s : State)

/-! ## The hold output and its check (R20, R34, R35) -/

theorem State.followHold_unchanged (h : s.out.hold = s.holdWanted) : s.followHold = s := by
  simp [State.followHold, h]

/-- Handing on the hold output changes that output alone. -/
theorem State.followHold_outputs : s.followHold.out = { s.out with hold := s.holdWanted } := by
  have hold := s.followHold_out
  unfold State.followHold at hold ⊢
  dsimp only at hold ⊢
  split
  · next h => rw [h]
  · split
    · next h => rw [h]; split <;> split <;> simp
    · next h => simp [h]

/-- What the hold check becomes: started by an assertion on a section that does not stand, cancelled by a
release (R34, R35). -/
theorem State.followHold_sec :
    s.followHold.sec =
      if s.holdWanted = s.out.hold then s.sec
      else if s.holdWanted = true then
        if s.sec.motion = .stopped then s.sec
        else { s.sec with holdTimer := some (s.now + seconds s.cfg.holdResponse) }
      else { s.sec with holdTimer := none, holdFail := false } := by
  unfold State.followHold
  dsimp only
  split
  · rfl
  · split
    · split <;> split <;> simp_all [State.startHoldTimer]
    · simp [State.cancelHoldCheck]

@[simp] theorem State.followHold_motion :
    s.followHold.sec.motion = s.sec.motion ∧ s.followHold.sec.times = s.sec.times ∧
    s.followHold.sec.stopTimer = s.sec.stopTimer ∧ s.followHold.sec.gapChange = s.sec.gapChange ∧
    s.followHold.sec.encFault = s.sec.encFault := by
  rw [s.followHold_sec]
  repeat' split
  all_goals simp

/-- While an output is wanted its earliest holder is known (R21). -/
theorem earliestHolder_isSome {l : List Candidate} (h : l ≠ []) : (earliestHolder l).isSome = true := by
  cases l with
  | nil => exact absurd rfl h
  | cons x rest =>
    unfold earliestHolder
    split
    · rfl
    · split <;> rfl

theorem State.holdWanted_iff :
    s.holdWanted = true ↔ s.running = true ∧ s.mirror = false ∧
      ((∃ x ∈ s.calls.list, x.state = .holding) ∨ s.calls.overflow.isSome = true) := by
  simp [State.holdWanted, and_assoc]

theorem State.ownHolder_isSome (h : s.holdWanted = true) : s.ownHolder.isSome = true := by
  simp only [State.ownHolder, h, if_true]
  apply earliestHolder_isSome
  obtain ⟨-, -, ⟨x, hx, hk⟩ | ho⟩ := s.holdWanted_iff.mp h
  · intro e
    have := List.append_eq_nil_iff.mp e |>.1
    simp only [List.map_eq_nil_iff, List.filter_eq_nil_iff, decide_eq_true_eq] at this
    exact this x hx hk
  · obtain ⟨o, ho⟩ := Option.isSome_iff_exists.mp ho
    simp [CallUnit.holders, ho]

/-- An alert starts on a running board that is no mirror, and changes of the display the running item
alone (R144). -/
theorem State.startAlert_value (k : CallKind) :
    s.startAlert k = if s.running = true ∧ s.mirror = false then
      s.setDisp { s.disp with running := some (alertRun s.cfg.zone k s.now) } else s := by
  unfold State.startAlert
  by_cases h : s.running = true <;> by_cases m : s.mirror = true <;> simp [h, m]
  rfl

/-- A hold start event starts its alert; the display is otherwise left as it is (R22, R144). -/
theorem State.followHold_disp :
    s.followHold.disp =
      match s.ownHolder with
      | some h =>
        if s.out.hold = false then { s.disp with running := some (alertRun s.cfg.zone h.kind s.now) }
        else s.disp
      | none => s.disp := by
  by_cases w : s.holdWanted = true
  · obtain ⟨h, hh⟩ := Option.isSome_iff_exists.mp (s.ownHolder_isSome w)
    obtain ⟨hr, hm, -⟩ := s.holdWanted_iff.mp w
    unfold State.followHold
    dsimp only
    by_cases o : s.out.hold = true
    · simp [w, o, hh]
    · simp only [Bool.not_eq_true] at o
      simp only [w, o, if_true, Bool.true_eq_false, if_false, hh]
      generalize hv : (if (s.setOut { s.out with hold := true }).sec.motion = .stopped then
        s.setOut { s.out with hold := true }
        else (s.setOut { s.out with hold := true }).startHoldTimer) = v
      have hvm : v.mode = s.mode := by rw [← hv]; split <;> simp
      have hvc : v.cfg = s.cfg := by rw [← hv]; split <;> simp
      have hvl : v.calls = s.calls := by rw [← hv]; split <;> simp
      have hvd : v.disp = s.disp := by rw [← hv]; split <;> simp
      have hvn : v.now = s.now := by rw [← hv]; split <;> simp
      have hvh : v.ownHolder = some h := by
        rw [State.ownHolder_congr hvm hvc (by rw [hvl]) (by rw [hvl]), hh]
      simp [hvh, State.startAlert_value, State.running_congr hvm, State.mirror_congr hvc, hr, hm, hvd,
        hvc, hvn]
  · have : s.ownHolder = none := by simp [State.ownHolder, w]
    rw [this]
    unfold State.followHold
    simp only [w]
    split <;> simp

@[simp] theorem State.followHold_kept :
    s.followHold.disp.store = s.disp.store ∧ s.followHold.disp.pending = s.disp.pending ∧
    s.followHold.disp.page = s.disp.page ∧ s.followHold.disp.pageTimer = s.disp.pageTimer ∧
    s.followHold.disp.flash = s.disp.flash ∧ s.followHold.disp.flashDue = s.disp.flashDue ∧
    s.followHold.disp.copies = s.disp.copies := by
  rw [s.followHold_disp]
  repeat' split
  all_goals simp

/-! ## The derived times (R27, R28) -/

theorem State.retime_unchanged (h : s.running = false ∨ s.sec.times = s.currentTimes) : s.retime = s := by
  unfold State.retime
  rcases h with h | h <;> simp [h]

/-- Whether the stop-detect time of a section that does not stand has passed. -/
def SectionMonitor.stopPassed (m : SectionMonitor) (now : Time) : Prop :=
  m.motion ≠ .stopped ∧ ∃ t ∈ m.stopTimer, t + msec m.times.stopDetect < now

/-- The section monitor after a change of the derived times: a stop-detect time that has passed stops the
section at once (R28). -/
theorem State.retime_sec (hr : s.running = true) (h : s.sec.times ≠ s.currentTimes) :
    let m := { s.sec with times := s.currentTimes, gapChange := some (s.now, s.sec.gapAt s.now) }
    (m.stopPassed s.now → s.retime.sec =
      { m with motion := .stopped, stopTimer := none, holdTimer := none, holdFail := false }) ∧
    (¬ m.stopPassed s.now → s.retime.sec = m) := by
  unfold State.retime SectionMonitor.stopPassed
  simp only [hr, h, if_true, if_false]
  cases s.sec.stopTimer with
  | none => simp [SectionMonitor.stopDue]
  | some t =>
    by_cases hm : s.sec.motion = .stopped
    · simp [SectionMonitor.stopDue, hm, State.setMotion]
    · by_cases hd : t + msec s.currentTimes.stopDetect < s.now <;>
        simp [SectionMonitor.stopDue, hm, hd, State.setMotion, State.cancelHoldCheck]

end Sys2Proof.Machine
end

section
namespace Sys2Proof.Machine

variable (s : State)

/-! ## The own zone record and the STATUS slot (R55, R56) -/

theorem State.mirror_eq_false_iff : (¬ s.mirror = true) ↔ s.mirror = false := by simp

/-- A mark of the STATUS slot, field by field. -/
theorem State.mark_status :
    (s.mark .status).bus = if s.running = true ∧ s.mirror = false then
      { s.bus with status := s.bus.status.mark } else s.bus := by
  rw [s.mark_value]
  split <;> rfl

/-- Following the own zone record changes of the table that record alone. -/
theorem State.followOwn_table :
    s.followOwn.table = { s.table with
      own := if s.mode.awake = true ∧ s.mirror = false then s.ownRecord else s.table.own } := by
  unfold State.followOwn
  by_cases h : s.mode.awake = true <;> by_cases m : s.mirror = true <;> simp [h, m]
  split <;> simp_all

/-- A change of the own zone record marks the STATUS slot of a running board and nothing else of the bus
controller. -/
theorem State.followOwn_bus :
    s.followOwn.bus = { s.bus with status :=
      if s.followOwn.table.own = s.table.own ∨ s.running = false ∨ s.mirror = true then s.bus.status
      else s.bus.status.mark } := by
  rw [s.followOwn_table]
  unfold State.followOwn
  by_cases h : s.mode.awake = true <;> by_cases m : s.mirror = true <;> simp [h, m]
  split
  · simp_all
  · next e =>
    simp only [State.mark_status, State.setTable_bus, State.running_congr (s := s) (State.setTable_mode ..),
      State.mirror_congr (s := s) (State.setTable_cfg ..), m, e, false_or]
    by_cases r : s.running = true <;> simp [r]

@[simp] theorem State.followOwn_kept :
    s.followOwn.table.entries = s.table.entries ∧ s.followOwn.table.mirrored = s.table.mirrored ∧
    s.followOwn.table.starved = s.table.starved ∧ s.followOwn.table.blocked = s.table.blocked ∧
    s.followOwn.table.clash = s.table.clash ∧ s.followOwn.bus.trouble = s.bus.trouble := by
  rw [s.followOwn_bus, s.followOwn_table]
  simp

/-! ## The cause and the open interval (R64, R71) -/

/-- What the attributor makes of what it is handed (R64). -/
def State.followCause (s : State) : State :=
  if s.mode = .shift then s.copyInputs.rekey (evaluate s.cfg s.attInputs)
  else s.copyInputs.setAtt { s.copyInputs.att with cause := none }

/-- Handing on, block by block. -/
theorem State.handOn_steps :
    s.handOn =
      s.followHold.retime.followDormant.followOwn.followCause.handDowntime.followText.followPages := rfl

/-- An interval of the result's key stays open (R71). -/
theorem State.rekey_same {r : Option CauseKey} (h : s.ret.interval.map (fun i => i.key) = r) :
    s.rekey r = s.setAtt { s.att with cause := r } := by
  simp [State.rekey, h]

/-- Any other interval is closed, and one of the result's key opened (R71, R84). -/
theorem State.rekey_other {r : Option CauseKey} (h : s.ret.interval.map (fun i => i.key) ≠ r) :
    s.rekey r = (s.setRet { s.ret.closeInterval with
        interval := r.map (fun k => ⟨k, 0, s.att.carried == some k⟩) }).setAtt
      { s.att with cause := r, carried := if r.isSome then none else s.att.carried } := by
  unfold State.rekey
  rw [if_neg h]
  cases r with
  | none =>
    have e : { s.ret.closeInterval with interval := none } = s.ret.closeInterval := by
      have := (Retained.closeInterval_value s.ret).1
      cases hc : s.ret.closeInterval
      simp_all
    simp [e]
  | some k => rfl

theorem Retained.closeInterval_frame (r : Retained) :
    r.closeInterval = { r with interval := none, current := r.closeInterval.current } := by
  unfold Retained.closeInterval
  cases h : r.interval <;> simp [← h]

/-- Closing an interval keeps the raised and holds counts of the record it is closed into (R77). -/
theorem Retained.closeInterval_counts (r : Retained) :
    r.closeInterval.current.map (fun c => (c.raised, c.holds)) =
      r.current.map (fun c => (c.raised, c.holds)) := by
  unfold Retained.closeInterval
  split
  · rfl
  · cases r.current <;> simp [Record.close_frame]

/-- The key of the interval that a re-keying leaves open. -/
@[simp] theorem State.rekey_key (r : Option CauseKey) :
    (s.rekey r).ret.interval.map (fun i => i.key) = r := by
  by_cases h : s.ret.interval.map (fun i => i.key) = r
  · rw [s.rekey_same h]; simpa using h
  · rw [s.rekey_other h]; cases r <;> simp

/-- What a re-keying leaves of the retained area and its check word. -/
theorem State.rekey_ret (r : Option CauseKey) :
    (s.rekey r).ret = (if s.ret.interval.map (fun i => i.key) = r then s.ret
      else { s.ret.closeInterval with interval := r.map (fun k => ⟨k, 0, s.att.carried == some k⟩) }) ∧
    (s.rekey r).check = (if s.ret.interval.map (fun i => i.key) = r then s.check
      else checkWordOf (s.rekey r).ret) ∧
    (s.rekey r).att = { s.att with
      cause := r
      carried := if s.ret.interval.map (fun i => i.key) ≠ r ∧ r.isSome then none else s.att.carried } := by
  by_cases h : s.ret.interval.map (fun i => i.key) = r
  · rw [s.rekey_same h]; simp [h]
  · have k := s.rekey_key r
    rw [s.rekey_other h] at k ⊢
    refine ⟨by simp [h], ?_, by simp [h]⟩
    simp only [State.setAtt_check, State.setRet_check, State.setAtt_ret, State.setRet_ret] at k ⊢
    rw [if_neg h, if_neg]
    intro e
    apply h
    rw [← e]
    exact k

@[simp] theorem State.rekey_ret_frame (r : Option CauseKey) :
    (s.rekey r).ret.last = s.ret.last ∧ (s.rekey r).ret.shift = s.ret.shift ∧
    (s.rekey r).ret.serial = s.ret.serial ∧ (s.rekey r).ret.actual = s.ret.actual ∧
    (s.rekey r).ret.peak = s.ret.peak ∧ (s.rekey r).ret.car = s.ret.car := by
  rw [(s.rekey_ret r).1]
  split
  · simp
  · simp [Retained.closeInterval_value]

@[simp] theorem State.followCause_frame :
    s.followCause.pending = s.pending ∧ s.followCause.now = s.now ∧ s.followCause.mode = s.mode ∧
    s.followCause.cfg = s.cfg ∧ s.followCause.pins = s.pins ∧ s.followCause.out = s.out ∧
    s.followCause.calls = s.calls ∧ s.followCause.sec = s.sec ∧ s.followCause.table = s.table ∧
    s.followCause.clock = s.clock ∧ s.followCause.pace = s.pace ∧ s.followCause.disp = s.disp ∧
    s.followCause.bus = s.bus ∧ s.followCause.req = s.req ∧ s.followCause.start = s.start ∧
    s.followCause.ret.last = s.ret.last ∧ s.followCause.ret.shift = s.ret.shift ∧
    s.followCause.ret.serial = s.ret.serial ∧ s.followCause.ret.actual = s.ret.actual ∧
    s.followCause.ret.peak = s.ret.peak ∧ s.followCause.ret.car = s.ret.car := by
  unfold State.followCause
  split <;> simp

/-- The attributor takes its inputs as they stand, and gives the carried key up while MOVING (R61, R84). -/
theorem State.copyInputs_att :
    s.copyInputs.att = { s.att with
      copies := s.attInputs
      carried := if s.ownMotion = .moving then none else s.att.carried } := rfl

theorem State.followCause_ret :
    s.followCause.ret =
      if s.mode = .shift ∧ s.ret.interval.map (fun i => i.key) ≠ evaluate s.cfg s.attInputs then
        { s.ret.closeInterval with
          interval := (evaluate s.cfg s.attInputs).map (fun k => ⟨k, 0, s.copyInputs.att.carried == some k⟩) }
      else s.ret := by
  unfold State.followCause
  by_cases m : s.mode = .shift
  · rw [if_pos m, (State.rekey_ret ..).1]
    by_cases h : s.ret.interval.map (fun i => i.key) = evaluate s.cfg s.attInputs <;> simp [m, h]
  · simp [m]

/-- The check word follows the retained area exactly where that changes (R83). -/
theorem State.followCause_check :
    (s.followCause.ret = s.ret → s.followCause.check = s.check) ∧
    (s.followCause.ret ≠ s.ret → s.followCause.check = checkWordOf s.followCause.ret) := by
  unfold State.followCause
  split
  · rw [(State.rekey_ret ..).2.1]
    split
    · next h => rw [State.rekey_same _ h]; simp
    · next h =>
      refine ⟨fun e => absurd ?_ h, fun _ => rfl⟩
      have := State.rekey_key s.copyInputs (evaluate s.cfg s.attInputs)
      rwa [e] at this
  · simp

theorem State.followCause_att :
    s.followCause.att = { s.copyInputs.att with
      cause := if s.mode = .shift then evaluate s.cfg s.attInputs else none
      carried :=
        if s.mode = .shift ∧ s.ret.interval.map (fun i => i.key) ≠ evaluate s.cfg s.attInputs ∧
          (evaluate s.cfg s.attInputs).isSome then none else s.copyInputs.att.carried } := by
  unfold State.followCause
  by_cases m : s.mode = .shift
  · rw [if_pos m, (State.rekey_ret ..).2.2]
    simp [m]
  · simp [m]

/-- In SHIFT the open interval has the cause's key (R71). -/
theorem State.followCause_key (m : s.mode = .shift) :
    s.followCause.ret.interval.map (fun i => i.key) = evaluate s.cfg s.attInputs := by
  simp [State.followCause, m]

/-! ## Downtime and the stop-list pages -/

theorem State.handDowntime_pace :
    s.handDowntime.pace = { s.pace with
      downtime := if s.mode.awake = true then s.ret.downtime else s.pace.downtime } := by
  unfold State.handDowntime
  split <;> simp_all

/-- The stop-list channel follows the rebuilt list and changes of the display its page and timer alone
(R137). -/
theorem State.followPages_disp :
    s.followPages.disp = if s.running = true then
      if pagesOf s.stopLines.length ≤ 1 then { s.disp with page := 1, pageTimer := none }
      else match s.disp.pageTimer with
        | none => { s.disp with page := 1, pageTimer := some (s.now + pageTime) }
        | some _ =>
          { s.disp with page := if pagesOf s.stopLines.length < s.disp.page then 1 else s.disp.page }
      else s.disp := by
  unfold State.followPages
  dsimp only
  by_cases h : s.running = true
  · simp only [h, Bool.not_true, Bool.false_eq_true, if_false, if_true]
    by_cases k : pagesOf s.stopLines.length ≤ 1
    · simp [k]
    · simp only [k, if_false]
      cases ht : s.disp.pageTimer with
      | none => simp
      | some d => by_cases q : pagesOf s.stopLines.length < s.disp.page <;> simp [q, ← ht]
  · simp [h]

@[simp] theorem State.followPages_kept :
    s.followPages.disp.store = s.disp.store ∧ s.followPages.disp.running = s.disp.running ∧
    s.followPages.disp.pending = s.disp.pending ∧ s.followPages.disp.flash = s.disp.flash ∧
    s.followPages.disp.flashDue = s.disp.flashDue ∧ s.followPages.disp.copies = s.disp.copies := by
  rw [s.followPages_disp]
  repeat' split
  all_goals simp

end Sys2Proof.Machine
end

section
namespace Sys2Proof.Machine

variable (s : State)

/-! ## The text line (R140 to R144) -/

theorem findMessage_isSome {store : List Message} {k : MsgKey} :
    (findMessage store k).isSome = true ↔ k ∈ keysOf store := by
  simp [findMessage, keysOf, List.find?_isSome]

theorem State.runOf_congr {u v : State} (hn : u.now = v.now) (hc : u.att.cause = v.att.cause)
    (hb : u.breakRemaining = v.breakRemaining) (hs : u.disp.store = v.disp.store) : u.runOf = v.runOf := by
  funext x
  cases x <;> simp [State.runOf, hn, hc, hb, hs]

theorem State.rotation_congr {u v : State} (hc : u.att.cause = v.att.cause)
    (hb : u.breakRemaining = v.breakRemaining) (hs : u.disp.store = v.disp.store) :
    u.rotation = v.rotation := by
  simp [State.rotation, hc, hb, hs]

/-- A run is the one of an item that starts (R138 to R142). -/
theorem State.startsItem_of_runOf {x : Item} {r : Running} (h : s.runOf x = some r) :
    s.StartsItem x (some r) := by
  cases x with
  | stopBanner =>
    obtain ⟨k, hk, rfl⟩ := Option.map_eq_some_iff.mp h
    exact ⟨k, hk, rfl⟩
  | breakBanner =>
    obtain ⟨n, hn, rfl⟩ := Option.map_eq_some_iff.mp h
    exact ⟨n, hn, rfl⟩
  | alert => exact absurd h (by simp [State.runOf])
  | message k =>
    obtain ⟨m, hm, rfl⟩ := Option.map_eq_some_iff.mp h
    refine ⟨m, hm, ?_⟩
    cases hs : m.style <;> simp [startRun, firstPos, stepCount, settleEnd, stepTime, msec]

/-- Every item of the rotation can be started (R140). -/
theorem State.runOf_isSome_of_rotation {x : Item} (h : x ∈ s.rotation) : (s.runOf x).isSome = true := by
  simp only [State.rotation, List.mem_append, List.mem_map] at h
  rcases h with (h | h) | ⟨k, hk, rfl⟩
  · split at h
    · next hc => rw [List.mem_singleton.mp h]; simpa [State.runOf] using hc
    · exact absurd h (by simp)
  · split at h
    · next hb => rw [List.mem_singleton.mp h]; simpa [State.runOf] using hb
    · exact absurd h (by simp)
  · simpa [State.runOf] using findMessage_isSome.mpr hk

/-- What stands behind an item that ended can be started (R140). -/
theorem State.runOf_isSome_of_itemAfter {e : Option Item} {old : List Message} {x : Item}
    (h : s.itemAfter e old = some x) : (s.runOf x).isSome = true := by
  have first : (keysOf s.disp.store).head?.map Item.message = some x → (s.runOf x).isSome = true := by
    intro h
    obtain ⟨k, hk, rfl⟩ := Option.map_eq_some_iff.mp h
    simpa [State.runOf] using findMessage_isSome.mpr (List.mem_of_head? hk)
  unfold State.itemAfter at h
  split at h
  · split at h
    · next hb => rw [← Option.some.inj h]; simpa [State.runOf] using hb
    · exact first h
  · exact first h
  · obtain ⟨k, hk, rfl⟩ := Option.map_eq_some_iff.mp h
    have : k ∈ keysOf s.disp.store := by simpa using List.find?_some hk
    simpa [State.runOf] using findMessage_isSome.mpr this
  · exact absurd h (by simp)
  · exact absurd h (by simp)

/-- The choice of R140, as one expression: the pending message's run, else that of what stands behind the
item that ended or comes first in the rotation. -/
theorem State.chooseItem_disp (e : Option Item) (old : List Message) :
    (s.chooseItem e old).disp = { s.disp with
      running := (s.disp.pending.bind fun k => s.runOf (.message k)).or
        (((s.itemAfter e old).or s.rotation.head?).bind s.runOf)
      pending := if (s.disp.pending.bind fun k => s.runOf (.message k)).isSome then none
        else s.disp.pending } := by
  have h : s.pendingRun = s.disp.pending.bind fun k => s.runOf (.message k) := by
    unfold State.pendingRun
    cases s.disp.pending <;> rfl
  unfold State.chooseItem
  rw [h]
  cases s.disp.pending.bind fun k => s.runOf (.message k) <;> simp

/-- A line that holds the choice of R140 runs the next item. -/
theorem State.runsNext_of {pending : Option MsgKey} {next : Option Item}
    (hr : s.disp.running = (pending.bind fun k => s.runOf (.message k)).or
      ((next.or s.rotation.head?).bind s.runOf))
    (hp : s.disp.pending = if (pending.bind fun k => s.runOf (.message k)).isSome then none else pending)
    (hn : ∀ x ∈ next, (s.runOf x).isSome = true) : s.RunsNext pending next := by
  have starts {x : Item} (h : (s.runOf x).isSome = true) : s.StartsItem x (s.runOf x) := by
    obtain ⟨r, hx⟩ := Option.isSome_iff_exists.mp h
    rw [hx]
    exact s.startsItem_of_runOf hx
  refine ⟨fun k hk hf => ?_, fun hf => ?_⟩
  · have some : (s.runOf (.message k)).isSome = true := by
      simpa [State.runOf, Option.isSome_iff_ne_none] using hf
    rw [Option.mem_def] at hk
    have starts := starts some
    obtain ⟨r, hx⟩ := Option.isSome_iff_exists.mp some
    rw [hr, hp, hk]
    simp only [Option.bind_some, hx, Option.some_or, Option.isSome_some, if_true, and_true]
    rwa [hx] at starts
  · have none : (pending.bind fun k => s.runOf (.message k)) = none := by
      cases pending with
      | none => rfl
      | some k => simp [State.runOf, hf k rfl]
    rw [none] at hr hp
    refine ⟨by simpa using hp, ?_⟩
    rw [Option.none_or] at hr
    cases hx : next.or s.rotation.head? with
    | none => simpa [hx] using hr
    | some x =>
      have : s.disp.running = s.runOf x := by simpa [hx] using hr
      simp only [this]
      apply starts
      rcases Option.or_eq_some_iff.mp hx with h | ⟨-, h⟩
      · exact hn x h
      · exact s.runOf_isSome_of_rotation (List.mem_of_head? h)

/-- Following the banners changes of the display the running and the pending item alone. -/
theorem State.followText_disp :
    s.followText.disp = { s.disp with
      running := s.followText.disp.running, pending := s.followText.disp.pending } := by
  unfold State.followText
  repeat' split
  all_goals simp [State.chooseItem_disp]

@[simp] theorem State.followText_kept :
    s.followText.disp.store = s.disp.store ∧ s.followText.disp.page = s.disp.page ∧
    s.followText.disp.pageTimer = s.disp.pageTimer ∧ s.followText.disp.flash = s.disp.flash ∧
    s.followText.disp.flashDue = s.disp.flashDue ∧ s.followText.disp.copies = s.disp.copies := by
  rw [s.followText_disp]
  simp

/-- `u` shows the text line that `v` follows the banners with. -/
structure State.TextOf (v u : State) : Prop where
  now : u.now = v.now
  cause : u.att.cause = v.att.cause
  breaks : u.breakRemaining = v.breakRemaining
  store : u.disp.store = v.disp.store
  running : u.disp.running = v.followText.disp.running
  pending : u.disp.pending = v.followText.disp.pending

/-- An item chosen while following is the next one by R140. -/
theorem State.TextOf.runsNext {v u : State} (h : v.TextOf u) {e : Option Item}
    (hv : v.followText = v.chooseItem e v.disp.store) :
    u.RunsNext v.disp.pending (v.itemAfter e v.disp.store) := by
  have hd := v.chooseItem_disp e v.disp.store
  have hrun : u.runOf = v.runOf := State.runOf_congr h.now h.cause h.breaks h.store
  have hrot : u.rotation = v.rotation := State.rotation_congr h.cause h.breaks h.store
  apply State.runsNext_of
  · rw [h.running, hv, hd, hrun, hrot]
  · rw [h.pending, hv, hd, hrun]
  · rw [hrun]
    exact fun x hx => v.runOf_isSome_of_itemAfter hx

/-- Everything that following the banners can make of the text line (R140 to R143). -/
theorem State.TextOf.cases {v u : State} (h : v.TextOf u) :
    let same := u.disp.running = v.disp.running ∧ u.disp.pending = v.disp.pending
    (v.running = false → same) ∧
    (v.running = true →
      (v.disp.running = none → u.RunsNext v.disp.pending none) ∧
      (∀ r ∈ v.disp.running,
        match r.item with
        | .stopBanner =>
          (∀ k ∈ u.att.cause,
            u.disp.running = some { r with text := stopText k } ∧ u.disp.pending = v.disp.pending) ∧
          (u.att.cause = none → u.RunsNext v.disp.pending
            (if u.breakRemaining.isSome then some .breakBanner else u.firstMessage))
        | .breakBanner =>
          (∀ n ∈ u.breakRemaining,
            u.disp.running = some { r with text := breakText n } ∧ u.disp.pending = v.disp.pending) ∧
          (u.breakRemaining = none → u.RunsNext v.disp.pending u.firstMessage)
        | .alert => same
        | .message _ => same)) := by
  have first : u.firstMessage = (keysOf v.disp.store).head?.map .message := by
    simp [State.firstMessage, h.store, keysOf, List.head?_map, Function.comp_def]
  refine ⟨fun hr => ?_, fun hr => ⟨fun hd => ?_, fun r hd => ?_⟩⟩
  · have : v.followText = v := by simp [State.followText, hr]
    rw [h.running, h.pending, this]
    exact ⟨rfl, rfl⟩
  · exact h.runsNext (e := none) (by simp [State.followText, hr, hd])
  · rw [Option.mem_def] at hd
    split
    · next hi =>
      refine ⟨fun k hk => ?_, fun hk => ?_⟩
      · have hk : v.att.cause = some k := by rw [← h.cause]; exact hk
        have : v.followText = v.setDisp { v.disp with running := some { r with text := stopText k } } := by
          simp [State.followText, hr, hd, hi, hk]
        rw [h.running, h.pending, this]
        simp
      · have hk : v.att.cause = none := by rw [← h.cause]; exact hk
        rw [first, h.breaks]
        exact h.runsNext (e := some .stopBanner) (by simp [State.followText, hr, hd, hi, hk])
    · next hi =>
      refine ⟨fun k hk => ?_, fun hk => ?_⟩
      · have hk : v.breakRemaining = some k := by rw [← h.breaks]; exact hk
        have : v.followText = v.setDisp { v.disp with running := some { r with text := breakText k } } := by
          simp [State.followText, hr, hd, hi, hk]
        rw [h.running, h.pending, this]
        simp
      · have hk : v.breakRemaining = none := by rw [← h.breaks]; exact hk
        rw [first]
        exact h.runsNext (e := some .breakBanner) (by simp [State.followText, hr, hd, hi, hk])
    · next hi =>
      have : v.followText = v := by simp [State.followText, hr, hd, hi]
      rw [h.running, h.pending, this]
      exact ⟨rfl, rfl⟩
    · next hi =>
      have : v.followText = v := by simp [State.followText, hr, hd, hi]
      rw [h.running, h.pending, this]
      exact ⟨rfl, rfl⟩

end Sys2Proof.Machine
end

section
namespace Sys2Proof.Machine

variable (s : State)

/-! ## Handing on as a whole -/

/-- The state the attributor is handed: hold output, derived times, dormant count and own zone record have
followed. -/
def State.monitored (s : State) : State := s.followHold.retime.followDormant.followOwn

theorem State.handOn_of_monitored :
    s.handOn = s.monitored.followCause.handDowntime.followText.followPages := rfl

@[simp] theorem State.monitored_frame :
    s.monitored.pending = s.pending ∧ s.monitored.now = s.now ∧ s.monitored.mode = s.mode ∧
    s.monitored.cfg = s.cfg ∧ s.monitored.pins = s.pins ∧ s.monitored.calls = s.calls ∧
    s.monitored.att = s.att ∧ s.monitored.ret = s.ret ∧ s.monitored.check = s.check ∧
    s.monitored.clock = s.clock ∧ s.monitored.pace = s.pace ∧ s.monitored.req = s.req ∧
    s.monitored.disp = s.followHold.disp ∧ s.monitored.sec = s.followHold.retime.sec ∧
    s.monitored.table.entries = s.table.entries ∧ s.monitored.table.mirrored = s.table.mirrored ∧
    s.monitored.table.starved = s.table.starved ∧ s.monitored.table.blocked = s.table.blocked ∧
    s.monitored.table.clash = s.table.clash ∧ s.monitored.bus.trouble = s.bus.trouble := by
  simp [State.monitored]

/-- Handing on leaves these blocks as the attributor finds them. -/
theorem State.handOn_blocks :
    s.handOn.out = { s.out with hold := s.holdWanted } ∧ s.handOn.sec = s.followHold.retime.sec ∧
    s.handOn.table = s.monitored.table ∧ s.handOn.att = s.monitored.followCause.att ∧
    s.handOn.ret = s.monitored.followCause.ret ∧ s.handOn.check = s.monitored.followCause.check ∧
    s.handOn.bus = s.monitored.bus ∧ s.handOn.start = s.followHold.retime.followDormant.start := by
  rw [s.handOn_of_monitored]
  simp [State.monitored, State.followHold_outputs]

theorem State.followDormant_start :
    s.followDormant.start = { s.start with dormantCount :=
      if s.mode = .standby ∧ (s.calls.list ≠ [] ∨ s.calls.overflow ≠ none) then 0
      else s.start.dormantCount } := by
  have e : (!s.calls.list.isEmpty || s.calls.overflow.isSome) = true ↔
      s.calls.list ≠ [] ∨ s.calls.overflow ≠ none := by
    cases s.calls.list <;> cases s.calls.overflow <;> simp
  unfold State.followDormant
  simp only [e]
  split <;> simp

/-- In STANDBY the dormant count is 0 while the list holds a call or the overflow hold is set (R195). -/
theorem State.handOn_start :
    s.handOn.start = { s.start with dormantCount :=
      if s.mode = .standby ∧ (s.calls.list ≠ [] ∨ s.calls.overflow ≠ none) then 0
      else s.start.dormantCount } := by
  simp [State.handOn_blocks, State.followDormant_start]

/-- What handing on leaves of the retained area but record and interval. -/
@[simp] theorem State.handOn_ret_frame :
    s.handOn.ret.last = s.ret.last ∧ s.handOn.ret.shift = s.ret.shift ∧
    s.handOn.ret.serial = s.ret.serial ∧ s.handOn.ret.actual = s.ret.actual ∧
    s.handOn.ret.peak = s.ret.peak ∧ s.handOn.ret.car = s.ret.car := by
  simp [State.handOn_blocks]

/-- The inputs the attributor evaluates are those that stand at the end (R64). -/
theorem State.handOn_attInputs : s.handOn.attInputs = s.monitored.attInputs := by
  apply State.attInputs_congr <;> simp [State.handOn_blocks]
  simp [State.followCause_att, State.copyInputs_att]

theorem State.handOn_readBack : s.handOn.att.readBack = s.att.readBack := by
  simp [State.handOn_blocks, State.followCause_att, State.copyInputs_att]

theorem State.monitored_attInputs (hv : s.followHold.retime.sec.motion = s.sec.motion) :
    s.monitored.attInputs = s.attInputs := by
  apply State.attInputs_congr <;> simp [hv]

theorem State.handOn_ownRecord : s.handOn.ownRecord = s.followHold.retime.followDormant.ownRecord := by
  apply State.ownRecord_congr <;> simp [State.handOn_blocks]

/-- The own zone record of an awake board that is no mirror is the composed one (R55). -/
theorem State.handOn_table :
    s.handOn.table = { s.table with own :=
      if s.mode.awake = true ∧ s.mirror = false then s.handOn.ownRecord else s.table.own } := by
  rw [s.handOn_ownRecord]
  have h := s.followHold.retime.followDormant.followOwn_table
  rw [State.mirror_congr (s := s) (by simp)] at h
  simpa [State.monitored, State.handOn_blocks] using h

/-- A change of the own zone record marks the STATUS slot and nothing else (R56). -/
theorem State.handOn_bus :
    s.handOn.bus = { s.bus with status :=
      if s.handOn.table.own = s.table.own ∨ s.running = false ∨ s.mirror = true then s.bus.status
      else s.bus.status.mark } := by
  have h := s.followHold.retime.followDormant.followOwn_bus
  rw [State.mirror_congr (s := s) (by simp), State.running_congr (s := s) (by simp)] at h
  simpa [State.monitored, State.handOn_blocks] using h

theorem State.handOn_pace :
    s.handOn.pace = { s.pace with
      downtime := if s.mode.awake = true then s.handOn.ret.downtime else s.pace.downtime } := by
  rw [s.handOn_of_monitored]
  simp [State.handDowntime_pace]

theorem State.handOn_cause :
    s.handOn.att.cause = if s.mode = .shift then evaluate s.cfg s.handOn.attInputs else none := by
  simp only [State.handOn_blocks, State.followCause_att, s.handOn_attInputs, State.monitored_frame]

/-- In SHIFT the open interval has the cause's key at the end of a command (R71). -/
theorem State.handOn_key (m : s.mode = .shift) :
    s.handOn.ret.interval.map (fun i => i.key) = s.handOn.att.cause := by
  rw [s.handOn_cause, if_pos m, s.handOn_attInputs, (s.handOn_blocks).2.2.2.2.1,
    s.monitored.followCause_key (by simpa using m)]
  simp

/-- What the end of a command makes of record and interval. -/
theorem State.handOn_ret :
    s.handOn.ret =
      if s.mode = .shift ∧ s.ret.interval.map (fun i => i.key) ≠ s.handOn.att.cause then
        { s.ret.closeInterval with
          interval := s.handOn.att.cause.map (fun k => ⟨k, 0, s.att.carried == some k⟩) }
      else s.ret := by
  by_cases m : s.mode = .shift
  · have carried (k : CauseKey) (h : evaluate s.cfg s.monitored.attInputs = some k) :
        s.monitored.copyInputs.att.carried = s.att.carried := by
      have : s.monitored.ownMotion = .stopped := by
        by_contra hm
        rw [evaluate, if_pos (.inl hm)] at h
        exact absurd h (by simp)
      simp [State.copyInputs_att, this]
    have cause : s.handOn.att.cause = evaluate s.cfg s.monitored.attInputs := by
      rw [s.handOn_cause, if_pos m, s.handOn_attInputs]
    rw [cause, (s.handOn_blocks).2.2.2.2.1, State.followCause_ret]
    simp only [State.monitored_frame, m, true_and]
    split
    · congr 1
      cases h : evaluate s.cfg s.monitored.attInputs with
      | none => rfl
      | some k => simp [carried k h]
    · rfl
  · rw [(s.handOn_blocks).2.2.2.2.1, State.followCause_ret]
    simp [m]

theorem State.handOn_check :
    (s.handOn.ret = s.ret → s.handOn.check = s.check) ∧
    (s.handOn.ret ≠ s.ret → s.handOn.check = checkWordOf s.handOn.ret) := by
  have h := s.monitored.followCause_check
  simpa [State.handOn_blocks] using h

/-- The key carried over a warm restart is given up while MOVING and when an interval opens (R84). -/
theorem State.handOn_carried :
    (s.handOn.ownMotion = .moving → s.handOn.att.carried = none) ∧
    (s.mode = .shift → s.ret.interval.map (fun i => i.key) ≠ s.handOn.att.cause →
      s.handOn.att.cause ≠ none → s.handOn.att.carried = none) ∧
    (s.handOn.ownMotion ≠ .moving → s.mode ≠ .shift → s.handOn.att.carried = s.att.carried) := by
  have motion : s.handOn.ownMotion = s.monitored.ownMotion := by
    apply State.ownMotion_congr <;> simp [State.handOn_blocks]
  have cause (m : s.mode = .shift) : s.handOn.att.cause = evaluate s.cfg s.monitored.attInputs := by
    rw [s.handOn_cause, if_pos m, s.handOn_attInputs]
  rw [motion]
  refine ⟨fun h => ?_, fun m h k => ?_, fun h m => ?_⟩
  · simp [State.handOn_blocks, State.followCause_att, State.copyInputs_att, h]
  · rw [cause m] at h k
    simp [State.handOn_blocks, State.followCause_att, m, h, Option.isSome_iff_ne_none, k]
  · simp [State.handOn_blocks, State.followCause_att, State.copyInputs_att, m, h]

/-- The text line at the end of a command follows the banners from what the hold output leaves. -/
theorem State.handOn_text : s.monitored.followCause.handDowntime.TextOf s.handOn where
  now := by simp
  cause := by simp [State.handOn_blocks]
  breaks := by apply State.breakRemaining_congr <;> simp
  store := by rw [s.handOn_of_monitored]; simp
  running := by rw [s.handOn_of_monitored]; simp
  pending := by rw [s.handOn_of_monitored]; simp

end Sys2Proof.Machine
end

section
namespace Sys2Proof.Machine

variable (s : State)

/-! ## The redraw -/

/-- A redraw changes of the display copies, picture and link alone. -/
theorem State.redraw_disp :
    s.redraw.disp = { s.disp with
      copies := s.redraw.disp.copies, picture := s.redraw.disp.picture, link := s.redraw.disp.link } := by
  unfold State.redraw
  dsimp only
  repeat' split
  all_goals simp

@[simp] theorem State.redraw_kept :
    s.redraw.disp.store = s.disp.store ∧ s.redraw.disp.running = s.disp.running ∧
    s.redraw.disp.pending = s.disp.pending ∧ s.redraw.disp.page = s.disp.page ∧
    s.redraw.disp.pageTimer = s.disp.pageTimer ∧ s.redraw.disp.flash = s.disp.flash ∧
    s.redraw.disp.flashDue = s.disp.flashDue ∧ s.redraw.out.hold = s.out.hold := by
  rw [s.redraw_disp, s.redraw_value.2.2]
  simp

/-- The display's inputs depend on these fields alone (R127). -/
theorem State.dispInputs_congr {s u : State} (hm : u.mode = s.mode) (hc : u.cfg = s.cfg)
    (hl : u.calls = s.calls) (hs : u.sec = s.sec) (hz : u.table = s.table)
    (ha : u.att.cause = s.att.cause) (hk : u.clock = s.clock) (hr : u.ret = s.ret)
    (hp : u.pace = s.pace) (hb : u.bus.trouble = s.bus.trouble) (hh : u.start.halt = s.start.halt)
    (hbp : u.start.bpol = s.start.bpol) : u.dispInputs = s.dispInputs := by
  have hl1 : u.calls.list = s.calls.list := by rw [hl]
  have hl2 : u.calls.overflow = s.calls.overflow := by rw [hl]
  have hz1 : u.table.mirrored = s.table.mirrored := by rw [hz]
  have hz2 : u.table.entries = s.table.entries := by rw [hz]
  have hr1 : u.ret.shift = s.ret.shift := by rw [hr]
  have hr2 : u.ret.serial = s.ret.serial := by rw [hr]
  have hfig : u.handedFigures = s.handedFigures := by
    simp only [State.handedFigures, State.figures, State.pastPlan, hm, hr, hp, hk]
  simp only [State.dispInputs, State.running_congr hm, State.mirror_congr hc,
    State.ownMotion_congr hc hz1 (by rw [hs]), State.zoneCondition_congr hm hc hl1 hl2,
    State.stopLines_congr hm hc hl1 hl2 hz1 hz2 hr1 hr2, State.inBreak_congr hm hk hr1,
    State.breakRemaining_congr hm hk hr1, State.timeOfDay, State.usablePlan_congr hk hr1, hfig,
    hm, hc, hl, hs, hz, ha, hk, hb, hh, hbp]

theorem State.redraw_dispInputs : s.redraw.dispInputs = s.dispInputs := by
  apply State.dispInputs_congr <;> simp

/-- The picture depends on the copies and on page, running item and flash phase alone (R129). -/
theorem render_congr (c : DispInputs) {d e : Display} (hp : d.page = e.page)
    (hr : d.running = e.running) (hf : d.flash = e.flash) : render c d = render c e := by
  simp [render, hp, hr, hf]

/-- What is shown after a redraw is what the rules make of the state (R127 to R136). -/
theorem State.redraw_shown : s.redraw.ShownFollows := by
  obtain ⟨-, hp, ho⟩ := s.redraw_value
  rw [State.ShownFollows, s.redraw_dispInputs, hp, ho]
  exact ⟨render_congr _ (by simp) (by simp) (by simp), rfl, rfl, rfl, by
    simp [State.dispInputs, State.running]⟩

/-- Drawn once from a state whose link is that of `b` (R129). -/
theorem State.linkFollows_of {b u : State}
    (h : u.disp.link = if u.disp.picture = b.disp.picture ∨ u.mode = .loading then b.disp.link
      else b.disp.link.send u.disp.picture) : b.LinkFollows u := by
  refine ⟨fun k => by rw [h, if_pos k], fun hp hm => ?_⟩
  rw [h, if_neg (by simp [hp, hm])]
  cases hs : b.disp.link.sending <;> simp [Link.send, hs]

theorem State.redraw_linkFollows : s.LinkFollows s.redraw := by
  apply State.linkFollows_of
  simpa using s.redraw_link

theorem State.redrawnFrom_redraw : s.RedrawnFrom s.redraw := by
  refine ⟨?_, s.redraw_linkFollows⟩
  have ho : s.redraw.out.hold = s.out.hold := by simp
  rw [← s.redraw_disp, ← ho]
  rfl

/-! ## The end of a command -/

/-- The redraw at the end of a command leaves what handing on made of every block but the display. -/
@[simp] theorem State.finish_blocks :
    s.finish.sec = s.handOn.sec ∧ s.finish.table = s.handOn.table ∧ s.finish.att = s.handOn.att ∧
    s.finish.ret = s.handOn.ret ∧ s.finish.check = s.handOn.check ∧ s.finish.pace = s.handOn.pace ∧
    s.finish.bus = s.handOn.bus ∧ s.finish.start = s.handOn.start ∧
    s.finish.disp.running = s.handOn.disp.running ∧ s.finish.disp.pending = s.handOn.disp.pending ∧
    s.finish.disp.page = s.handOn.disp.page ∧ s.finish.disp.pageTimer = s.handOn.disp.pageTimer ∧
    s.finish.disp.store = s.handOn.disp.store ∧ s.finish.disp.flash = s.handOn.disp.flash ∧
    s.finish.disp.flashDue = s.handOn.disp.flashDue ∧ s.finish.out.hold = s.handOn.out.hold := by
  simp [State.finish]

@[simp] theorem State.handOn_kept :
    s.handOn.disp.store = s.disp.store ∧ s.handOn.disp.flash = s.disp.flash ∧
    s.handOn.disp.flashDue = s.disp.flashDue ∧ s.handOn.out.hold = s.holdWanted ∧
    s.handOn.table.entries = s.table.entries ∧ s.handOn.table.mirrored = s.table.mirrored ∧
    s.handOn.table.starved = s.table.starved ∧ s.handOn.table.blocked = s.table.blocked ∧
    s.handOn.table.clash = s.table.clash ∧ s.handOn.bus.trouble = s.bus.trouble ∧
    s.handOn.att.readBack = s.att.readBack ∧ s.handOn.start.halt = s.start.halt ∧
    s.handOn.start.bpol = s.start.bpol := by
  refine ⟨?_, ?_, ?_, ?_⟩
  · rw [s.handOn_of_monitored]; simp
  · rw [s.handOn_of_monitored]; simp
  · rw [s.handOn_of_monitored]; simp
  · rw [s.handOn_readBack]
    simp [State.handOn_blocks, State.followDormant_start]

theorem State.handOn_holdWanted : s.handOn.holdWanted = s.holdWanted := by
  apply State.holdWanted_congr <;> simp

/-- The hold output after the end of a command is the one R20 gives. -/
theorem State.finish_holdFollows : s.finish.HoldFollows := by
  have : s.finish.holdWanted = s.holdWanted := by apply State.holdWanted_congr <;> simp
  simp [State.HoldFollows, this]

theorem State.finish_shown : s.finish.ShownFollows := s.handOn.redraw_shown

theorem State.finish_linkFollows : s.LinkFollows s.finish := by
  apply State.linkFollows_of
  simpa using s.finish_link

theorem State.finish_attInputs : s.finish.attInputs = s.handOn.attInputs := by
  apply State.attInputs_congr <;> simp

theorem State.finish_ownRecord : s.finish.ownRecord = s.handOn.ownRecord := by
  apply State.ownRecord_congr <;> simp

theorem State.finish_ownMotion : s.finish.ownMotion = s.handOn.ownMotion := by
  apply State.ownMotion_congr <;> simp

theorem State.finish_currentTimes : s.finish.currentTimes = s.currentTimes := by
  apply State.currentTimes_congr <;> simp

theorem State.finish_stopLines : s.finish.stopLines = s.handOn.stopLines := by
  apply State.stopLines_congr <;> simp

/-- The cause is the evaluation's result, and in SHIFT the open interval's key (R64, R71). -/
theorem State.finish_cause :
    (s.mode = .shift → s.finish.att.cause = evaluate s.finish.cfg s.finish.attInputs ∧
      s.finish.ret.interval.map (fun i => i.key) = s.finish.att.cause) ∧
    (s.mode ≠ .shift → s.finish.att.cause = none) := by
  refine ⟨fun m => ⟨?_, ?_⟩, fun m => ?_⟩
  · simp [State.finish_attInputs, s.handOn_cause, m]
  · simpa using s.handOn_key m
  · simp [s.handOn_cause, m]

/-- The own zone record is the one its sources compose, kept where the board composes none (R53, R55). -/
theorem State.finish_own :
    (s.mode.awake = true → s.mirror = false → s.finish.table.own = s.finish.ownRecord) ∧
    (s.mode.awake = false ∨ s.mirror = true → s.finish.table.own = s.table.own) := by
  rw [s.finish_ownRecord, (s.finish_blocks).2.1, s.handOn_table]
  refine ⟨fun h m => by simp [h, m], ?_⟩
  rintro (h | h) <;> simp [h]

/-- A change of the derived times and what it does to the motion (R28). -/
theorem State.handOn_times (h : s.running = true) :
    s.handOn.sec.times = s.currentTimes ∧
    (s.sec.times ≠ s.currentTimes →
      (s.sec.motion ≠ .stopped → ∀ t ∈ s.sec.stopTimer,
        t + s.currentTimes.stopDetect * 1000 < s.now →
        s.handOn.sec.motion = .stopped ∧ s.handOn.sec.stopTimer = none ∧
        s.handOn.sec.holdTimer = none ∧ s.handOn.sec.holdFail = false) ∧
      ((∀ t ∈ s.sec.stopTimer, s.now ≤ t + s.currentTimes.stopDetect * 1000) →
        s.handOn.sec.motion = s.sec.motion ∧ s.handOn.sec.stopTimer = s.sec.stopTimer)) := by
  have hr : s.followHold.running = true := by rw [State.running_congr (s := s) (by simp), h]
  have hc : s.followHold.currentTimes = s.currentTimes := by
    apply State.currentTimes_congr <;> simp
  rw [(s.handOn_blocks).2.1]
  refine ⟨by rw [(s.followHold.retime_value hr).1, hc], fun ht => ?_⟩
  obtain ⟨hpass, hnot⟩ := s.followHold.retime_sec hr (by simpa [hc] using ht)
  refine ⟨fun hm t hs hd => ?_, fun hall => ?_⟩
  · rw [hpass ⟨by simpa using hm, t, by simpa using hs, by simpa [hc, msec] using hd⟩]
    simp
  · rw [hnot]
    · simp
    · rintro ⟨-, t, hs, hd⟩
      have := hall t (by simpa using hs)
      have hd : t + s.currentTimes.stopDetect * 1000 < s.now := by simpa [hc, msec] using hd
      exact absurd hd (Nat.not_lt.mpr this)

/-- Derived times that stand leave the section monitor alone but for the hold check (R27). -/
theorem State.handOn_sec_of_times (h : s.sec.times = s.currentTimes ∨ s.running = false) :
    s.handOn.sec = s.followHold.sec := by
  have hc : s.followHold.currentTimes = s.currentTimes := by
    apply State.currentTimes_congr <;> simp
  rw [(s.handOn_blocks).2.1, State.retime_unchanged]
  rw [State.running_congr (s := s) (by simp), hc]
  simpa using h.symm

/-- Handing on changes of the section monitor derived times, motion and timers alone. -/
theorem State.handOn_sec :
    s.handOn.sec = { s.sec with
      times := s.handOn.sec.times, gapChange := s.handOn.sec.gapChange, motion := s.handOn.sec.motion
      stopTimer := s.handOn.sec.stopTimer, holdTimer := s.handOn.sec.holdTimer
      holdFail := s.handOn.sec.holdFail } := by
  have hold : s.followHold.sec = { s.sec with
      holdTimer := s.followHold.sec.holdTimer, holdFail := s.followHold.sec.holdFail } := by
    rw [s.followHold_sec]
    repeat' split
    all_goals rfl
  by_cases h : s.followHold.running = false ∨ s.followHold.sec.times = s.followHold.currentTimes
  · rw [(s.handOn_blocks).2.1, State.retime_unchanged _ h]
    rw [hold]
  · simp only [not_or, Bool.not_eq_false] at h
    obtain ⟨hpass, hnot⟩ := s.followHold.retime_sec h.1 h.2
    rw [(s.handOn_blocks).2.1]
    by_cases p : SectionMonitor.stopPassed { s.followHold.sec with
      times := s.followHold.currentTimes
      gapChange := some (s.followHold.now, s.followHold.sec.gapAt s.followHold.now) } s.followHold.now
    · rw [hpass p, hold]
    · rw [hnot p, hold]

end Sys2Proof.Machine
end

section
namespace Sys2Proof.Machine

variable (s : State)

/-! ## What the end of a command may change -/

/-- A hold start event is the only thing that handing on the hold output changes of the text line. -/
theorem State.followHold_running :
    (s.out.hold = false ∧ s.holdWanted = true → ∃ h ∈ s.ownHolder,
      s.followHold.disp.running = some (alertRun s.cfg.zone h.kind s.now)) ∧
    (¬ (s.out.hold = false ∧ s.holdWanted = true) →
      s.followHold.disp.running = s.disp.running) := by
  rw [s.followHold_disp]
  refine ⟨fun ⟨ho, hw⟩ => ?_, fun h => ?_⟩
  · obtain ⟨h, hh⟩ := Option.isSome_iff_exists.mp (s.ownHolder_isSome hw)
    exact ⟨h, hh, by simp [hh, ho]⟩
  · cases hh : s.ownHolder with
    | none => rfl
    | some x =>
      have hw : s.holdWanted = true := by
        by_contra hn
        simp [State.ownHolder, hn] at hh
      have ho : s.out.hold = true := by simpa [hw] using h
      simp [ho]

/-- The text line at the end of a command (R140 to R144). -/
theorem State.finish_textFollows : s.TextFollows s.finish := by
  have text := s.handOn_text
  have ends : s.monitored.followCause.handDowntime.TextOf s.finish := {
    now := by rw [← text.now]; simp
    cause := by rw [← text.cause]; simp
    breaks := by rw [← text.breaks]; apply State.breakRemaining_congr <;> simp
    store := by rw [← text.store]; simp
    running := by rw [← text.running]; simp
    pending := by rw [← text.pending]; simp }
  obtain ⟨still, runs⟩ := ends.cases
  have hrun : s.monitored.followCause.handDowntime.running = s.running := by
    apply State.running_congr; simp
  have hdisp : s.monitored.followCause.handDowntime.disp = s.followHold.disp := by simp
  rw [hrun, hdisp, s.followHold_kept.2.1] at still runs
  obtain ⟨alert, kept⟩ := s.followHold_running
  refine ⟨fun hr => ?_, fun ha => ?_, fun hr ha => ?_⟩
  · have hw : ¬ (s.out.hold = false ∧ s.holdWanted = true) := by
      rw [State.holdWanted_iff]
      simp [hr]
    rw [kept hw] at still
    exact still hr
  · obtain ⟨h, hh, hd⟩ := alert ha
    have hr := (s.holdWanted_iff.mp ha.2).1
    have := (runs hr).2 _ hd
    exact ⟨h, hh, by rw [this.1, hd], this.2⟩
  · rw [kept ha] at runs
    exact runs hr

/-- Every block follows the command, and nothing else changes (log 10). -/
theorem State.followedFrom_finish : s.FollowedFrom s.finish := by
  have hret : s.finish.ret = s.handOn.ret := by simp
  refine ⟨by simp, by simp, by simp, by simp, by simp, by simp, by simp, by simp, ?_, ?_, ?_, ?_, by simp,
    ?_, ?_, ?_, ?_, ?_, ?_, by simp, by simp, by simp, s.finish_textFollows, s.finish_linkFollows, ?_, ?_⟩
  · simpa using s.handOn_sec
  · intro h
    have hsec := s.handOn_sec_of_times h
    refine ⟨by simp [hsec], by simp [hsec], by simp [hsec], by simp [hsec], fun ho => ?_⟩
    simp [hsec, s.followHold_unchanged ho]
  · simp [s.handOn_table]
  · simpa using s.handOn_bus
  · rw [hret, s.handOn_ret]
    split
    · conv_lhs => rw [s.ret.closeInterval_frame]
    · rfl
  · intro h
    rw [hret] at h ⊢
    rcases h with h | h
    · simp [s.handOn_ret, h]
    · by_cases m : s.mode = .shift
      · rw [s.handOn_key m] at h
        simp [s.handOn_ret, h]
      · simp [s.handOn_ret, m]
  · rw [hret, s.handOn_ret]
    split
    · exact s.ret.closeInterval_counts
    · rfl
  · simpa using s.handOn_check.1
  · simpa using s.handOn_check.2
  · simp [s.handOn_pace]
  · simp [s.handOn_start]
  · simp only [State.finish_blocks, s.handOn_start]
    split
    · exact .inr rfl
    · exact .inl rfl

/-- Closing the open interval charges it to the current record, if both stand (R77). -/
theorem Retained.closeInterval_current (r : Retained) :
    (∀ i ∈ r.interval, r.closeInterval.current = r.current.map (fun c => c.close_ i)) ∧
    (r.interval = none → r.closeInterval.current = r.current) := by
  refine ⟨fun i hi => ?_, fun hi => ?_⟩
  · rw [Option.mem_def] at hi
    simp [Retained.closeInterval, hi]
  · simp [Retained.closeInterval, hi]

/-- A change of the cause in SHIFT closes the open interval into the record and opens the new one, charged
where it is the first of the carried key (R71, R77, R84). -/
theorem State.finish_intervals (m : s.mode = .shift)
    (h : s.ret.interval.map (fun i => i.key) ≠ s.finish.att.cause) :
    (∀ i ∈ s.ret.interval, s.finish.ret.current = s.ret.current.map (fun r => r.close_ i)) ∧
    (s.ret.interval = none → s.finish.ret.current = s.ret.current) ∧
    (∀ k ∈ s.finish.att.cause,
      s.finish.ret.interval = some ⟨k, 0, s.att.carried == some k⟩ ∧ s.finish.att.carried = none) := by
  have hatt : s.finish.att = s.handOn.att := by simp
  have hret : s.finish.ret = s.handOn.ret := by simp
  rw [hatt] at h ⊢
  have hr : s.handOn.ret = { s.ret.closeInterval with
      interval := s.handOn.att.cause.map (fun k => ⟨k, 0, s.att.carried == some k⟩) } := by
    rw [s.handOn_ret, if_pos ⟨m, h⟩]
  rw [hret, hr]
  refine ⟨s.ret.closeInterval_current.1, s.ret.closeInterval_current.2, fun k hk => ?_⟩
  rw [Option.mem_def] at hk
  exact ⟨by simp [hk], s.handOn_carried.2.1 m h (by simp [hk])⟩

/-- The stop-list pages follow the list as it stands at the end of a command (R137). -/
theorem State.finish_pages (h : s.running = true) :
    let pages := (s.finish.stopLines.length + 2) / 3
    (pages ≤ 1 → s.finish.disp.page = 1 ∧ s.finish.disp.pageTimer = none) ∧
    (2 ≤ pages → s.disp.pageTimer = none →
      s.finish.disp.page = 1 ∧ s.finish.disp.pageTimer = some (s.now + 4000000)) ∧
    (2 ≤ pages → s.disp.pageTimer ≠ none →
      s.finish.disp.page = (if pages < s.disp.page then 1 else s.disp.page) ∧
      s.finish.disp.pageTimer = s.disp.pageTimer) := by
  set w := s.monitored.followCause.handDowntime.followText with hw
  have hlines : w.stopLines = s.finish.stopLines := by
    apply Eq.symm
    apply State.stopLines_congr <;> simp [hw]
  have hrun : w.running = true := by rw [← h]; apply State.running_congr; simp [hw]
  have hdisp : s.handOn.disp = w.followPages.disp := by rw [s.handOn_of_monitored]
  have hpage : w.disp.page = s.disp.page ∧ w.disp.pageTimer = s.disp.pageTimer ∧ w.now = s.now := by
    simp [hw]
  obtain ⟨hp, ht, hn⟩ := hpage
  simp only [State.finish_blocks, hdisp, w.followPages_disp, hrun, if_true, hlines, pagesOf, hp, ht, hn]
  generalize (s.finish.stopLines.length + 2) / 3 = pages
  refine ⟨fun k => by simp [k], fun k hnone => ?_, fun k hsome => ?_⟩
  · rw [if_neg (by omega), hnone]
    exact ⟨rfl, rfl⟩
  · obtain ⟨d, hd⟩ := Option.ne_none_iff_exists'.mp hsome
    rw [if_neg (by omega), hd]
    exact ⟨rfl, rfl⟩

end Sys2Proof.Machine

open Sys2Proof Sys2Proof.Machine

/-- Settles O4, block by block: what each block makes of the state it is handed, from the state as the
command leaves it. -/
theorem endOfCommand : Obligations.EndOfCommand := by
  intro b
  have times := b.handOn_times
  obtain ⟨inShift, noShift⟩ := b.finish_cause
  refine ⟨b.followedFrom_finish, b.finish_holdFollows, b.finish_own.1, b.finish_own.2,
    fun m => ⟨(inShift m).1, (inShift m).2, b.finish_intervals m⟩, ?_, noShift, fun hr => ⟨?_, ?_, ?_⟩, ?_,
    b.finish_shown, b.finish_linkFollows⟩
  · rw [b.finish_ownMotion]
    simpa using b.handOn_carried.1
  · simpa [b.finish_currentTimes] using (times hr).1
  · intro ht
    simpa [(times hr).1] using (times hr).2 ht
  · exact b.finish_pages hr
  · intro ha
    simp [b.handOn_pace, ha]
end

section
open Sys2Proof Sys2Proof.Machine

/-! ## The state after power-on -/

/-- Settles O2: power-on gives every field that the chapters name its value. -/
theorem resetValues : Obligations.ResetValues := by
  unfold Obligations.ResetValues
  repeat' apply And.intro
  all_goals decide +kernel

/-- Settles O3, law by law on the one state after power-on. -/
theorem resetIsSound : Obligations.ResetIsSound where
  atRest := by decide +kernel
  cfgOk := by decide +kernel
  holdFollows := by decide +kernel
  callsOk := by decide +kernel
  dormantOk := by decide +kernel
  sectionOk := by decide +kernel
  tableOk := by decide +kernel
  ownFollows := by decide +kernel
  causeFollows := by decide +kernel
  recordsOk := by decide +kernel
  shiftOk := by decide +kernel
  clockOk := by decide +kernel
  paceOk := by decide +kernel
  storeOk := by decide +kernel
  shownFollows := by decide +kernel
  slotsOk := by decide +kernel
  generatorOk := by decide +kernel
  mirrorQuiet := by decide +kernel

end

section
namespace Sys2Proof.Machine

variable (s : State)

/-! ## The display's timers -/

theorem nextPage_value (page pages : Nat) :
    nextPage page pages = if page < pages then page + 1 else 1 := by
  unfold nextPage
  split <;> split <;> omega

theorem due_iff (d now : Time) : due (some d) now = true ↔ d ≤ now := by simp [due]

end Sys2Proof.Machine

open Sys2Proof Sys2Proof.Machine

/-- Settles O47: each timer's command replaces the field it is about and redraws. -/
theorem displayTimersExpire : Obligations.DisplayTimersExpire := by
  intro t d s b pages hd
  refine ⟨fun hr hf => ?_, fun hr hp => ?_, fun hs => ?_, fun hc => ?_⟩
  · have ran : exec (.flashPhaseChange t) s = .next b.changeFlash :=
      congrArg Host.Outcome.next (if_pos (by rw [hr, hf, Bool.true_and]; exact decide_eq_true hd))
    refine ⟨_, ran, ?_, ?_, State.redraw_shown _, ?_⟩
    · simp [State.changeFlash]
    · simp [State.changeFlash, hf, flashTime, msec]
    · have fields : b.changeFlash.disp.flash = (!b.disp.flash) ∧
          b.changeFlash.disp.flashDue = b.disp.flashDue.map (fun d => d + flashTime) := by
        simp [State.changeFlash]
      rw [fields.1, fields.2]
      exact State.redrawnFrom_redraw _
  · have ran : exec (.pageTimerExpiry t) s = .next (b.setDisp { b.disp with
        page := nextPage b.disp.page (pagesOf b.stopLines.length)
        pageTimer := some (b.now + pageTime) }).redraw :=
      congrArg Host.Outcome.next (if_pos (by rw [hr, hp, Bool.true_and]; exact decide_eq_true hd))
    refine ⟨_, ran, by simp [nextPage_value, pagesOf, pages], by simp [pageTime, seconds],
      State.redraw_shown _, ?_⟩
    simp only [State.redraw_kept, State.setDisp_disp]
    exact State.redrawnFrom_redraw _
  · have ran : exec (.holdSoundEnd t) s = .next (b.setCalls { b.calls with holdSound := none }).redraw :=
      congrArg Host.Outcome.next (if_pos (by rw [hs]; exact decide_eq_true hd))
    exact ⟨_, ran, by simp, State.redraw_shown _, State.redrawnFrom_redraw _⟩
  · have ran : exec (.raiseChirpEnd t) s = .next (b.setCalls { b.calls with chirp := none }).redraw :=
      congrArg Host.Outcome.next (if_pos (by rw [hc]; exact decide_eq_true hd))
    exact ⟨_, ran, by simp, State.redraw_shown _, State.redrawnFrom_redraw _⟩

end

section
namespace Sys2Proof.Machine

variable (s : State)

/-! ## Limits of calls and entries -/

theorem Cfg.timedOut_iff (c : Cfg) (x : Call) :
    c.timedOut x = true ↔ x.state = .holding ∧ x.kind ≠ .safety ∧ (c.policy x.kind).policy = .timed ∧
      (c.policy x.kind).limit ≤ x.heldFor := by
  simp [Cfg.timedOut, and_assoc]

/-- A SILENT entry made SILENT stays what it is. -/
theorem PeerEntry.silenced (e : PeerEntry) :
    (if e.overdue then { e with live := false } else e) =
      if 3 * e.refresh + 1 ≤ e.age then { e with live := false } else e := by
  unfold PeerEntry.overdue
  cases hl : e.live
  · simp [← hl]
  · simp

theorem State.expireHolds_of (hr : s.running = true)
    (hx : ∃ x ∈ s.calls.list, s.cfg.timedOut x = true) :
    s.expireHolds = (s.setCalls { s.calls with
      list := s.calls.list.map (fun x =>
        if s.cfg.timedOut x then { x with state := .overdue } else x) }).finish :=
  if_pos (by simpa [hr] using hx)

theorem State.silenceEntries_of (ha : s.mode.awake = true)
    (he : (∃ e ∈ s.table.entries, e.overdue = true) ∨ (∃ e ∈ s.table.mirrored, e.overdue = true)) :
    s.silenceEntries = (s.setTable { s.table with
      entries := s.table.entries.map (fun e => if e.overdue then { e with live := false } else e)
      mirrored := s.table.mirrored.map
        (fun e => if e.overdue then { e with live := false } else e) }).finish :=
  if_pos (by simpa [ha, Option.any_eq_true] using he)

theorem State.expireClash_of (ha : s.mode.awake = true) (hc : s.table.clash = true)
    (hn : 60 ≤ s.table.clashCount) :
    s.expireClash = (s.setTable { s.table with clash := false, clashCount := 0 }).finish :=
  if_pos (by simp [ha, hc, hn])

/-- The clash indicator of a running board shows the clash flag (R134). -/
theorem State.ShownFollows.clash (h : s.ShownFollows) (hr : s.running = true) :
    s.disp.picture.indicators.clash = s.table.clash := by
  have hl : s.mode.runs = true := hr
  rw [h.1]
  simp [render, DispInputs.lit, State.dispInputs, DispInputs.indicators, hl]

end Sys2Proof.Machine

open Sys2Proof Sys2Proof.Machine

/-- Settles O43: each limit's command replaces what the limit is about and hands on. -/
theorem limitsOfCallsAndEntries : Obligations.LimitsOfCallsAndEntries := by
  intro t s b
  refine ⟨fun hr hx => ?_, fun ha he => ?_, fun ha hc hn => ?_⟩
  · refine ⟨_, congrArg Host.Outcome.next (b.expireHolds_of hr hx), by simp [Cfg.timedOut_iff],
      State.finish_holdFollows _, ?_⟩
    simp only [State.finish_frame, State.setCalls_calls]
    exact State.followedFrom_finish _
  · refine ⟨_, congrArg Host.Outcome.next (b.silenceEntries_of ha he), by simp [PeerEntry.silenced],
      by simp [PeerEntry.silenced], ?_⟩
    simp only [State.finish_blocks, State.handOn_kept, State.setTable_table]
    exact State.followedFrom_finish _
  · refine ⟨_, congrArg Host.Outcome.next (b.expireClash_of ha hc hn), by simp, ?_, fun hr => ?_,
      State.followedFrom_finish _⟩
    · simp [State.handOn_table]
    · rw [State.ShownFollows.clash _ (State.finish_shown _)]
      · simp
      · rw [← hr]; apply State.running_congr; simp
end

section
namespace Sys2Proof.Machine

variable (s : State)

/-! ## Trackers (R2) -/

theorem State.tracker_setTracker_same (i : InputId) (x : Tracker) (h : s.calls.trackers.length = 20) :
    (s.setTracker i x).tracker i = x := by
  cases i with
  | call n =>
    have : (n : Nat) < s.calls.trackers.length := by rw [h]; exact n.isLt
    simp [State.setTracker, State.tracker, this]
  | clr => rfl
  | shst => rfl
  | shend => rfl

theorem State.tracker_setPins (i : InputId) (p : Pins) : (s.setPins p).tracker i = s.tracker i := by
  cases i <;> rfl

theorem Pins.level_setLevel_same (p : Pins) (i : InputId) (v : Bool) (h : p.call.length = 20) :
    (p.setLevel i v).level i = v := by
  cases i with
  | call n =>
    have : (n : Nat) < p.call.length := by rw [h]; exact n.isLt
    simp [Pins.setLevel, Pins.level, this]
  | clr => rfl
  | shst => rfl
  | shend => rfl

theorem Pins.level_setLevel_other (p : Pins) {i j : InputId} (v : Bool) (h : j ≠ i) :
    (p.setLevel i v).level j = p.level j := by
  cases i with
  | call n =>
    cases j with
    | call m =>
      have : (n : Nat) ≠ m := fun e => h (by rw [Fin.ext e])
      simp [Pins.setLevel, Pins.level, List.getElem?_set_ne this]
    | clr => rfl
    | shst => rfl
    | shend => rfl
  | clr => cases j <;> simp_all [Pins.setLevel, Pins.level]
  | shst => cases j <;> simp_all [Pins.setLevel, Pins.level]
  | shend => cases j <;> simp_all [Pins.setLevel, Pins.level]

/-- What a level does to the tracker of its sampled input (R2). -/
def Tracker.moved (x : Tracker) (v : Bool) (now : Time) : Tracker :=
  if v then x.activated now else x.deactivated now

theorem Tracker.moved_value (x : Tracker) (v : Bool) (now : Time) :
    (x.moved v now).last = x.last ∧
    (x.moved v now).state =
      (match x.state, v with
        | .armed, true => .qualifying (now + 50000)
        | .qualifying _, false => .armed
        | .taken, false => .releasing (now + 200000)
        | .releasing _, true => .taken
        | y, _ => y) := by
  unfold Tracker.moved
  cases v <;> cases h : x.state <;>
    simp [h, Tracker.activated, Tracker.deactivated, qualifyTime, releaseTime, msec]

/-- A level that does not change moves nothing; a new one moves its pin, and the tracker of a sampled
input. -/
theorem State.changeLevel_of (i : InputId) (v : Bool) (h : s.pins.level i = !v) :
    s.changeLevel i v =
      let w := s.setPins (s.pins.setLevel i v)
      if s.sampled i = true then w.setTracker i ((s.tracker i).moved v s.now) else w := by
  have ne : s.pins.level i ≠ v := by rw [h]; cases v <;> simp
  have sampled : (s.setPins (s.pins.setLevel i v)).sampled i = s.sampled i := by cases i <;> rfl
  unfold State.changeLevel
  rw [if_neg ne]
  simp only [sampled, s.tracker_setPins, State.setPins_now]
  rfl

/-- A qualified pull, press or pulse that counts is applied with its tracker TAKEN (R2). -/
theorem State.qualify_counted {i : InputId} (code : Nat) (h : Counted s i) :
    s.qualify i code = (s.setTracker i ⟨.taken, some s.now⟩).counted i code := by
  obtain ⟨-, hs, hq, hc⟩ := h
  simp [State.qualify, hs, hq, hc]

end Sys2Proof.Machine

open Sys2Proof Sys2Proof.Machine

/-- Settles O30, row by row of the tracker table. -/
theorem inputsMoveTracker : Obligations.InputsMoveTracker := by
  intro t d l i v c0 c1 s b hlen hpins
  refine ⟨fun hv => ?_, fun hs hd hr => ?_, fun hs hd hq hl hn => ?_⟩
  · have ran : (if v then exec (.inputActive t i) s else exec (.inputInactive t i) s) =
        .next (b.changeLevel i v) := by cases v <;> rfl
    have pins : (b.changeLevel i v).pins = b.pins.setLevel i v := by
      rw [b.changeLevel_of i v hv]
      dsimp only
      split <;> simp
    refine ⟨_, ran, ?_, fun j hj => ?_, ?_, fun hs => ?_, fun hs => ?_⟩
    · rw [pins, Pins.level_setLevel_same _ _ _ hpins]
    · rw [pins, Pins.level_setLevel_other _ _ hj]
    · rw [pins]
      cases i <;> rfl
    · rw [pins, b.changeLevel_of i v hv]
      simp [hs]
    · have moved : b.changeLevel i v =
          (b.setPins (b.pins.setLevel i v)).setTracker i ((b.tracker i).moved v b.now) := by
        rw [b.changeLevel_of i v hv]
        exact if_pos hs
      have tracker : (b.changeLevel i v).tracker i = (b.tracker i).moved v b.now := by
        rw [moved]
        exact State.tracker_setTracker_same _ i _ hlen
      rw [tracker, pins]
      exact ⟨((b.tracker i).moved_value v b.now).1, ((b.tracker i).moved_value v b.now).2, moved⟩
  · have ran : exec (.releaseTimeExpiry t i) s =
        .next (b.setTracker i { b.tracker i with state := .armed }) :=
      congrArg Host.Outcome.next (if_pos (by
        have : (b.tracker i).released b.now = true := by
          rw [Tracker.released, hr]
          exact decide_eq_true hd
        rw [hs, this]
        rfl))
    exact ⟨_, ran, rfl, by rw [State.tracker_setTracker_same _ _ _ hlen]⟩
  · have qualified : (b.tracker i).qualified b.now = true := by
      rw [Tracker.qualified, hq]
      exact decide_eq_true hd
    have early : ¬ (b.tracker i).counts b.now = true := by
      rw [Tracker.counts, hl]
      exact fun h => absurd hn (Nat.not_lt.mpr (of_decide_eq_true h))
    have ran : exec (.qualifyTimeExpiry t i c0 c1) s =
        .next (b.setTracker i { b.tracker i with state := .taken }) := by
      have : b.qualify i (shiftCode c0 c1) = b.setTracker i { b.tracker i with state := .taken } := by
        unfold State.qualify
        dsimp only
        rw [if_pos (by rw [hs, qualified]; rfl), if_neg early]
      exact congrArg Host.Outcome.next this
    exact ⟨_, ran, by rw [← hl], by rw [State.tracker_setTracker_same _ _ _ hlen]⟩
end

section
namespace Sys2Proof.Machine

variable (s : State)

/-! ## Charges of the current record (R24) -/

/-- Two changes of the retained area are one, where the second does not undo the first. -/
theorem State.setRet_setRet (x y : Retained) (h : y = s.ret → x = s.ret) :
    (s.setRet x).setRet y = s.setRet y := by
  have check : ((s.setRet x).setRet y).check = (s.setRet y).check := by
    simp only [State.setRet_check, State.setRet_ret]
    by_cases k : y = x
    · subst k; simp
    · have : y ≠ s.ret := fun e => k (e.trans (h e).symm)
      simp [k, this]
  exact congrArg (fun c => ({ s with ret := y, check := c } : State)) check

/-- Two charges are one, where the second does not undo the first. -/
theorem State.charge_charge (f g : Record → Record) (h : ∀ r, g (f r) = r → f r = r) :
    (s.charge f).charge g = s.charge (fun r => g (f r)) := by
  unfold State.charge
  by_cases m : s.mode = .shift
  · simp only [m, if_true, State.setRet_mode, State.setRet_ret, Option.map_map, Function.comp_def]
    apply State.setRet_setRet
    intro e
    have e : s.ret.current.map (fun r => g (f r)) = s.ret.current := congrArg Retained.current e
    have same : s.ret.current.map f = s.ret.current := by
      cases hc : s.ret.current with
      | none => rfl
      | some r =>
        rw [hc] at e
        simp [h r (Option.some.inj e)]
    rw [same]
  · simp [m]

theorem State.setCalls_charge (c : CallUnit) (f : Record → Record) :
    (s.charge f).setCalls c = (s.setCalls c).charge f := by
  unfold State.charge
  by_cases m : s.mode = .shift
  · simp [m]
    rfl
  · simp [m]

@[simp] theorem State.setCalls_setCalls (c d : CallUnit) : (s.setCalls c).setCalls d = s.setCalls d := rfl

theorem State.setDisp_running :
    s.setDisp { s.disp with running := s.disp.running } = s := rfl

/-- The counts a charge leaves (R24). -/
theorem State.charge_current (f : Record → Record) :
    (s.charge f).ret.current = if s.mode = .shift then s.ret.current.map f else s.ret.current := by
  unfold State.charge
  split <;> simp

theorem PerKind.set_get (p : PerKind) (k : CallKind) : p.set k (p.get k) = p := by cases k <;> rfl

theorem PerKind.get_set_same (p : PerKind) (k : CallKind) (n : Nat) : (p.set k n).get k = n := by
  cases k <;> rfl

/-- The raised count advances up to its end, the holds stay (R24). -/
theorem Record.countRaised_counts (r : Record) (k : CallKind) (h : r.raised.get k ≤ 65535) :
    (r.countRaised k).raised = r.raised.set k (min 65535 (r.raised.get k + 1)) ∧
    (r.countRaised k).holds = r.holds := by
  unfold Record.countRaised
  split
  · next hlt => simp [Record.advance, Nat.min_eq_right (show r.raised.get k + 1 ≤ 65535 by omega)]
  · next hlt =>
    have : min 65535 (r.raised.get k + 1) = r.raised.get k := by omega
    simp [this, PerKind.set_get]

/-- The holds count advances up to its end, the raised counts stay (R24). -/
theorem Record.countHold_counts (r : Record) (k : CallKind) (h : r.holds.get k ≤ 255) :
    (r.countHold k).holds = r.holds.set k (min 255 (r.holds.get k + 1)) ∧
    (r.countHold k).raised = r.raised := by
  unfold Record.countHold
  split
  · next hlt => simp [Record.advance, Nat.min_eq_right (show r.holds.get k + 1 ≤ 255 by omega)]
  · next hlt =>
    have : min 255 (r.holds.get k + 1) = r.holds.get k := by omega
    simp [this, PerKind.set_get]

theorem Record.countHold_raised (r : Record) (k : CallKind) : (r.countHold k).raised = r.raised := by
  unfold Record.countHold
  split <;> rfl

/-- A raise that counts is not undone by a hold that counts. -/
theorem Record.countRaised_of_countHold (r : Record) (j k : CallKind)
    (h : (r.countRaised k).countHold j = r) : r.countRaised k = r := by
  have raised : (r.countRaised k).raised = r.raised := by
    rw [← Record.countHold_raised (r.countRaised k) j, h]
  unfold Record.countRaised at raised ⊢
  split
  · next hlt =>
    rw [if_pos hlt] at raised
    have := congrArg (fun p => p.get k) raised
    simp [Record.advance, PerKind.get_set_same] at this
  · rfl

/-- The ranges of the counts of a sound record. -/
theorem Record.Ok.counts {r : Record} (h : r.Ok) (k : CallKind) :
    r.raised.get k ≤ 65535 ∧ r.holds.get k ≤ 255 := by
  obtain ⟨-, -, -, -, rq, rm, re, rs, hq, hm, he, hs, -⟩ := h
  cases k <;> simp [PerKind.get, *]

/-! ## The end of a command and the counts -/

theorem State.finish_counts :
    s.finish.ret.current.map (fun r => (r.raised, r.holds)) =
      s.ret.current.map (fun r => (r.raised, r.holds)) := by
  obtain ⟨-, -, -, -, -, -, -, -, -, -, -, -, -, -, -, h, -⟩ := s.followedFrom_finish
  exact h

/-- The own zone record of a running board that is no mirror follows its sources. -/
theorem State.finish_ownFollows (hr : s.running = true) (hm : s.mirror = false) : s.finish.OwnFollows := by
  have awake : s.mode.awake = true := by
    unfold State.running at hr
    cases h : s.mode <;> simp_all [Mode.runs, Mode.awake]
  refine ⟨fun _ _ => s.finish_own.1 awake hm, fun h => ?_⟩
  rw [State.mirror_congr (s := s) (by simp), hm] at h
  exact absurd h (by simp)

/-- What is shown of the horn. -/
theorem State.finish_horn (hl : s.calls.list = []) (ho : s.calls.overflow = none)
    (hs : s.calls.holdSound = none) (hc : s.calls.chirp = none) : s.finish.out.horn = false := by
  obtain ⟨-, -, -, -, horn⟩ := s.finish_shown
  rw [horn]
  simp [CallUnit.hornRequested, hl, ho, hs, hc]

theorem State.holdWanted_of_empty (hl : s.calls.list = []) (ho : s.calls.overflow = none) :
    s.holdWanted = false := by
  simp [State.holdWanted, hl, ho]

theorem State.zoneCondition_of_empty (hl : s.calls.list = []) (ho : s.calls.overflow = none) :
    s.zoneCondition = .run := by
  simp [State.zoneCondition, s.holdWanted_of_empty hl ho, hl]

end Sys2Proof.Machine
end

section
namespace Sys2Proof.Machine

variable (s : State)

/-! ## What a pull does (R9 to R12, R17, R18) -/

/-- The call unit with the tracker of a counted pull TAKEN (R2). -/
def CallUnit.taken (c : CallUnit) (n : Fin 20) (now : Time) : CallUnit :=
  { c with trackers := c.trackers.set n ⟨.taken, some now⟩ }

theorem State.wakeIfDormant_of_running (hr : s.running = true) : s.wakeIfDormant = s := by
  unfold State.wakeIfDormant
  rw [if_neg]
  intro m
  simp [State.running, m, Mode.runs] at hr

/-- A sampled call input is one of an awake board that is no mirror (R1). -/
theorem State.mirror_of_sampled {n : Fin 20} (h : s.sampled (.call n) = true) : s.mirror = false := by
  simp only [State.sampled, Bool.and_eq_true, Bool.not_eq_true'] at h
  exact h.2.1

/-- A counted pull of a kind that is not OFF (R3). -/
theorem exec_pull {t : Time} {n : Fin 20} {c0 c1 : Bool} {cord : Cord} {s : State}
    (hc : Counted (s.begin_ t) (.call n)) (hn : (s.begin_ t).cfg.cord n = some cord)
    (hp : ((s.begin_ t).cfg.policy cord.kind).policy ≠ .off) :
    exec (.qualifyTimeExpiry t (.call n) c0 c1) s = .next ((((s.begin_ t).setCalls
      ((s.begin_ t).calls.taken n (s.begin_ t).now)).wakeIfDormant.pull cord).finish) := by
  have counted := (s.begin_ t).qualify_counted (shiftCode c0 c1) hc
  refine congrArg Host.Outcome.next (counted.trans ?_)
  have hn' : (((s.begin_ t).setTracker (.call n) ⟨.taken, some (s.begin_ t).now⟩).cfg.cord n) =
      some cord := hn
  have hp' : (((s.begin_ t).setTracker (.call n)
      ⟨.taken, some (s.begin_ t).now⟩).cfg.policy cord.kind).policy ≠ .off := hp
  simp only [State.counted, hn', hp', if_false]
  rfl

/-- A pull whose cord has no call. -/
theorem State.pull_new {cord : Cord} (hp : (s.cfg.policy cord.kind).policy ≠ .off)
    (hf : s.calls.find cord = none) : s.pull cord = s.pullNew cord := by
  simp [State.pull, hp, hf]

/-- A pull whose cord has a call (R11, R12). -/
theorem State.pull_standing {cord : Cord} {x : Call} (hp : (s.cfg.policy cord.kind).policy ≠ .off)
    (hf : s.calls.find cord = some x) :
    s.pull cord = if cord.kind = .safety then s else if x.state = .opened then s.answer cord
      else s.resolve cord := by
  simp only [State.pull, hp, hf, if_false]
  cases x.state <;> simp

/-- An entry into a hold, its sound started before its count (R23, R24). -/
theorem State.enterHold_value (k : CallKind) :
    s.enterHold k = (s.setCalls { s.calls with holdSound := some (s.now + holdSoundTime) }).charge
      (fun r => r.countHold k) :=
  s.setCalls_charge _ _

/-- A pull that raises a SAFETY call on a running board that is no mirror (R10). -/
theorem State.raiseSafety_value (station : Nat) (hr : s.running = true) (hm : s.mirror = false) :
    s.raiseSafety station = ((s.setCalls { s.calls with
        list := s.calls.list ++ [⟨station, .safety, .holding, s.knownSecond, 0, 0⟩]
        chirp := if s.cfg.chirpOn then some (s.now + chirpTime) else s.calls.chirp
        holdSound := some (s.now + holdSoundTime) }).charge
      (fun r => (r.countRaised .safety).countHold .safety)).setDisp
        { s.disp with running := some (alertRun s.cfg.zone .safety s.now) } := by
  unfold State.raiseSafety
  dsimp only
  rw [State.startAlert_value]
  have run : ((s.appendCall ⟨station, .safety, .holding, s.knownSecond, 0, 0⟩).enterHold
      .safety).running = true ∧ ((s.appendCall ⟨station, .safety, .holding, s.knownSecond, 0,
      0⟩).enterHold .safety).mirror = false := by
    rw [← hr, ← hm]
    exact ⟨State.running_congr (by simp), State.mirror_congr (by simp)⟩
  rw [if_pos run]
  simp only [State.enterHold_frame, State.appendCall_frame]
  congr 1
  unfold State.appendCall State.enterHold
  dsimp only
  rw [State.charge_charge _ _ _ (fun r => r.countRaised_of_countHold .safety .safety),
    State.setCalls_charge]
  simp

/-- A pull that raises a call of another kind (R9). -/
theorem State.raiseOpen_value (station : Nat) (k : CallKind) :
    s.raiseOpen station k = (s.setCalls { s.calls with
        list := s.calls.list ++ [⟨station, k, .opened, none, s.cfg.holdPoint station, 0⟩]
        chirp := if s.cfg.chirpOn then some (s.now + chirpTime) else s.calls.chirp }).charge
      (fun r => r.countRaised k) := rfl

/-- The overflow hold set by a pull onto a full list (R17). -/
theorem State.setOverflow_value (k : CallKind) :
    s.setOverflow k = (s.setCalls { s.calls with
      overflow := some ⟨k, s.knownSecond⟩
      holdSound := some (s.now + holdSoundTime) }).charge (fun r => r.countHold k) := by
  unfold State.setOverflow
  rw [State.enterHold_value]
  rfl

/-- The call unit after a pull that raises a call: the call itself and its sounds (R9, R10, R23). -/
def State.raisedCalls (s : State) (cord : Cord) : CallUnit :=
  { s.calls with
    list := s.calls.list ++
      [if cord.kind = .safety then ⟨cord.station, .safety, .holding, s.knownSecond, 0, 0⟩
        else ⟨cord.station, cord.kind, .opened, none, s.cfg.holdPoint cord.station, 0⟩]
    chirp := if s.cfg.chirpOn then some (s.now + chirpTime) else s.calls.chirp
    holdSound := if cord.kind = .safety then some (s.now + holdSoundTime) else s.calls.holdSound }

/-- The counts of a raise: raised, and for SAFETY an entry into a hold (R24). -/
def Record.raise (k : CallKind) (r : Record) : Record :=
  if k = .safety then (r.countRaised .safety).countHold .safety else r.countRaised k

theorem Record.raise_counts (k : CallKind) {r : Record} (h : r.Ok) :
    (r.raise k).raised = r.raised.set k (min 65535 (r.raised.get k + 1)) ∧
    (r.raise k).holds =
      if k = .safety then r.holds.set .safety (min 255 (r.holds.safety + 1)) else r.holds := by
  unfold Record.raise
  split
  · next hk =>
    subst hk
    obtain ⟨raised, holds⟩ := r.countRaised_counts .safety (h.counts .safety).1
    obtain ⟨holds', raised'⟩ := (r.countRaised .safety).countHold_counts .safety
      (by rw [holds]; exact (h.counts .safety).2)
    rw [raised', holds', raised, holds]
    exact ⟨rfl, rfl⟩
  · exact r.countRaised_counts k (h.counts k).1

/-- What a pull of a cord without a call makes of a list with room (R9, R10): the one new call, its
sounds, its counts and, for SAFETY, its alert. -/
theorem State.pullNew_raises {cord : Cord} (hr : s.running = true) (hm : s.mirror = false)
    (ho : s.calls.overflow = none) (hl : s.calls.list.length < 16) :
    s.pullNew cord =
      ((s.setCalls (s.raisedCalls cord)).charge (Record.raise cord.kind)).setDisp { s.disp with
        running := if cord.kind = .safety then some (alertRun s.cfg.zone .safety s.now)
          else s.disp.running } := by
  have split : s.pullNew cord = if cord.kind = .safety then s.raiseSafety cord.station
      else s.raiseOpen cord.station cord.kind := by
    have full : ¬ maxCalls ≤ s.calls.list.length := Nat.not_le.mpr hl
    simp [State.pullNew, ho, full]
  rw [split]
  unfold Record.raise State.raisedCalls
  by_cases k : cord.kind = .safety
  · simp only [k, if_true]
    exact s.raiseSafety_value cord.station hr hm
  · simp only [k, if_false]
    have disp (u : State) (h : u.disp = s.disp) :
        u.setDisp { s.disp with running := s.disp.running } = u := by
      rw [← h]
      rfl
    rw [disp _ (by simp)]
    rfl

/-- A counted pull on a running board finds its board and call unit but for the tracker (R2). -/
theorem State.pulled {b : State} {n : Fin 20} (hr : b.running = true) (hc : Counted b (.call n)) :
    let w := b.setCalls (b.calls.taken n b.now)
    b.mirror = false ∧ w.wakeIfDormant = w ∧ w.running = true ∧ w.mirror = false ∧
    w.calls.trackers = b.calls.trackers.set n ⟨.taken, some b.now⟩ ∧
    w.tracker (.call n) = ⟨.taken, some b.now⟩ := by
  obtain ⟨hlen, hs, -⟩ := hc
  have hm := b.mirror_of_sampled hs
  refine ⟨hm, State.wakeIfDormant_of_running _ hr, hr, hm, rfl, ?_⟩
  exact b.tracker_setTracker_same (.call n) _ hlen

theorem State.followedFrom_of_eq {b v : State} (h : v = b) : b.FollowedFrom v.finish := by
  rw [h]
  exact b.followedFrom_finish

theorem State.tracker_congr {s u : State} (n : Fin 20) (h : u.calls.trackers = s.calls.trackers) :
    u.tracker (.call n) = s.tracker (.call n) := by
  simp [State.tracker, h]

end Sys2Proof.Machine

open Sys2Proof Sys2Proof.Machine

/-- Settles O31: the pull appends one call, and `finish` hands it on. -/
theorem pullRaisesCall : Obligations.PullRaisesCall := by
  intro t n c0 c1 cord s b line hr hrec hc hn hp hf ho hl
  have ran := exec_pull (c0 := c0) (c1 := c1) hc hn hp
  change exec _ s = .next (((b.setCalls (b.calls.taken n b.now)).wakeIfDormant.pull cord).finish) at ran
  clear_value b
  obtain ⟨hm, awake, hr', hm', trackers, tracker⟩ := State.pulled hr hc
  set w := b.setCalls (b.calls.taken n b.now) with hw
  have raises := (w.pull_new hp hf).trans (w.pullNew_raises (cord := cord) hr' hm' ho hl)
  rw [awake, raises] at ran
  set v := ((w.setCalls (w.raisedCalls cord)).charge (Record.raise cord.kind)).setDisp _ with hv
  have calls : v.finish.calls = w.raisedCalls cord := by simp [hv]
  have mode : v.mode = b.mode := by simp [hv, hw]
  have cfg : v.cfg = b.cfg := by simp [hv, hw]
  refine ⟨_, ran, ?_, ?_, ?_, ?_, ?_, ?_, ?_, ?_, ?_, State.finish_holdFollows _,
    State.finish_ownFollows _ ((State.running_congr mode).trans hr) ((State.mirror_congr cfg).trans hm)⟩
  · rw [calls]; rfl
  · rw [← tracker]
    apply State.tracker_congr
    rw [calls]; rfl
  · rw [calls]; exact ho
  · rw [calls]; rfl
  · rw [calls]; rfl
  · rw [calls]; rfl
  · rw [calls]; rfl
  · rw [State.finish_counts]
    have current : v.ret.current =
        if b.mode = .shift then b.ret.current.map (Record.raise cord.kind) else b.ret.current := by
      by_cases m : b.mode = .shift <;> simp [hv, hw, State.charge_current, m]
    rw [current]
    cases hcur : b.ret.current with
    | none => simp
    | some r =>
      obtain ⟨raised, holds⟩ := Record.raise_counts cord.kind (hrec.1 r hcur).1
      by_cases m : b.mode = .shift <;> simp [m, raised, holds]
  · rw [calls]
    exact State.followedFrom_of_eq rfl
end

section
namespace Sys2Proof.Machine

theorem Call.isOf_iff (x : Call) (cord : Cord) :
    x.isOf cord = true ↔ x.station = cord.station ∧ x.kind = cord.kind := by
  simp [Call.isOf]

/-- The call list after a pull on a standing call (R11, R12). -/
def CallUnit.actedOn (c : CallUnit) (cord : Cord) (x : Call) : List Call :=
  if cord.kind = .safety then c.list
  else if x.state = .opened then
    c.list.map (fun y =>
      if y.station = cord.station ∧ y.kind = cord.kind then { y with state := .answered } else y)
  else c.list.filter (fun y => ¬ (y.station = cord.station ∧ y.kind = cord.kind))

theorem State.pull_acts (s : State) {cord : Cord} {x : Call}
    (hp : (s.cfg.policy cord.kind).policy ≠ .off) (hf : s.calls.find cord = some x) :
    s.pull cord = s.setCalls { s.calls with list := s.calls.actedOn cord x } := by
  rw [s.pull_standing hp hf]
  unfold CallUnit.actedOn
  by_cases k : cord.kind = .safety
  · simp only [k, if_true]
    rfl
  · by_cases o : x.state = .opened
    · simp only [k, o, if_true, if_false, State.answer, Call.isOf_iff]
    · simp [k, o, State.resolve, Call.isOf]

/-- What a pull of a cord without a call makes of a full list without an overflow hold (R17). -/
theorem State.pullNew_overflows (s : State) {cord : Cord} (ho : s.calls.overflow = none)
    (hl : 16 ≤ s.calls.list.length) : s.pullNew cord = s.setOverflow cord.kind := by
  have full : maxCalls ≤ s.calls.list.length := hl
  simp [State.pullNew, ho, full]

/-- An overflow hold makes further new pulls change nothing (R18). -/
theorem State.pullNew_deaf (s : State) {cord : Cord} (ho : s.calls.overflow ≠ none) :
    s.pullNew cord = s := by
  simp [State.pullNew, Option.isSome_iff_ne_none, ho]

end Sys2Proof.Machine

open Sys2Proof Sys2Proof.Machine

/-- Settles O32: the pull replaces the list, and `finish` hands it on. -/
theorem pullActsOnStandingCall : Obligations.PullActsOnStandingCall := by
  intro t n c0 c1 cord x s b hr hc hn hp hf
  have ran := exec_pull (c0 := c0) (c1 := c1) hc hn hp
  change exec _ s = .next (((b.setCalls (b.calls.taken n b.now)).wakeIfDormant.pull cord).finish) at ran
  clear_value b
  obtain ⟨hm, awake, -, -, trackers, tracker⟩ := State.pulled hr hc
  set w := b.setCalls (b.calls.taken n b.now) with hw
  rw [awake, w.pull_acts hp hf] at ran
  set v := w.setCalls { w.calls with list := w.calls.actedOn cord x } with hv
  have calls : v.finish.calls = { w.calls with list := w.calls.actedOn cord x } := by simp [hv]
  refine ⟨_, ran, ?_, ?_, ?_, ?_, State.finish_holdFollows _, State.finish_ownFollows _ hr hm⟩
  · rw [calls]; rfl
  · rw [← tracker]
    apply State.tracker_congr
    rw [calls]
  · rw [calls]; rfl
  · rw [calls]
    exact State.followedFrom_of_eq rfl

/-- Settles O33: the overflow hold is set once, and further pulls find it set. -/
theorem pullOnFullListSetsOverflow : Obligations.PullOnFullListSetsOverflow := by
  intro t n c0 c1 cord s b hr hrec hc hn hp hf hfull
  have ran := exec_pull (c0 := c0) (c1 := c1) hc hn hp
  change exec _ s = .next (((b.setCalls (b.calls.taken n b.now)).wakeIfDormant.pull cord).finish) at ran
  clear_value b
  obtain ⟨hm, awake, hr', hm', trackers, tracker⟩ := State.pulled hr hc
  set w := b.setCalls (b.calls.taken n b.now) with hw
  rw [awake, w.pull_new hp hf] at ran
  by_cases ho : b.calls.overflow = none
  · have hl : 16 ≤ b.calls.list.length := hfull.resolve_left (fun h => h ho)
    rw [w.pullNew_overflows ho hl, State.setOverflow_value] at ran
    set c : CallUnit := { w.calls with
      overflow := some ⟨cord.kind, w.knownSecond⟩, holdSound := some (w.now + holdSoundTime) } with hcu
    set v := (w.setCalls c).charge (fun r => r.countHold cord.kind) with hv
    have calls : v.finish.calls = c := by simp [hv]
    have mode : v.mode = b.mode := by simp [hv, hw]
    have cfg : v.cfg = b.cfg := by simp [hv, hw]
    have running : v.running = true := (State.running_congr mode).trans hr
    have mirror : v.mirror = false := (State.mirror_congr cfg).trans hm
    refine ⟨_, ran, by rw [calls]; rfl, ?_, by rw [calls]; rfl, by rw [calls]; rfl,
      fun h => absurd ho h, fun _ => ⟨by rw [calls]; rfl, by rw [calls]; rfl, by rw [calls]; rfl, ?_, ?_, ?_⟩,
      State.finish_holdFollows _, State.finish_ownFollows _ running mirror⟩
    · rw [← tracker]
      apply State.tracker_congr
      rw [calls]
    · have current : v.ret.current =
          if b.mode = .shift then b.ret.current.map (fun r => r.countHold cord.kind)
          else b.ret.current := by
        by_cases m : b.mode = .shift <;> simp [hv, hw, State.charge_current, m]
      rw [State.finish_counts, current]
      cases hcur : b.ret.current with
      | none => simp
      | some r =>
        obtain ⟨holds, raised⟩ := r.countHold_counts cord.kind ((hrec.1 r hcur).1.counts cord.kind).2
        by_cases m : b.mode = .shift <;> simp [m, raised, holds]
    · have wanted : v.holdWanted = true := by
        rw [State.holdWanted_iff]
        exact ⟨running, mirror, .inr (by simp [hv, hcu])⟩
      simpa using wanted
    · rw [calls]
      exact State.followedFrom_of_eq rfl
  · rw [w.pullNew_deaf ho] at ran
    have calls : w.finish.calls = w.calls := by simp
    refine ⟨_, ran, by rw [calls]; rfl, ?_, by rw [calls]; rfl, by rw [calls]; rfl,
      fun _ => ⟨by rw [calls]; rfl, ?_⟩, fun h => absurd h ho,
      State.finish_holdFollows _, State.finish_ownFollows _ hr' hm'⟩
    · rw [← tracker]
      apply State.tracker_congr
      rw [calls]
    · rw [calls]
      exact State.followedFrom_of_eq rfl
end

section
namespace Sys2Proof.Machine

variable (s : State)

/-! ## The clear key (R19) -/

/-- The call unit after a clear key press at `now` (R19). -/
def CallUnit.pressed (c : CallUnit) (now : Time) : CallUnit :=
  { c with list := [], overflow := none, holdSound := none, chirp := none, clr := ⟨.taken, some now⟩ }

/-- Outside SHIFT the end of a command leaves the retained area and its check word as they were. -/
theorem State.finish_ret_of_no_shift (m : s.mode ≠ .shift) :
    s.finish.ret = s.ret ∧ s.finish.check = s.check := by
  have ret : s.handOn.ret = s.ret := by simp [s.handOn_ret, m]
  simp only [State.finish_blocks]
  exact ⟨ret, s.handOn_check.1 ret⟩

/-- A wake leaves the retained area and its check word alone. -/
theorem State.wake_value :
    s.wake.mode = .standby ∧ s.wake.ret = s.ret ∧ s.wake.check = s.check := by
  unfold State.wake
  dsimp only
  generalize hv : State.takeUpWork _ = v
  have ret : v.ret = s.ret ∧ v.check = s.check ∧ v.mode = .standby := by simp [← hv]
  have marked : (if v.clock.authority = true then v.markTime else v).ret = s.ret ∧
      (if v.clock.authority = true then v.markTime else v).check = s.check ∧
      (if v.clock.authority = true then v.markTime else v).mode = .standby := by
    split <;> simp [ret]
  obtain ⟨hret, hcheck, hmode⟩ := marked
  have kept := State.finish_ret_of_no_shift (if v.clock.authority = true then v.markTime else v)
    (by simp [hmode])
  exact ⟨by simp [hmode], kept.1.trans hret, kept.2.trans hcheck⟩

/-- An empty call unit leaves nothing that holds or sounds (R19, R20, R23). -/
theorem State.finish_quiet (hl : s.calls.list = []) (ho : s.calls.overflow = none)
    (hs : s.calls.holdSound = none) (hc : s.calls.chirp = none) :
    s.finish.out.hold = false ∧ s.finish.out.horn = false ∧ s.finish.zoneCondition = .run := by
  refine ⟨by simpa using s.holdWanted_of_empty hl ho, s.finish_horn hl ho hs hc, ?_⟩
  apply State.zoneCondition_of_empty <;> simp [hl, ho]

end Sys2Proof.Machine

open Sys2Proof Sys2Proof.Machine

/-- Settles O34: the press empties the call unit, and nothing that is left holds or sounds. -/
theorem clearKeyEmptiesList : Obligations.ClearKeyEmptiesList := by
  intro t c0 c1 s b pressed
  have ran (hc : Counted b .clr) : exec (.qualifyTimeExpiry t .clr c0 c1) s = .next
      ((b.setTracker .clr ⟨.taken, some b.now⟩).wakeIfDormant.clearZone.finish) :=
    congrArg Host.Outcome.next (b.qualify_counted (shiftCode c0 c1) hc)
  clear_value b
  refine ⟨fun hr hc => ?_, fun hd hc => ?_⟩
  · have awake := (b.setTracker .clr ⟨.taken, some b.now⟩).wakeIfDormant_of_running hr
    rw [awake] at ran
    set v := (b.setTracker .clr ⟨.taken, some b.now⟩).clearZone with hv
    have calls : v.finish.calls = b.calls.pressed b.now := by rw [v.finish_frame.2.2.2.2.2.1]; rfl
    obtain ⟨hold, horn, cond⟩ := v.finish_quiet rfl rfl rfl rfl
    refine ⟨_, ran hc, calls, hold, horn, cond, ?_⟩
    rw [calls]
    exact State.followedFrom_of_eq rfl
  · have wakes : (b.setTracker .clr ⟨.taken, some b.now⟩).wakeIfDormant =
        (b.setTracker .clr ⟨.taken, some b.now⟩).wake := if_pos hd
    rw [wakes] at ran
    set w := (b.setTracker .clr ⟨.taken, some b.now⟩).wake with hw
    obtain ⟨mode, ret, check⟩ := (b.setTracker .clr ⟨.taken, some b.now⟩).wake_value
    have calls : w.clearZone.finish.calls = b.calls.pressed b.now := by
      simp only [State.finish_frame, State.clearZone, State.setCalls_calls, hw, State.wake_frame]
      rfl
    obtain ⟨hold, horn, cond⟩ := w.clearZone.finish_quiet rfl rfl rfl rfl
    obtain ⟨ret', check'⟩ := w.clearZone.finish_ret_of_no_shift (by simp [hw, mode])
    refine ⟨_, ran hc, ?_, calls, hold, horn, cond, ?_, ?_⟩
    · simp [hw, mode]
    · rw [ret']; simp [hw, ret]
    · rw [check']; simp [hw, check]
end

section
namespace Sys2Proof.Machine

/-! ## Shift records stay sound (R75 to R78) -/

theorem addSeconds_lt (a b : Nat) : addSeconds a b < 4294967296 := by
  unfold addSeconds
  split
  · assumption
  · exact (Config.secondsBeyond (a + b)).isLt

theorem countStop_le (charged : Bool) {n : Nat} (h : n ≤ 65535) : countStop charged n ≤ 65535 := by
  unfold countStop
  split
  · exact h
  · exact Nat.min_le_left ..

/-- A tally's keys in order. -/
def tallyKeys (tally : List TallyEntry) : List CauseKey := tally.map (fun e => e.key)

theorem pairwise_tallyKeys {tally : List TallyEntry} :
    tally.Pairwise (fun x y => x.key ≠ y.key) ↔ (tallyKeys tally).Nodup := by
  simp [tallyKeys, List.Nodup, List.pairwise_map]

theorem mem_tallyKeys {tally : List TallyEntry} {k : CauseKey} :
    k ∈ tallyKeys tally ↔ ∃ e ∈ tally, e.key = k := by
  simp [tallyKeys]

theorem keyedCount_eq (tally : List TallyEntry) :
    keyedCount tally = ((tallyKeys tally).filter (fun k => k ≠ otherKey)).length := by
  simp [keyedCount, tallyKeys, List.filter_map, Function.comp_def]

theorem stopsOf_isSome {tally : List TallyEntry} {k : CauseKey} :
    (stopsOf tally k).isSome = true ↔ k ∈ tallyKeys tally := by
  simp [stopsOf, mem_tallyKeys]

/-- A charge leaves the keys as they are, or appends its own (R77). -/
theorem tallyKeys_chargeTally (k : CauseKey) (secs : Nat) (charged : Bool) (tally : List TallyEntry) :
    tallyKeys (chargeTally k secs charged tally) =
      if k ∈ tallyKeys tally then tallyKeys tally else tallyKeys tally ++ [k] := by
  induction tally with
  | nil => simp [chargeTally, tallyKeys]
  | cons e rest ih =>
    have cons (x : TallyEntry) (l : List TallyEntry) : tallyKeys (x :: l) = x.key :: tallyKeys l := rfl
    unfold chargeTally
    by_cases h : e.key = k
    · simp [h, cons]
    · have h' : k ≠ e.key := fun x => h x.symm
      rw [if_neg h, cons, cons, ih]
      by_cases hk : k ∈ tallyKeys rest <;> simp [hk, h']

/-- The ranges of a charged tally's entries (R76). -/
theorem chargeTally_ranges {k : CauseKey} {secs : Nat} {charged : Bool} {tally : List TallyEntry}
    (hs : secs < 4294967296) (h : ∀ x ∈ tally, x.stops ≤ 65535 ∧ x.seconds < 4294967296) :
    ∀ x ∈ chargeTally k secs charged tally, x.stops ≤ 65535 ∧ x.seconds < 4294967296 := by
  induction tally with
  | nil =>
    intro x hx
    obtain rfl := List.mem_singleton.mp hx
    exact ⟨countStop_le charged (by omega), hs⟩
  | cons e rest ih =>
    intro x hx
    unfold chargeTally at hx
    split at hx
    · rcases List.mem_cons.mp hx with rfl | hx
      · exact ⟨countStop_le charged (h e (by simp)).1, addSeconds_lt ..⟩
      · exact h x (by simp [hx])
    · rcases List.mem_cons.mp hx with rfl | hx
      · exact h x (by simp)
      · exact ih (fun y hy => h y (by simp [hy])) x hx

/-- What the keys of a sound tally become by a charge under the key that R76 gives. -/
theorem tally_charged {tally : List TallyEntry} {k : CauseKey} (secs : Nat) (charged : Bool)
    (hk : k ≠ otherKey) (hd : tally.Pairwise (fun x y => x.key ≠ y.key)) (hc : keyedCount tally ≤ 31)
    (ho : ∀ x ∈ tally, x.key = otherKey → keyedCount tally = 31) :
    let t := chargeTally (chargeKey tally k) secs charged tally
    t.Pairwise (fun x y => x.key ≠ y.key) ∧ keyedCount t ≤ 31 ∧
    (∀ x ∈ t, x.key = otherKey → keyedCount t = 31) := by
  intro t
  have keys : tallyKeys t = _ := tallyKeys_chargeTally ..
  have other : (∀ x ∈ t, x.key = otherKey → keyedCount t = 31) ↔
      (otherKey ∈ tallyKeys t → keyedCount t = 31) := by
    simp only [mem_tallyKeys]
    exact ⟨fun h ⟨x, hx, e⟩ => h x hx e, fun h x hx e => h ⟨x, hx, e⟩⟩
  have ho : otherKey ∈ tallyKeys tally → keyedCount tally = 31 := by
    rintro h
    obtain ⟨x, hx, e⟩ := mem_tallyKeys.mp h
    exact ho x hx e
  rw [pairwise_tallyKeys] at hd ⊢
  rw [other, keyedCount_eq, keys]
  rw [keyedCount_eq] at hc ho
  generalize hq : chargeKey tally k = q
  by_cases known : q ∈ tallyKeys tally
  · simp only [known, if_true]
    exact ⟨hd, hc, ho⟩
  · simp only [known, if_false]
    have nodup : (tallyKeys tally ++ [q]).Nodup := by
      rw [List.nodup_append]
      refine ⟨hd, by simp, ?_⟩
      rintro a ha b hb rfl
      exact known (by rwa [List.mem_singleton.mp hb] at ha)
    unfold chargeKey at hq
    simp only [stopsOf_isSome, keyedCount_eq] at hq
    split at hq
    · next room =>
      subst hq
      have room := room.resolve_left known
      have none : otherKey ∉ tallyKeys tally := fun h => by
        have := ho h
        simp [maxKeyed] at room
        simp at this
        omega
      refine ⟨nodup, ?_, fun h => ?_⟩
      · simp [maxKeyed, hk] at room ⊢
        omega
      · rcases List.mem_append.mp h with h | h
        · exact absurd h none
        · exact absurd (List.mem_singleton.mp h).symm hk
    · next full =>
      subst hq
      have full : ¬ ((tallyKeys tally).filter (fun k => k ≠ otherKey)).length < maxKeyed :=
        fun h => full (.inr h)
      refine ⟨nodup, ?_, fun _ => ?_⟩
      · simp at hc ⊢
        exact hc
      · simp [maxKeyed] at full hc ⊢
        omega

theorem Record.ok_advance {r : Record} (h : r.Ok) : r.advance.Ok := by
  obtain ⟨h1, h2, -, rest⟩ := h
  exact ⟨h1, h2, by simp [Record.advance]; omega, rest⟩

/-- Closing an interval into a record keeps it sound (R75 to R77). -/
theorem Record.ok_close {r : Record} {i : Interval} (h : r.Ok) (hk : i.key.kind ≠ .other)
    (hs : i.seconds < 4294967296) : (r.close_ i).Ok := by
  have key : i.key ≠ otherKey := fun e => hk (by rw [e]; rfl)
  have charged : ({ r with
      tally := chargeTally (chargeKey r.tally i.key) i.seconds i.charged r.tally
      total := addSeconds r.total i.seconds } : Record).Ok := by
    obtain ⟨h1, h2, hv, -, rq, rm, re, rs, hq, hm, he, hsf, hd, hr, hc, ho⟩ := h
    obtain ⟨distinct, count, other⟩ := tally_charged i.seconds i.charged key hd hc ho
    exact ⟨h1, h2, hv, addSeconds_lt .., rq, rm, re, rs, hq, hm, he, hsf, distinct,
      chargeTally_ranges hs hr, count, other⟩
  unfold Record.close_
  dsimp only
  split
  · exact Record.ok_advance charged
  · exact charged

theorem Record.ok_begin {shift serial : Nat} (h1 : 1 ≤ shift) (h3 : shift ≤ 3) :
    (Record.begin_ shift serial).Ok :=
  ⟨h1, h3, by simp [Record.begin_], by simp [Record.begin_], by simp [Record.begin_], by simp [Record.begin_],
    by simp [Record.begin_], by simp [Record.begin_], by simp [Record.begin_], by simp [Record.begin_],
    by simp [Record.begin_], by simp [Record.begin_], by simp [Record.begin_], by simp [Record.begin_],
    by simp [Record.begin_, keyedCount], by simp [Record.begin_]⟩

/-! ## An evaluation names no OTHER key -/

theorem starvedWalk_kind (c : AttInputs) (cfg : Cfg) (n : Nat) : (starvedWalk c cfg n).kind ≠ .other := by
  induction n with
  | zero => simp [starvedWalk]
  | succ k ih =>
    unfold starvedWalk
    split
    · simp
    · split
      · exact ih
      · simp

theorem blockedWalk_kind (c : AttInputs) (cfg : Cfg) (n : Nat) : (blockedWalk c cfg n).kind ≠ .other := by
  induction n with
  | zero => simp [blockedWalk]
  | succ k ih =>
    unfold blockedWalk
    dsimp only
    split
    · simp
    · split
      · exact ih
      · simp

theorem evaluate_kind {cfg : Cfg} {c : AttInputs} {k : CauseKey} (h : evaluate cfg c = some k) :
    k.kind ≠ .other := by
  unfold evaluate at h
  split at h
  · exact absurd h (by simp)
  · split at h
    · rw [← Option.some.inj h]; simp
    · split at h
      · rw [← Option.some.inj h]; exact starvedWalk_kind c cfg _
      · split at h
        · rw [← Option.some.inj h]; exact blockedWalk_kind c cfg _
        · split at h
          · rw [← Option.some.inj h]; simp
          · rw [← Option.some.inj h]; simp

end Sys2Proof.Machine
end

section
namespace Sys2Proof.Machine

/-! ## What a command must leave for the board to be sound once every block has followed -/

/-- The section monitor before the blocks follow: its laws but that the derived times are the current
ones (R30 to R32, R34, R35). -/
abbrev State.SectionReady (s : State) : Prop :=
  s.sec.window.length ≤ 16 ∧ s.sec.run ≤ 64 ∧ (s.sec.encFault = true → s.sec.run < 64) ∧
  (s.sec.motion = .stopped →
    s.sec.stopTimer = none ∧ s.sec.holdTimer = none ∧ s.sec.holdFail = false) ∧
  (s.advSampled = true → s.sec.motion ≠ .stopped → s.sec.stopTimer ≠ none) ∧
  (s.out.hold = false → s.sec.holdTimer = none ∧ s.sec.holdFail = false)

/-- A mirror board before the blocks follow: its laws but for the two outputs; its takt is the default one,
so its derived times are current already (R21, R23, R39, R53, R156, R166). -/
abbrev State.MirrorReady (s : State) : Prop :=
  s.mirror = true →
    (s.bus.tx = none ∧ s.bus.jam = none ∧ s.bus.backoff = none ∧ s.bus.trouble = false ∧
      s.bus.reply.state = .empty ∧ s.bus.status.state = .empty ∧ s.bus.count.state = .empty ∧
      s.bus.time.state = .empty ∧ s.req.waiting = none) ∧
    (s.calls.list = [] ∧ s.calls.overflow = none ∧ s.calls.holdSound = none ∧ s.calls.chirp = none) ∧
    (s.sec.motion = .unknown ∧ s.sec.window = [] ∧ s.sec.encFault = false ∧ s.sec.holdFail = false) ∧
    s.table.clash = false ∧ s.table.own = .initial ∧ s.clock.authority = false ∧
    (s.running = true → s.sec.times = s.currentTimes)

/-- What an awake board must be for the end of a command to leave it sound: every law of the blocks that
the command itself has to keep. -/
structure State.Ready (s : State) : Prop where
  awake : s.mode.awake = true
  cfgOk : s.cfg.Ok
  callsOk : s.CallsOk
  asleep : s.mode = .dormant → s.calls.list = [] ∧ s.calls.overflow = none
  sectionReady : s.SectionReady
  tableOk : s.TableOk
  recordsOk : s.RecordsOk
  shiftOk : s.ShiftOk
  noInterval : s.mode ≠ .shift → s.ret.interval = none
  clockOk : s.ClockOk
  paceOk : s.PaceOk
  storeOk : s.StoreOk
  slotsOk : s.SlotsOk
  generatorOk : s.GeneratorOk
  mirrorReady : s.MirrorReady

/-- A sound awake board is ready. -/
theorem State.Ok.ready {s : State} (h : s.Ok) (ha : s.mode.awake = true) : s.Ready where
  awake := ha
  cfgOk := h.cfgOk ha
  callsOk := h.callsOk
  asleep := h.dormantOk.1
  sectionReady := by
    obtain ⟨h1, h2, h3, h4, h5, -, h7⟩ := h.sectionOk
    exact ⟨h1, h2, h3, h4, h5, h7⟩
  tableOk := h.tableOk
  recordsOk := h.recordsOk
  shiftOk := h.shiftOk
  noInterval := fun m => (h.causeFollows.2 m).2 ha
  clockOk := h.clockOk
  paceOk := h.paceOk
  storeOk := h.storeOk
  slotsOk := h.slotsOk
  generatorOk := h.generatorOk
  mirrorReady := by
    intro hm
    obtain ⟨-, -, -, -, -, times, -⟩ := h.sectionOk
    obtain ⟨b1, b2, b3, b4, b5, b6, b7, b8, b9, c1, c2, c3, c4, -, -, m1, m2, m3, m4, z, o, a⟩ :=
      h.mirrorQuiet hm
    exact ⟨⟨b1, b2, b3, b4, b5, b6, b7, b8, b9⟩, ⟨c1, c2, c3, c4⟩, ⟨m1, m2, m3, m4⟩, z, o, a, times⟩

section Congr

variable {s u : State}

theorem State.CallsOk.congr (h : s.CallsOk) (hc : u.calls = s.calls) (hp : u.pins = s.pins) :
    u.CallsOk := by
  unfold State.CallsOk
  rwa [hc, hp]

theorem State.TableOk.congr (h : s.TableOk) (hc : u.cfg = s.cfg) (he : u.table.entries = s.table.entries)
    (hm : u.table.mirrored = s.table.mirrored) (hl : u.table.clash = s.table.clash)
    (hn : u.table.clashCount = s.table.clashCount) (ht : u.table.clashMet = s.table.clashMet) :
    u.TableOk := by
  unfold State.TableOk
  rwa [hc, he, hm, hl, hn, ht, State.mirror_congr hc]

theorem State.ClockOk.congr (h : s.ClockOk) (hm : u.mode = s.mode) (hc : u.cfg = s.cfg)
    (hk : u.clock = s.clock) (hr : u.ret.serial = s.ret.serial) : u.ClockOk := by
  unfold State.ClockOk
  rwa [hm, hc, hk, hr]

theorem State.PaceOk.congr (h : s.PaceOk) (hm : u.mode = s.mode) (hc : u.cfg = s.cfg)
    (hk : u.clock.plans = s.clock.plans) (hs : u.ret.shift = s.ret.shift)
    (ha : u.ret.actual = s.ret.actual) (hn : u.ret.car = s.ret.car) (hp : u.ret.peak = s.ret.peak)
    (hpl : u.pace.plan = s.pace.plan) (ht : u.pace.tEnd = s.pace.tEnd)
    (hsi : u.pace.silence = s.pace.silence) : u.PaceOk := by
  have plan : u.runningPlan = s.runningPlan := by simp [State.runningPlan, hk, hs]
  unfold State.PaceOk
  rwa [hm, hc, ha, hn, hp, hpl, ht, hsi, plan]

theorem State.StoreOk.congr (h : s.StoreOk) (hd : u.disp.store = s.disp.store) : u.StoreOk := by
  unfold State.StoreOk
  rwa [hd]

theorem State.GeneratorOk.congr (h : s.GeneratorOk) (hm : u.mode = s.mode)
    (hr : u.bus.rng = s.bus.rng) : u.GeneratorOk := by
  unfold State.GeneratorOk
  rwa [hm, hr]

theorem State.SlotsOk.congr (h : s.SlotsOk) (hm : u.mode = s.mode) (hb : u.bus = s.bus)
    (hr : u.req = s.req) (hn : u.now = s.now) : u.SlotsOk := by
  unfold State.SlotsOk
  rwa [hm, hb, hr, hn, State.running_congr hm]

end Congr

variable {s : State}

/-! ## Marks -/

theorem Slot.ok_mark {x : Slot} (h : x.Ok) :
    x.mark.Ok ∧ (x.mark.state = .sending ↔ x.state = .sending) := by
  obtain ⟨hc, he, hr⟩ := h
  unfold Slot.mark
  cases hs : x.state with
  | empty => exact ⟨⟨by simp, by simp, by simp⟩, by simp⟩
  | pending => exact ⟨⟨hc, he, hr⟩, by simp [hs]⟩
  | sending => exact ⟨⟨hc, by simp, by simp⟩, by simp⟩

/-- A mark of a slot that holds no replies leaves the slots sound (R156). -/
theorem State.SlotsOk.mark (h : s.SlotsOk) {i : SlotId} (hi : i ≠ .reply) :
    (s.setBus (s.bus.setSlot i (s.bus.slot i).mark)).SlotsOk := by
  have reply : (s.bus.setSlot i (s.bus.slot i).mark).reply = s.bus.reply :=
    s.bus.slot_setSlot_other i .reply _ hi.symm
  obtain ⟨slots, waiting, flight, sleep, armed, slept, start⟩ := h
  unfold State.SlotsOk
  simp only [State.setBus_bus, Bus.setSlot_frame, reply]
  refine ⟨fun j hj => ?_, waiting, flight, sleep, armed, slept, start⟩
  obtain ⟨ok, tx⟩ := slots j hj
  by_cases same : j = i
  · subst same
    rw [Bus.slot_setSlot_self]
    exact ⟨(Slot.ok_mark ok).1, (Slot.ok_mark ok).2.trans tx⟩
  · rw [Bus.slot_setSlot_other _ _ _ _ same]
    exact ⟨ok, tx⟩

/-! ## The end of a command -/

theorem State.SectionReady.congr {s u : State} (h : s.SectionReady) (hs : u.sec = s.sec)
    (hm : u.mode = s.mode) (hc : u.cfg = s.cfg) (ho : u.out.hold = s.out.hold) : u.SectionReady := by
  have adv : u.advSampled = s.advSampled := by
    simp only [State.advSampled, State.running_congr hm, State.mirror_congr hc]
  unfold State.SectionReady
  rwa [hs, ho, adv]

/-- Following the hold output keeps the section monitor's laws (R34, R35). -/
theorem State.SectionReady.followHold (h : s.SectionReady) : s.followHold.SectionReady := by
  have adv : s.followHold.advSampled = s.advSampled := by
    simp only [State.advSampled, State.running_congr (s := s) (u := s.followHold) (by simp),
      State.mirror_congr (s := s) (u := s.followHold) (by simp)]
  obtain ⟨hw, hr, he, hs, ha, ho⟩ := h
  unfold State.SectionReady
  rw [adv, s.followHold_out, s.followHold_sec]
  by_cases same : s.holdWanted = s.out.hold
  · rw [if_pos same, same]
    exact ⟨hw, hr, he, hs, ha, ho⟩
  · rw [if_neg same]
    by_cases wanted : s.holdWanted = true
    · rw [if_pos wanted, wanted]
      by_cases stopped : s.sec.motion = .stopped
      · rw [if_pos stopped]
        exact ⟨hw, hr, he, hs, ha, by simp⟩
      · rw [if_neg stopped]
        exact ⟨hw, hr, he, fun m => absurd m stopped, ha, by simp⟩
    · rw [if_neg wanted]
      exact ⟨hw, hr, he, fun m => ⟨(hs m).1, rfl, rfl⟩, ha, fun _ => ⟨rfl, rfl⟩⟩

/-- A change of the derived times keeps the section monitor's laws (R28). -/
theorem State.SectionReady.retime (h : s.SectionReady) : s.retime.SectionReady := by
  by_cases same : s.running = false ∨ s.sec.times = s.currentTimes
  · rwa [s.retime_unchanged same]
  · simp only [not_or, Bool.not_eq_false] at same
    obtain ⟨passed, stays⟩ := s.retime_sec same.1 same.2
    have adv : s.retime.advSampled = s.advSampled := by
      simp only [State.advSampled, State.running_congr (s := s) (u := s.retime) (by simp),
        State.mirror_congr (s := s) (u := s.retime) (by simp)]
    obtain ⟨hw, hr, he, hs, ha, ho⟩ := h
    unfold State.SectionReady
    have out : s.retime.out = s.out := by simp
    rw [adv, out]
    set m : SectionMonitor := { s.sec with
      times := s.currentTimes, gapChange := some (s.now, s.sec.gapAt s.now) } with hm
    by_cases p : m.stopPassed s.now
    · rw [passed p]
      exact ⟨hw, hr, he, fun _ => ⟨rfl, rfl, rfl⟩, fun _ k => absurd rfl k, fun _ => ⟨rfl, rfl⟩⟩
    · rw [stays p]
      exact ⟨hw, hr, he, hs, ha, ho⟩


theorem State.Ready.finish_sectionOk (h : s.SectionReady) : s.finish.SectionOk := by
  have ready : s.finish.SectionReady := by
    apply h.followHold.retime.congr <;> simp [State.handOn_blocks]
  obtain ⟨h1, h2, h3, h4, h5, h6⟩ := ready
  refine ⟨h1, h2, h3, h4, h5, fun hr => ?_, h6⟩
  have run : s.running = true := by rw [← hr]; apply Eq.symm; apply State.running_congr; simp
  rw [s.finish_currentTimes, (s.finish_blocks).1]
  exact (s.handOn_times run).1

/-- Closing the open interval keeps the current record sound (R75, R77). -/
theorem State.RecordsOk.closeInterval (h : s.RecordsOk) :
    ∀ r ∈ s.ret.closeInterval.current, r.Ok ∧ r.close = none := by
  obtain ⟨current, -, interval⟩ := h
  cases hi : s.ret.interval with
  | none => rwa [s.ret.closeInterval_current.2 hi]
  | some i =>
    rw [s.ret.closeInterval_current.1 i hi]
    intro r hr
    obtain ⟨c, hc, rfl⟩ := Option.map_eq_some_iff.mp hr
    obtain ⟨ok, close⟩ := current c hc
    obtain ⟨kind, secs⟩ := interval i hi
    exact ⟨Record.ok_close ok kind secs, (c.close_frame i).2.2.2.2.1.trans close⟩

/-- Closing the open interval keeps shift number and serial of the current record (R77). -/
theorem Retained.closeInterval_bears (r : Retained) :
    r.closeInterval.current.map (fun c => (c.shift, c.serial)) =
      r.current.map (fun c => (c.shift, c.serial)) := by
  unfold Retained.closeInterval
  split
  · rfl
  · cases r.current <;> simp [Record.close_frame]

theorem State.finish_recordsOk (h : s.RecordsOk) : s.finish.RecordsOk := by
  have close := h.closeInterval
  obtain ⟨current, last, interval⟩ := h
  have ret : s.finish.ret = s.handOn.ret := by simp
  unfold State.RecordsOk
  rw [ret, s.handOn_ret]
  split
  · refine ⟨close, ?_, fun i hi => ?_⟩
    · rw [(s.ret.closeInterval_value).2.1]
      exact last
    · obtain ⟨k, hk, rfl⟩ := Option.map_eq_some_iff.mp hi
      rw [s.handOn_cause] at hk
      split at hk
      · exact ⟨evaluate_kind hk, by simp⟩
      · exact absurd hk (by simp)
  · exact ⟨current, last, interval⟩

/-- The current record at the end of a command bears what it bore (R75). -/
theorem State.finish_bears :
    s.finish.ret.current.map (fun c => (c.shift, c.serial)) =
      s.ret.current.map (fun c => (c.shift, c.serial)) := by
  have ret : s.finish.ret = s.handOn.ret := by simp
  rw [ret, s.handOn_ret]
  split
  · exact s.ret.closeInterval_bears
  · rfl

theorem State.finish_shiftOk (h : s.ShiftOk) : s.finish.ShiftOk := by
  obtain ⟨range, stands, bears, serial, mode, interval⟩ := h
  have same := s.finish_bears
  have present : s.finish.ret.current.isSome = s.ret.current.isSome := by
    have := congrArg Option.isSome same
    simpa using this
  have frame : s.finish.ret.shift = s.ret.shift ∧ s.finish.ret.serial = s.ret.serial ∧
      s.finish.mode = s.mode := by simp
  obtain ⟨hs, hn, hm⟩ := frame
  unfold State.ShiftOk
  rw [hs, hn, hm, present]
  refine ⟨range, stands, fun r hr => ?_, serial, mode, fun hi => ?_⟩
  · have hr' : s.ret.current.map (fun c => (c.shift, c.serial)) = some (r.shift, r.serial) := by
      rw [← same, hr]
      rfl
    obtain ⟨c, hc, e⟩ := Option.map_eq_some_iff.mp hr'
    obtain ⟨e1, e2⟩ := Prod.mk.inj e
    rw [← e1, ← e2]
    exact bears c hc
  · by_cases m : s.mode = .shift
    · exact stands.mpr ((mode (by rw [m]; rfl)).mp m)
    · have ret : s.finish.ret = s.ret := (s.finish_ret_of_no_shift m).1
      rw [ret] at hi
      exact interval hi

theorem State.finish_slotsOk (h : s.SlotsOk) : s.finish.SlotsOk := by
  by_cases keep : s.handOn.table.own = s.table.own ∨ s.running = false ∨ s.mirror = true
  · apply h.congr <;> simp [s.handOn_bus, keep]
  · have marked : s.finish.bus = s.bus.setSlot .status (s.bus.slot .status).mark := by
      simp [s.handOn_bus, keep, Bus.setSlot, Bus.slot]
    exact (h.mark (i := .status) (by simp)).congr (by simp) marked (by simp) (by simp)

/-- The end of a command leaves a mirror as it found it, its outputs low (R21, R23, R39, R53). -/
theorem State.MirrorReady.finish (h : s.MirrorReady) : s.finish.MirrorQuiet := by
  intro hm
  have mirror : s.mirror = true := by
    rw [← hm]; apply Eq.symm; apply State.mirror_congr; simp
  obtain ⟨⟨b1, b2, b3, b4, b5, b6, b7, b8, b9⟩, ⟨c1, c2, c3, c4⟩, ⟨m1, m2, m3, m4⟩, z, o, a, times⟩ :=
    h mirror
  obtain ⟨hold, horn, -⟩ := s.finish_quiet c1 c2 c3 c4
  have bus : s.finish.bus = s.bus := by simp [s.handOn_bus, mirror]
  have sec : s.finish.sec = s.followHold.sec := by
    rw [(s.finish_blocks).1]
    apply s.handOn_sec_of_times
    by_cases hr : s.running = true
    · exact .inl (times hr)
    · exact .inr (by simpa using hr)
  have quiet : s.followHold.sec.motion = .unknown ∧ s.followHold.sec.window = [] ∧
      s.followHold.sec.encFault = false ∧ s.followHold.sec.holdFail = false := by
    rw [s.followHold_sec, s.holdWanted_of_empty c1 c2]
    split
    · exact ⟨m1, m2, m3, m4⟩
    · exact ⟨m1, m2, m3, rfl⟩
  obtain ⟨q1, q2, q3, q4⟩ := quiet
  have frame : s.finish.req = s.req ∧ s.finish.calls = s.calls ∧ s.finish.clock = s.clock ∧
      s.finish.table.clash = s.table.clash := by simp
  obtain ⟨f1, f2, f3, f4⟩ := frame
  have own := s.finish_own.2 (.inr mirror)
  rw [bus, f1, f2, f3, f4, hold, horn, sec, own]
  exact ⟨b1, b2, b3, b4, b5, b6, b7, b8, b9, c1, c2, c3, c4, rfl, rfl, q1, q2, q3, q4, z, o, a⟩

/-- What is ready is sound once every block has followed. -/
theorem State.Ready.finish (h : s.Ready) : s.finish.Ok := by
  have mode : s.finish.mode = s.mode := by simp
  have cfg : s.finish.cfg = s.cfg := by simp
  have calls : s.finish.calls = s.calls := by simp
  exact {
    atRest := fun k => absurd (by rw [mode]; exact h.awake) k
    cfgOk := fun _ => by rw [cfg]; exact h.cfgOk
    holdFollows := s.finish_holdFollows
    callsOk := h.callsOk.congr calls (by simp)
    dormantOk := by
      unfold State.DormantOk
      rw [mode, calls]
      refine ⟨h.asleep, fun m k => ?_⟩
      simp [s.handOn_start, m, k]
    sectionOk := State.Ready.finish_sectionOk h.sectionReady
    tableOk := h.tableOk.congr cfg (by simp) (by simp) (by simp) (by simp [s.handOn_table])
      (by simp [s.handOn_table])
    ownFollows := by
      refine ⟨fun _ m => s.finish_own.1 h.awake ?_, fun m => ?_⟩
      · rw [← m]; apply Eq.symm; exact State.mirror_congr cfg
      · have mirror : s.mirror = true := by rw [← m]; exact (State.mirror_congr cfg).symm
        rw [s.finish_own.2 (.inr mirror)]
        obtain ⟨-, -, -, -, o, -⟩ := h.mirrorReady mirror
        exact o
    causeFollows := by
      unfold State.CauseFollows
      rw [mode]
      refine ⟨s.finish_cause.1, fun m => ⟨s.finish_cause.2 m, fun _ => ?_⟩⟩
      rw [(s.finish_ret_of_no_shift m).1]
      exact h.noInterval m
    recordsOk := s.finish_recordsOk h.recordsOk
    shiftOk := s.finish_shiftOk h.shiftOk
    clockOk := h.clockOk.congr mode cfg (by simp) (by simp)
    paceOk := h.paceOk.congr mode cfg (by simp) (by simp) (by simp) (by simp) (by simp)
      (by simp [s.handOn_pace]) (by simp [s.handOn_pace]) (by simp [s.handOn_pace])
    storeOk := h.storeOk.congr (by simp)
    shownFollows := s.finish_shown
    slotsOk := s.finish_slotsOk h.slotsOk
    generatorOk := h.generatorOk.congr mode (by simp [s.handOn_bus])
    mirrorQuiet := h.mirrorReady.finish }

end Sys2Proof.Machine
end

section
namespace Sys2Proof.Machine

variable (s : State)

/-! ## A boundary, block by block (R91) -/

/-- The state in which the car counter returns at a boundary: records, calls, zone table, carried key and
mode have crossed. -/
def State.crossed (s : State) (shift serial : Nat) : State :=
  let r := s.setRet (s.ret.cross shift serial)
  let c := r.setCalls r.calls.forgetTimes
  ((c.setTable c.table.dropSilent).setAtt { c.att with carried := none }).crossMode shift

theorem State.boundary_steps (shift serial : Nat) :
    s.boundary shift serial =
      (((s.crossed shift serial).setCar 0).setSec
        { (s.crossed shift serial).sec with lastCar := none }).crossPace.evalPeak := rfl

theorem State.crossMode_mode (shift : Nat) :
    (s.crossMode shift).mode = if shift = 0 then .standby else .shift := by
  unfold State.crossMode
  by_cases h : shift = 0
  · by_cases m : s.mode = .standby <;> simp [h, m]
  · simp [h]

theorem State.crossMode_start (shift : Nat) :
    (s.crossMode shift).start = { s.start with
      dormantCount := if shift = 0 ∧ s.mode ≠ .standby then 0 else s.start.dormantCount } := by
  unfold State.crossMode
  by_cases h : shift = 0
  · by_cases m : s.mode = .standby <;> simp [h, m]
  · simp [h]

/-- A boundary's values outside the retained area. -/
theorem State.boundary_blocks (shift serial : Nat) :
    (s.boundary shift serial).mode = (if shift = 0 then .standby else .shift) ∧
    (s.boundary shift serial).calls = s.calls.forgetTimes ∧
    (s.boundary shift serial).sec = { s.sec with lastCar := none } ∧
    (s.boundary shift serial).table = s.table.dropSilent ∧
    (s.boundary shift serial).att = { s.att with carried := none } ∧
    (s.boundary shift serial).start = { s.start with
      dormantCount := if shift = 0 ∧ s.mode ≠ .standby then 0 else s.start.dormantCount } := by
  rw [s.boundary_steps]
  simp [State.crossed, State.crossMode_mode, State.crossMode_start]
  rfl

/-- An evaluation of the target peak (R112). -/
theorem State.evalPeak_ret :
    s.evalPeak.ret = { s.ret with
      peak := (if s.mode = .shift ∧ s.clock.timeValid = true ∧
          s.pace.plan.any (fun x => x.usable) = true then
        s.pace.plan.map (fun x => max (s.ret.peak.getD 0) (targetAt x.entries s.clock.s))
        else s.ret.peak) } := by
  unfold State.evalPeak
  cases s.pace.plan with
  | none => simp
  | some x =>
    simp only [Option.any_some, Option.map_some]
    split <;> simp

theorem State.crossed_runs (shift serial : Nat) :
    (s.crossed shift serial).running = true ∧ (s.crossed shift serial).mirror = s.mirror :=
  ⟨State.crossMode_runs _ shift, State.mirror_congr (by simp [State.crossed])⟩

/-- A change of the car counter of a running board (R124). -/
theorem State.setCar_blocks (n : Nat) (hr : s.running = true) :
    (s.setCar n).bus = (if n = s.ret.car ∨ s.mirror = true then s.bus
      else { s.bus with count := s.bus.count.mark }) ∧
    (s.setCar n).pace = { s.pace with period := if n = s.ret.car then s.pace.period else 0 } ∧
    (s.setCar n).ret = { s.ret with car := n, actual := if n = s.ret.car then s.ret.actual else n } := by
  by_cases h : n = s.ret.car
  · subst h
    rw [(s.setCar_value _).2.1 rfl]
    simp
  · rw [(s.setCar_value n).2.2 h, State.mark_value]
    have run : ((s.setRet { s.ret with car := n, actual := n }).setPace
        { s.pace with period := 0 }).running = true := hr
    have mir : ((s.setRet { s.ret with car := n, actual := n }).setPace
        { s.pace with period := 0 }).mirror = s.mirror := rfl
    rw [run, mir]
    by_cases m : s.mirror = true
    · simp [m, h]
    · simp [m, h, Bus.setSlot, Bus.slot]

/-- COUNT and the pace unit at a boundary (R124, R125). -/
theorem State.boundary_pace (shift serial : Nat) :
    (s.boundary shift serial).bus = (if 0 = s.ret.car ∨ s.mirror = true then s.bus
      else { s.bus with count := s.bus.count.mark }) ∧
    (s.boundary shift serial).pace = { s.pace with
      plan := s.clock.plans.get shift, tEnd := tEndOf (s.clock.plans.get shift)
      source := none, sourceFree := false, silence := 0
      period := if 0 = s.ret.car then s.pace.period else 0 } := by
  have bus : (s.crossed shift serial).bus = s.bus := by simp [State.crossed]
  have pace : (s.crossed shift serial).pace = s.pace := by simp [State.crossed]
  have car : (s.crossed shift serial).ret.car = s.ret.car := by
    simp [State.crossed, Retained.cross_value]
  have num : (s.crossed shift serial).ret.shift = shift := by
    simp [State.crossed, Retained.cross_value]
  have clock : (s.crossed shift serial).clock = s.clock := by simp [State.crossed]
  obtain ⟨run, mir⟩ := s.crossed_runs shift serial
  obtain ⟨hb, hp, hr⟩ := (s.crossed shift serial).setCar_blocks 0 run
  rw [bus, mir, car] at hb
  rw [pace, car] at hp
  rw [s.boundary_steps]
  refine ⟨by simp [hb], ?_⟩
  simp [State.crossPace, State.runningPlan, hp, hr, num, clock]

/-- The retained area at a boundary (R80, R81, R112, R125): the ending record frozen, the new one begun,
the counter and the actual at 0, the peak at its first evaluation. -/
theorem State.boundary_ret (shift serial : Nat) :
    let p := s.clock.plans.get shift
    (s.boundary shift serial).ret =
      { s.ret.cross shift serial with
        car := 0, actual := 0
        peak :=
          if shift ≠ 0 ∧ s.clock.timeValid = true ∧ p.any (fun x => x.usable) = true then
            p.map (fun x => targetAt x.entries s.clock.s)
          else (tEndOf p).map (fun _ => 0) } := by
  intro p
  have ret : (s.crossed shift serial).ret = s.ret.cross shift serial := by simp [State.crossed]
  have num : (s.ret.cross shift serial).shift = shift := by simp [Retained.cross_value]
  have clock : (s.crossed shift serial).clock = s.clock := by simp [State.crossed]
  have mode : (s.crossed shift serial).mode = if shift = 0 then .standby else .shift := by
    simp [State.crossed, State.crossMode_mode]
  obtain ⟨run, -⟩ := s.crossed_runs shift serial
  obtain ⟨-, -, hr⟩ := (s.crossed shift serial).setCar_blocks 0 run
  rw [ret] at hr
  rw [s.boundary_steps]
  generalize hv : (((s.crossed shift serial).setCar 0).setSec
      { (s.crossed shift serial).sec with lastCar := none }).crossPace = v
  have vret : v.ret = { s.ret.cross shift serial with
      car := 0, actual := 0, peak := (tEndOf p).map (fun _ => 0) } := by
    simp [← hv, State.crossPace, State.runningPlan, hr, num, clock, p]
  have vplan : v.pace.plan = p := by
    simp [← hv, State.crossPace, State.runningPlan, hr, num, clock, p]
  have vmode : v.mode = .shift ↔ shift ≠ 0 := by
    have same : v.mode = (s.crossed shift serial).mode := by simp [← hv]
    rw [same, mode]
    by_cases h : shift = 0 <;> simp [h]
  have vclock : v.clock = s.clock := by simp [← hv, clock]
  rw [v.evalPeak_ret, vret, vplan, vclock]
  simp only [vmode]
  cases p with
  | none => rfl
  | some x =>
    have zero : (tEndOf (some x)).map (fun _ => 0) = none ∨ (tEndOf (some x)).map (fun _ => 0) = some 0 := by
      cases tEndOf (some x) <;> simp
    rcases zero with zero | zero <;> simp [zero]

end Sys2Proof.Machine
end

section
namespace Sys2Proof.Machine

variable {s : State}

theorem Mode.awake_of_runs {m : Mode} (h : m.runs = true) : m.awake = true := by
  cases m <;> simp_all [Mode.runs, Mode.awake]

theorem State.awake_of_running (h : s.running = true) : s.mode.awake = true := Mode.awake_of_runs h

theorem State.running_iff : s.running = true ↔ s.mode = .standby ∨ s.mode = .shift := by
  unfold State.running
  cases s.mode <;> simp [Mode.runs]

/-! ## Counts and free flags that no other block follows -/

/-- The state with the refresh, mark and period counts and the free flags of both sources replaced. -/
def State.recount (s : State) (refresh mark period : Nat) (free countFree : Bool) : State :=
  ((s.setTable { s.table with refreshCount := refresh }).setClock
    { s.clock with markCount := mark, sourceFree := free }).setPace
      { s.pace with period := period, sourceFree := countFree }

/-- A sound awake board stays sound, whatever these counts and flags are. -/
theorem State.Ok.recount (h : s.Ok) (ha : s.mode.awake = true) (refresh mark period : Nat)
    (free countFree : Bool) : (s.recount refresh mark period free countFree).Ok where
  atRest := fun k => absurd ha k
  cfgOk := h.cfgOk
  holdFollows := h.holdFollows
  callsOk := h.callsOk
  dormantOk := h.dormantOk
  sectionOk := h.sectionOk
  tableOk := h.tableOk
  ownFollows := h.ownFollows
  causeFollows := h.causeFollows
  recordsOk := h.recordsOk
  shiftOk := h.shiftOk
  clockOk := by
    obtain ⟨h1, h2, h3, h4, h5, h6, h7⟩ := h.clockOk
    refine ⟨h1, h2, h3, h4, h5, fun own => ?_, h7⟩
    obtain ⟨source, -, authority⟩ := h6 own
    have own : s.clock.sourceOwn = true := own
    exact ⟨source, by simp [State.recount, Clock.isFree, own, source], authority⟩
  paceOk := h.paceOk
  storeOk := h.storeOk
  shownFollows := h.shownFollows
  slotsOk := h.slotsOk
  generatorOk := h.generatorOk
  mirrorQuiet := h.mirrorQuiet

/-- A mark of a slot that holds no replies leaves a sound board sound (R156). -/
theorem State.Ok.mark (h : s.Ok) {i : SlotId} (hi : i ≠ .reply) : (s.mark i).Ok := by
  rw [s.mark_value]
  split
  · next run =>
    have inputs : (s.setBus (s.bus.setSlot i (s.bus.slot i).mark)).dispInputs = s.dispInputs := by
      apply State.dispInputs_congr <;> simp
    have record : (s.setBus (s.bus.setSlot i (s.bus.slot i).mark)).ownRecord = s.ownRecord := by
      apply State.ownRecord_congr <;> simp
    exact {
      atRest := fun k => absurd (State.awake_of_running run.1) k
      cfgOk := h.cfgOk
      holdFollows := h.holdFollows
      callsOk := h.callsOk
      dormantOk := h.dormantOk
      sectionOk := h.sectionOk
      tableOk := h.tableOk
      ownFollows := by
        obtain ⟨own, mirror⟩ := h.ownFollows
        exact ⟨fun ha hm => (own ha hm).trans record.symm, mirror⟩
      causeFollows := h.causeFollows
      recordsOk := h.recordsOk
      shiftOk := h.shiftOk
      clockOk := h.clockOk
      paceOk := h.paceOk
      storeOk := h.storeOk
      shownFollows := by
        have shown := h.shownFollows
        unfold State.ShownFollows
        rw [inputs]
        exact shown
      slotsOk := h.slotsOk.mark hi
      generatorOk := h.generatorOk.congr rfl (by simp)
      mirrorQuiet := fun hm => absurd (run.2.symm.trans hm) (by simp) }
  · exact h

/-- A sound board stays sound as time moves on. -/
theorem State.Ok.atTime (h : s.Ok) (t : Time) : (s.atTime t).Ok where
  atRest := h.atRest
  cfgOk := h.cfgOk
  holdFollows := h.holdFollows
  callsOk := h.callsOk
  dormantOk := h.dormantOk
  sectionOk := h.sectionOk
  tableOk := h.tableOk
  ownFollows := h.ownFollows
  causeFollows := h.causeFollows
  recordsOk := h.recordsOk
  shiftOk := h.shiftOk
  clockOk := h.clockOk
  paceOk := h.paceOk
  storeOk := h.storeOk
  shownFollows := h.shownFollows
  slotsOk := by
    obtain ⟨slots, waiting, flight, sleep, armed, slept, start⟩ := h.slotsOk
    exact ⟨slots, waiting, flight, sleep, armed, slept, fun x hx => Nat.le_trans (start x hx)
      (Nat.le_max_left ..)⟩
  generatorOk := h.generatorOk
  mirrorQuiet := h.mirrorQuiet

end Sys2Proof.Machine
end

section
namespace Sys2Proof.Machine

variable {s : State}

/-! ## One block replaced -/

theorem State.Ready.setCalls (h : s.Ready) {c : CallUnit} (hc : (s.setCalls c).CallsOk)
    (ha : s.mode = .dormant → c.list = [] ∧ c.overflow = none)
    (hm : s.mirror = true → c.list = [] ∧ c.overflow = none ∧ c.holdSound = none ∧ c.chirp = none) :
    (s.setCalls c).Ready where
  awake := h.awake
  cfgOk := h.cfgOk
  callsOk := hc
  asleep := ha
  sectionReady := h.sectionReady
  tableOk := h.tableOk
  recordsOk := h.recordsOk
  shiftOk := h.shiftOk
  noInterval := h.noInterval
  clockOk := h.clockOk
  paceOk := h.paceOk
  storeOk := h.storeOk
  slotsOk := h.slotsOk
  generatorOk := h.generatorOk
  mirrorReady := by
    intro m
    obtain ⟨bus, -, rest⟩ := h.mirrorReady m
    exact ⟨bus, hm m, rest⟩

theorem State.Ready.setTable (h : s.Ready) {z : ZoneTable} (hz : (s.setTable z).TableOk)
    (hm : s.mirror = true → z.clash = false ∧ z.own = .initial) : (s.setTable z).Ready where
  awake := h.awake
  cfgOk := h.cfgOk
  callsOk := h.callsOk
  asleep := h.asleep
  sectionReady := h.sectionReady
  tableOk := hz
  recordsOk := h.recordsOk
  shiftOk := h.shiftOk
  noInterval := h.noInterval
  clockOk := h.clockOk
  paceOk := h.paceOk
  storeOk := h.storeOk
  slotsOk := h.slotsOk
  generatorOk := h.generatorOk
  mirrorReady := by
    intro m
    obtain ⟨bus, calls, sec, -, -, rest⟩ := h.mirrorReady m
    exact ⟨bus, calls, sec, (hm m).1, (hm m).2, rest⟩

theorem State.Ready.setDisp (h : s.Ready) {d : Display} (hd : (s.setDisp d).StoreOk) :
    (s.setDisp d).Ready where
  awake := h.awake
  cfgOk := h.cfgOk
  callsOk := h.callsOk
  asleep := h.asleep
  sectionReady := h.sectionReady
  tableOk := h.tableOk
  recordsOk := h.recordsOk
  shiftOk := h.shiftOk
  noInterval := h.noInterval
  clockOk := h.clockOk
  paceOk := h.paceOk
  storeOk := hd
  slotsOk := h.slotsOk
  generatorOk := h.generatorOk
  mirrorReady := h.mirrorReady

/-- The derived times of a mirror are those of the default takt (R39). -/
theorem State.currentTimes_of_mirror {s u : State} (hc : u.cfg = s.cfg) (hm : s.mirror = true) :
    u.currentTimes = s.currentTimes := by
  have takt (v : State) (h : v.mirror = true) : v.currentTakt = v.cfg.defaultTakt := by
    simp [State.currentTakt, h]
  have hu : u.mirror = true := (State.mirror_congr hc).trans hm
  simp only [State.currentTimes, takt s hm, takt u hu, hc]

theorem State.Ready.setClock (h : s.Ready) {c : Clock} (hc : (s.setClock c).ClockOk)
    (hp : c.plans = s.clock.plans) (hm : s.mirror = true → c.authority = false) :
    (s.setClock c).Ready where
  awake := h.awake
  cfgOk := h.cfgOk
  callsOk := h.callsOk
  asleep := h.asleep
  sectionReady := h.sectionReady
  tableOk := h.tableOk
  recordsOk := h.recordsOk
  shiftOk := h.shiftOk
  noInterval := h.noInterval
  clockOk := hc
  paceOk := h.paceOk.congr rfl rfl hp rfl rfl rfl rfl rfl rfl rfl
  storeOk := h.storeOk
  slotsOk := h.slotsOk
  generatorOk := h.generatorOk
  mirrorReady := by
    intro m
    obtain ⟨bus, calls, sec, clash, own, -, times⟩ := h.mirrorReady m
    refine ⟨bus, calls, sec, clash, own, hm m, fun hr => ?_⟩
    rw [State.currentTimes_of_mirror (s := s) (u := s.setClock c) rfl m]
    exact times hr

/-- A mark of a slot that holds no replies leaves a board ready (R156). -/
theorem State.Ready.mark (h : s.Ready) {i : SlotId} (hi : i ≠ .reply) : (s.mark i).Ready := by
  rw [s.mark_value]
  split
  · next run =>
    exact {
      awake := h.awake
      cfgOk := h.cfgOk
      callsOk := h.callsOk
      asleep := h.asleep
      sectionReady := h.sectionReady
      tableOk := h.tableOk
      recordsOk := h.recordsOk
      shiftOk := h.shiftOk
      noInterval := h.noInterval
      clockOk := h.clockOk
      paceOk := h.paceOk
      storeOk := h.storeOk
      slotsOk := h.slotsOk.mark hi
      generatorOk := h.generatorOk.congr rfl (by simp)
      mirrorReady := fun hm => absurd (run.2.symm.trans hm) (by simp) }
  · exact h

/-! ## The end of a shift -/

theorem Record.ok_freeze {r : Record} (h : r.Ok) (p : ClosePair) :
    (r.freeze p).Ok ∧ (r.freeze p).close ≠ none := by
  have frozen : ({ r with close := some p } : Record).Ok := h
  exact ⟨Record.ok_advance frozen, by simp [Record.freeze, Record.advance]⟩

theorem CallUnit.forgetTimes_ok (h : s.CallsOk) : (s.setCalls s.calls.forgetTimes).CallsOk := by
  obtain ⟨len, distinct, ok, overflow, trackers, pins⟩ := h
  refine ⟨by simpa [CallUnit.forgetTimes] using len, ?_, fun x hx => ?_, fun o ho => ?_, trackers, pins⟩
  · simpa [CallUnit.forgetTimes, List.pairwise_map] using distinct
  · obtain ⟨y, hy, rfl⟩ := List.mem_map.mp hx
    obtain ⟨h1, h2, h3, h4, h5, -, h7⟩ := ok y hy
    exact ⟨h1, h2, h3, h4, h5, by simp, h7⟩
  · obtain ⟨y, -, rfl⟩ := Option.map_eq_some_iff.mp ho
    simp

theorem ZoneTable.dropSilent_ok (h : s.TableOk) : (s.setTable s.table.dropSilent).TableOk := by
  obtain ⟨ordered, entries, mirrored, count, met⟩ := h
  refine ⟨ordered.sublist List.filter_sublist, fun e he => entries e (List.mem_of_mem_filter he),
    fun e he => ?_, count, met⟩
  apply mirrored
  cases hz : s.table.mirrored with
  | none => simp [ZoneTable.dropSilent, hz] at he
  | some x =>
    simp only [State.setTable_table, ZoneTable.dropSilent, hz, Option.mem_def] at he ⊢
    split at he
    · exact he
    · exact absurd he (by simp)

theorem nextSerial_le (x : Option Nat) : nextSerial x ≤ 255 := by
  unfold nextSerial
  split <;> omega

theorem Retained.cross_last (h : s.RecordsOk) (shift serial : Nat) :
    ∀ r ∈ (s.ret.cross shift serial).last, r.Ok ∧ r.close ≠ none := by
  obtain ⟨-, -, -, -, absent, frozen, -⟩ := s.ret.cross_value shift serial
  intro r hr
  cases hc : s.ret.current with
  | none =>
    rw [absent hc] at hr
    exact h.2.1 r hr
  | some c =>
    obtain ⟨d, hd, hl⟩ := frozen c hc
    rw [hl] at hr
    rw [← Option.some.inj hr]
    exact Record.ok_freeze (h.closeInterval d hd).1 _

/-- A running board that crosses into shift 0 stays ready (R91). -/
theorem State.Ready.boundary_zero (h : s.Ready) (hr : s.running = true) (hs : s.clock.s = 0)
    {serial : Nat} (hn : serial ≤ 255) : (s.boundary 0 serial).Ready := by
  obtain ⟨mode, calls, sec, table, att, start⟩ := s.boundary_blocks 0 serial
  obtain ⟨bus, pace⟩ := s.boundary_pace 0 serial
  have ret := s.boundary_ret 0 serial
  obtain ⟨num, ser, interval, current, -⟩ := s.ret.cross_value 0 serial
  have cfg : (s.boundary 0 serial).cfg = s.cfg := by simp
  have clock : (s.boundary 0 serial).clock = s.clock := by simp
  have mode : (s.boundary 0 serial).mode = .standby := mode
  have run : (s.boundary 0 serial).running = true := by simp [State.running, mode, Mode.runs]
  have adv : (s.boundary 0 serial).advSampled = s.advSampled := by
    simp only [State.advSampled, run, hr, State.mirror_congr cfg]
  have plan : s.clock.plans.get 0 = none := rfl
  have current : (s.boundary 0 serial).ret.current = none := by rw [ret]; exact current
  have num : (s.boundary 0 serial).ret.shift = 0 := by rw [ret]; exact num
  have ser : (s.boundary 0 serial).ret.serial = some serial := by rw [ret]; exact ser
  have interval : (s.boundary 0 serial).ret.interval = none := by rw [ret]; exact interval
  exact {
    awake := by rw [mode]; rfl
    cfgOk := by rw [cfg]; exact h.cfgOk
    callsOk := (CallUnit.forgetTimes_ok h.callsOk).congr calls (by simp)
    asleep := fun m => absurd (mode.symm.trans m) (by simp)
    sectionReady := by
      unfold State.SectionReady
      rw [sec, adv, (s.boundary_frame 0 serial).2.2.2.2.1]
      exact h.sectionReady
    tableOk := by
      apply (ZoneTable.dropSilent_ok h.tableOk).congr <;> simp [table]
    recordsOk := by
      refine ⟨fun r hr => absurd (current.symm.trans hr) (by simp), fun r hr => ?_,
        fun i hi => absurd (interval.symm.trans hi) (by simp)⟩
      rw [ret] at hr
      exact Retained.cross_last h.recordsOk 0 serial r hr
    shiftOk := by
      refine ⟨by rw [num]; omega, by simp [current, num], fun r hr => absurd (current.symm.trans hr)
        (by simp), fun x hx => ?_, fun _ => by simp [mode, num], by simp [interval]⟩
      rw [← Option.some.inj (ser.symm.trans hx)]
      exact hn
    noInterval := fun _ => interval
    clockOk := by
      obtain ⟨h1, h2, h3, -, h5, h6, h7⟩ := h.clockOk
      unfold State.ClockOk
      rw [clock, cfg, ser]
      refine ⟨h1, h2, h3, fun _ _ => hs, fun ha => ?_, h6, h7⟩
      exact ⟨(h5 ha).1, by simp, (h5 ha).2.2⟩
    paceOk := by
      have running : (s.boundary 0 serial).runningPlan = none := by
        simp only [State.runningPlan, clock, num]
        rfl
      unfold State.PaceOk
      rw [running, pace, ret]
      exact ⟨by simp, by simp, by simp, fun _ =>
        ⟨rfl, rfl, by simp [plan, tEndOf], by simp [plan, tEndOf], fun _ => rfl, fun _ => rfl⟩⟩
    storeOk := h.storeOk.congr (by simp)
    slotsOk := by
      have same : ∀ b : Bus, (s.setBus b).SlotsOk →
          (s.boundary 0 serial).bus = b → (s.boundary 0 serial).SlotsOk := by
        rintro b ⟨slots, waiting, flight, -, armed, -, begun⟩ hb
        unfold State.SlotsOk
        rw [hb, run, (s.boundary_frame 0 serial).2.1, (s.boundary_frame 0 serial).2.2.2.2.2.2.2]
        exact ⟨slots, waiting, flight, fun m => absurd (mode.symm.trans m) (by simp),
          fun ha => ⟨rfl, (armed ha).2⟩, fun m => absurd (mode.symm.trans m) (by simp), begun⟩
      split at bus
      · exact same _ h.slotsOk bus
      · exact same _ (h.slotsOk.mark (i := .count) (by simp)) bus
    generatorOk := by
      obtain ⟨seed, awake⟩ := h.generatorOk
      have rng : (s.boundary 0 serial).bus.rng = s.bus.rng := by
        rw [bus]
        split <;> rfl
      unfold State.GeneratorOk
      rw [rng]
      exact ⟨seed, fun _ => awake h.awake⟩
    mirrorReady := by
      intro hm
      have mirror : s.mirror = true := (State.mirror_congr cfg).symm.trans hm
      obtain ⟨b, ⟨c1, c2, c3, c4⟩, m, clash, own, authority, times⟩ := h.mirrorReady mirror
      rw [bus, if_pos (.inr mirror), calls, sec, table, clock, (s.boundary_frame 0 serial).2.2.2.2.2.2.2,
        State.currentTimes_of_mirror cfg mirror]
      exact ⟨b, ⟨by simp [CallUnit.forgetTimes, c1], by simp [CallUnit.forgetTimes, c2], c3, c4⟩, m, clash,
        own, authority, fun _ => times hr⟩ }

end Sys2Proof.Machine
end

section
namespace Sys2Proof.Machine

variable {s : State}

/-! ## What is outstanding, done one limit at a time, leaves the board sound -/

theorem State.Ok.expireHolds (h : s.Ok) : s.expireHolds.Ok := by
  unfold State.expireHolds
  split
  · next reached =>
    simp only [Bool.and_eq_true] at reached
    have ready := h.ready (State.awake_of_running reached.1)
    refine (ready.setCalls ?_ (fun m => ?_) (fun m => ?_)).finish
    · obtain ⟨len, distinct, ok, overflow, trackers, pins⟩ := h.callsOk
      have same (x : Call) : (if s.cfg.timedOut x then { x with state := .overdue } else x).station =
          x.station ∧ (if s.cfg.timedOut x then { x with state := .overdue } else x).kind = x.kind := by
        split <;> simp
      refine ⟨by simpa using len, ?_, fun x hx => ?_, overflow, trackers, pins⟩
      · simpa [List.pairwise_map, same] using distinct
      · obtain ⟨y, hy, rfl⟩ := List.mem_map.mp hx
        obtain ⟨h1, h2, h3, h4, h5, h6, h7⟩ := ok y hy
        split
        · next out =>
          obtain ⟨holding, kind, -⟩ := (s.cfg.timedOut_iff y).mp out
          exact ⟨h1, h2, h3, h4, by simpa [holding] using h5, h6, fun k => absurd k kind⟩
        · exact ⟨h1, h2, h3, h4, h5, h6, h7⟩
    · obtain ⟨list, overflow⟩ := ready.asleep m
      exact ⟨by simp [list], overflow⟩
    · obtain ⟨-, ⟨list, rest⟩, -⟩ := ready.mirrorReady m
      exact ⟨by simp [list], rest⟩
  · exact h

theorem State.Ok.silenceEntries (h : s.Ok) : s.silenceEntries.Ok := by
  unfold State.silenceEntries
  split
  · next reached =>
    simp only [Bool.and_eq_true] at reached
    have ready := h.ready reached.1
    have quiet (e : PeerEntry) (ok : e.Ok) :
        (if e.overdue then { e with live := false } else e : PeerEntry).Ok ∧
        (if e.overdue then { e with live := false } else e : PeerEntry).zone = e.zone := by
      split
      · exact ⟨ok, rfl⟩
      · exact ⟨ok, rfl⟩
    refine (ready.setTable ?_ (fun m => ?_)).finish
    · obtain ⟨ordered, entries, mirrored, count, met⟩ := h.tableOk
      refine ⟨?_, fun e he => ?_, fun e he => ?_, count, met⟩
      · have zone (e : PeerEntry) :
            (if e.overdue then { e with live := false } else e : PeerEntry).zone = e.zone := by
          split <;> rfl
        simpa [List.pairwise_map, zone] using ordered
      · obtain ⟨x, hx, rfl⟩ := List.mem_map.mp he
        obtain ⟨ok, other⟩ := entries x hx
        exact ⟨(quiet x ok).1, by rw [(quiet x ok).2]; exact other⟩
      · obtain ⟨x, hx, rfl⟩ := Option.map_eq_some_iff.mp he
        obtain ⟨ok, own, mirror⟩ := mirrored x hx
        exact ⟨(quiet x ok).1, by rw [(quiet x ok).2]; exact own, mirror⟩
    · obtain ⟨-, -, -, clash, own, -⟩ := ready.mirrorReady m
      exact ⟨clash, own⟩
  · exact h

theorem State.Ok.expireClash (h : s.Ok) : s.expireClash.Ok := by
  unfold State.expireClash
  split
  · next reached =>
    simp only [Bool.and_eq_true, decide_eq_true_eq] at reached
    obtain ⟨⟨awake, -⟩, full⟩ := reached
    have ready := h.ready awake
    refine (ready.setTable ?_ (fun m => ?_)).finish
    · obtain ⟨ordered, entries, mirrored, -, met⟩ := h.tableOk
      refine ⟨ordered, entries, mirrored, by simp, fun k => ?_⟩
      have := (met k).2
      omega
    · obtain ⟨-, -, -, -, own, -⟩ := ready.mirrorReady m
      exact ⟨rfl, own⟩
  · exact h

theorem State.Ok.expireRefresh (h : s.Ok) : s.expireRefresh.Ok := by
  unfold State.expireRefresh
  split
  · next reached =>
    simp only [Bool.and_eq_true] at reached
    exact (h.recount (State.awake_of_running reached.1) 0 s.clock.markCount s.pace.period
      s.clock.sourceFree s.pace.sourceFree).mark (i := .status) (by simp)
  · exact h

theorem State.Ok.expireMarkCount (h : s.Ok) : s.expireMarkCount.Ok := by
  unfold State.expireMarkCount
  split
  · next reached =>
    simp only [Bool.and_eq_true] at reached
    exact (h.recount (State.awake_of_running reached.1.1) s.table.refreshCount 0 s.pace.period
      s.clock.sourceFree s.pace.sourceFree).mark (i := .time) (by simp)
  · exact h

theorem State.Ok.expirePeriod (h : s.Ok) : s.expirePeriod.Ok := by
  unfold State.expirePeriod
  split
  · next reached =>
    simp only [Bool.and_eq_true] at reached
    exact (h.recount (State.awake_of_running reached.1.1.1) s.table.refreshCount s.clock.markCount 0
      s.clock.sourceFree s.pace.sourceFree).mark (i := .count) (by simp)
  · exact h

theorem State.Ok.expireSilence (h : s.Ok) : s.expireSilence.Ok := by
  unfold State.expireSilence
  split
  · next reached =>
    simp only [Bool.and_eq_true] at reached
    exact h.recount reached.1.1 s.table.refreshCount s.clock.markCount s.pace.period true
      s.pace.sourceFree
  · exact h

theorem State.Ok.expireCountSilence (h : s.Ok) : s.expireCountSilence.Ok := by
  unfold State.expireCountSilence
  split
  · next reached =>
    simp only [Bool.and_eq_true] at reached
    exact h.recount reached.1.1 s.table.refreshCount s.clock.markCount s.pace.period
      s.clock.sourceFree true
  · exact h

/-- A state that agrees with another in every block but the display differs by its display. -/
theorem State.eq_setDisp {u v : State} (h1 : u.pending = v.pending) (h2 : u.now = v.now)
    (h3 : u.mode = v.mode) (h4 : u.cfg = v.cfg) (h5 : u.pins = v.pins) (h6 : u.out = v.out)
    (h7 : u.calls = v.calls) (h8 : u.sec = v.sec) (h9 : u.table = v.table) (h10 : u.att = v.att)
    (h11 : u.ret = v.ret) (h12 : u.check = v.check) (h13 : u.clock = v.clock) (h14 : u.pace = v.pace)
    (h15 : u.bus = v.bus) (h16 : u.req = v.req) (h17 : u.start = v.start) : u = v.setDisp u.disp := by
  cases u
  cases v
  simp only at *
  subst_vars
  rfl

theorem State.expireMessages_setDisp (s : State) : s.expireMessages = s.setDisp s.expireMessages.disp := by
  apply State.eq_setDisp <;> simp

theorem State.messagesLeft_store (s : State) (gone : List MsgKey) (old : List Message) :
    (s.messagesLeft gone old).disp.store = s.disp.store := by
  unfold State.messagesLeft
  dsimp only
  repeat' split
  all_goals simp [State.chooseItem_disp]

/-- The messages whose duration has run out leave the store (R150). -/
theorem State.expireMessages_store (s : State) :
    s.expireMessages.disp.store = s.disp.store.filter (fun m => m.remaining ≠ 0) := by
  unfold State.expireMessages
  dsimp only
  split
  · next none =>
    apply Eq.symm
    rw [List.filter_eq_self]
    simp only [keysOf, List.isEmpty_iff, List.map_eq_nil_iff, List.filter_eq_nil_iff,
      decide_eq_true_eq] at none
    simpa using none
  · rw [State.messagesLeft_store]
    simp

theorem State.Ok.expireDurations (h : s.Ok) : s.expireDurations.Ok := by
  unfold State.expireDurations
  split
  · next reached =>
    simp only [Bool.and_eq_true] at reached
    rw [s.expireMessages_setDisp]
    refine ((h.ready reached.1).setDisp ?_).finish
    obtain ⟨len, keys, order, ok⟩ := h.storeOk
    unfold State.StoreOk
    rw [State.setDisp_disp, s.expireMessages_store]
    exact ⟨Nat.le_trans (List.length_filter_le ..) len, keys.sublist List.filter_sublist,
      order.sublist List.filter_sublist, fun m hm => ok m (List.mem_of_mem_filter hm)⟩
  · exact h

/-- The serial stands while a shift runs (R75). -/
theorem State.ShiftOk.serial (h : s.ShiftOk) (m : s.mode = .shift) : s.ret.serial ≠ none := by
  obtain ⟨-, stands, bears, -, mode, -⟩ := h
  have present := stands.mpr ((mode (by rw [m]; rfl)).mp m)
  obtain ⟨r, hr⟩ := Option.isSome_iff_exists.mp present
  rw [(bears r hr).2]
  simp

theorem State.overtimeReached_mode (h : s.overtimeReached = true) : s.mode = .shift := by
  simp only [State.overtimeReached, Bool.and_eq_true, decide_eq_true_eq] at h
  exact h.1

/-- The end of a shift at its overtime limit leaves the board ready (R90). -/
theorem State.Ready.endOvertime (h : s.Ready) (m : s.mode = .shift) : s.endOvertime.Ready := by
  have run : s.running = true := State.running_iff.mpr (.inr m)
  have clock : (s.setClock { s.clock with s := 0, pause := 0 }).ClockOk := by
    obtain ⟨-, -, h3, -, h5, h6, h7⟩ := h.clockOk
    exact ⟨by simp, by simp, h3, fun _ _ => rfl, h5, h6, h7⟩
  have authority (hm : s.mirror = true) : s.clock.authority = false := by
    obtain ⟨-, -, -, -, -, none, -⟩ := h.mirrorReady hm
    exact none
  have crossed := (h.setClock clock rfl authority).boundary_zero run rfl (nextSerial_le s.ret.serial)
  unfold State.endOvertime
  dsimp only
  split
  · refine State.Ready.mark ?_ (by simp)
    exact crossed.setClock crossed.clockOk rfl (fun hm => by
      obtain ⟨-, -, -, -, -, none, -⟩ := crossed.mirrorReady hm
      exact none)
  · exact crossed

theorem State.Ok.expireOvertime (h : s.Ok) : s.expireOvertime.Ok := by
  unfold State.expireOvertime
  split
  · next reached =>
    have m := State.overtimeReached_mode reached
    exact ((h.ready (by rw [m]; rfl)).endOvertime m).finish
  · exact h

theorem Slot.sleep_value (x : Slot) :
    x.sleep.remark = false ∧ x.sleep.state ≠ .pending ∧ (x.sleep.state = .sending ↔ x.state = .sending) ∧
    (x.Ok → x.sleep.Ok) := by
  unfold Slot.sleep
  cases hs : x.state with
  | empty =>
    exact ⟨rfl, by simp [Slot.clear], by simp [Slot.clear],
      fun _ => ⟨by simp [Slot.clear], fun _ => rfl, fun _ => rfl⟩⟩
  | pending =>
    exact ⟨rfl, by simp [Slot.clear], by simp [Slot.clear],
      fun _ => ⟨by simp [Slot.clear], fun _ => rfl, fun _ => rfl⟩⟩
  | sending => exact ⟨rfl, by simp, by simp, fun ok => ⟨ok.1, by simp, by simp⟩⟩

theorem State.dormantReached_iff :
    s.dormantReached = true ↔ s.mode = .standby ∧ s.cfg.dormantOn = true ∧
      s.cfg.dormantMinutes * 60 ≤ s.start.dormantCount := by
  simp [State.dormantReached, and_assoc]

/-- No call stands when the dormant count is at its limit (R195). -/
theorem State.Ok.empty_of_dormantReached (h : s.Ok) (r : s.dormantReached = true) :
    s.calls.list = [] ∧ s.calls.overflow = none := by
  obtain ⟨mode, on, full⟩ := State.dormantReached_iff.mp r
  by_contra stands
  have some : s.calls.list ≠ [] ∨ s.calls.overflow ≠ none := by
    by_contra none
    simp only [not_or, not_not] at none
    exact stands none
  have zero := h.dormantOk.2 mode some
  have minutes : 5 ≤ s.cfg.dormantMinutes := by
    obtain ⟨-, -, -, -, -, -, -, -, -, -, -, -, -, -, -, -, -, -, -, -, -, -, -, -, -, -, -, -, dormant⟩ :=
      h.cfgOk (by rw [mode]; rfl)
    exact (dormant on).1
  omega

end Sys2Proof.Machine
end

section
namespace Sys2Proof.Machine

variable {s : State}

/-! ## The entry into DORMANT (R195) -/

theorem Bus.sleep_slot (b : Bus) (i : SlotId) : b.sleep.slot i = (b.slot i).sleep := by
  cases i <;> rfl

/-- The state that the entry into DORMANT hands on. -/
def State.asleep (s : State) : State :=
  let s := (s.setMode .dormant).setStart { s.start with dormantCount := 0 }
  let s := s.setSec { s.sec with
    motion := .unknown, lastPulse := none, window := [], run := 0, encFault := false
    stopTimer := none, holdTimer := none, holdFail := false }
  let s := s.setTable { s.table with
    starved := ⟨s.now, false⟩, blocked := ⟨s.now, false⟩ }
  let s := s.setAtt { s.att with readBack := ⟨s.now, false⟩ }
  let s := s.setDisp { s.disp with
    running := none, pending := none, page := 1, pageTimer := none, flashDue := none }
  (s.setBus s.bus.sleep).setReq { s.req with waiting := none }

theorem State.enterDormant_finish : s.enterDormant = s.asleep.finish := rfl

theorem State.SlotsOk.asleep (h : s.SlotsOk) : s.asleep.SlotsOk := by
  obtain ⟨slots, -, flight, -, -, -, begun⟩ := h
  obtain ⟨remark, idle, sends, -⟩ := s.bus.reply.sleep_value
  refine ⟨fun i hi => ?_, ?_, ?_, fun _ => remark, ?_, fun _ x hx => ?_, fun x hx => ?_⟩
  · obtain ⟨ok, tx⟩ := slots i hi
    obtain ⟨-, -, same, keep⟩ := (s.bus.slot i).sleep_value
    have slot : s.asleep.bus.slot i = (s.bus.slot i).sleep := s.bus.sleep_slot i
    have attempt : s.asleep.bus.tx.map (fun x => x.slot) = s.bus.tx.map (fun x => x.slot) := by
      simp [State.asleep, Bus.sleep, Function.comp_def]
    rw [slot, attempt]
    exact ⟨keep ok, same.trans tx⟩
  · have idle : s.asleep.bus.reply.state ≠ .pending := idle
    have remark : s.asleep.bus.reply.remark = false := remark
    have waiting : s.asleep.req.waiting = none := rfl
    simp [idle, remark, waiting]
  · exact flight.trans sends.symm
  · have armed : s.asleep.bus.armed = false := rfl
    simp [armed]
  · obtain ⟨y, -, rfl⟩ := Option.map_eq_some_iff.mp hx
    rfl
  · obtain ⟨y, hy, rfl⟩ := Option.map_eq_some_iff.mp hx
    exact begun y hy

/-- The entry into DORMANT leaves the board ready (R195). -/
theorem State.Ok.asleep_ready (h : s.Ok) (r : s.dormantReached = true) : s.asleep.Ready := by
  obtain ⟨mode, -, -⟩ := State.dormantReached_iff.mp r
  have awake : s.mode.awake = true := by rw [mode]; rfl
  have ready := h.ready awake
  have off : s.mode ≠ .shift := by simp [mode]
  exact {
    awake := rfl
    cfgOk := ready.cfgOk
    callsOk := ready.callsOk
    asleep := fun _ => h.empty_of_dormantReached r
    sectionReady := ⟨by simp [State.asleep], by simp [State.asleep], fun k => absurd k (by simp [State.asleep]),
      fun k => absurd k (by simp [State.asleep]), fun k => absurd k (by simp [State.advSampled, State.running,
        State.asleep, Mode.runs]), fun _ => ⟨rfl, rfl⟩⟩
    tableOk := ready.tableOk
    recordsOk := ready.recordsOk
    shiftOk := by
      obtain ⟨h1, h2, h3, h4, h5, h6⟩ := ready.shiftOk
      refine ⟨h1, h2, h3, h4, fun _ => ?_, h6⟩
      have none : s.ret.shift = 0 := by
        by_contra k
        exact off ((h5 awake).mpr k)
      simp [none, State.asleep]
    noInterval := fun _ => ready.noInterval off
    clockOk := by
      obtain ⟨h1, h2, h3, h4, rest⟩ := ready.clockOk
      exact ⟨h1, h2, h3, fun _ _ => h4 awake off, rest⟩
    paceOk := by
      obtain ⟨h1, h2, h3, h4⟩ := ready.paceOk
      exact ⟨h1, h2, h3, fun _ => h4 awake⟩
    storeOk := ready.storeOk
    slotsOk := ready.slotsOk.asleep
    generatorOk := ⟨ready.generatorOk.1, fun _ => ready.generatorOk.2 awake⟩
    mirrorReady := by
      intro hm
      obtain ⟨⟨tx, jam, -, trouble, reply, status, count, time, -⟩, calls, -, clash, own, authority, -⟩ :=
        ready.mirrorReady hm
      have slept (x : Slot) (hx : x.state = .empty) : x.sleep.state = .empty := by
        simp [Slot.sleep, hx, Slot.clear]
      refine ⟨⟨?_, jam, rfl, trouble, slept _ reply, slept _ status, slept _ count, slept _ time, rfl⟩,
        calls, ⟨rfl, rfl, rfl, rfl⟩, clash, own, authority, fun k => absurd k (by
          simp [State.running, State.asleep, Mode.runs])⟩
      simp [State.asleep, Bus.sleep, tx] }

theorem State.Ok.expireDormant (h : s.Ok) : s.expireDormant.Ok := by
  unfold State.expireDormant
  split
  · next reached => exact (h.asleep_ready reached).finish
  · exact h

/-! ## Everything that is outstanding -/

theorem State.Ok.settle (h : s.Ok) : s.settle.Ok :=
  h.expireHolds.silenceEntries.expireClash.expireRefresh.expireMarkCount.expirePeriod.expireSilence
    |>.expireCountSilence.expireDurations.expireOvertime.expireDormant

/-- A sound board is sound as a command finds it. -/
theorem State.Ok.begin (h : s.Ok) (t : Time) : (s.begin_ t).Ok := h.settle.atTime t

end Sys2Proof.Machine
end

section
namespace Sys2Proof.Machine

variable {s : State}

/-! ## Nothing is outstanding where every limit was acted on (log 3) -/

/-- Nothing outstanding leaves a board as it stands. -/
theorem State.Quiet.settle (h : s.Quiet) : s.settle = s := by
  obtain ⟨holds, entries, mirrored, clash, refresh, mark, period, silence, count, store, overtime,
    dormant⟩ := h
  have h1 : s.expireHolds = s := if_neg (by
    simp only [Bool.and_eq_true, List.any_eq_true, not_and]
    rintro hr ⟨x, hx, k⟩
    exact absurd (holds hr x hx) (by simp [k]))
  have h2 : s.silenceEntries = s := if_neg (by
    simp only [Bool.and_eq_true, Bool.or_eq_true, List.any_eq_true, Option.any_eq_true, not_and]
    rintro ha (⟨x, hx, k⟩ | ⟨x, hx, k⟩)
    · exact absurd (entries ha x hx) (by simp [k])
    · exact absurd (mirrored ha x hx) (by simp [k]))
  have h3 : s.expireClash = s := if_neg (by
    simp only [Bool.and_eq_true, decide_eq_true_eq, not_and, Nat.not_le]
    exact fun k => clash k.1 k.2)
  have h4 : s.expireRefresh = s := if_neg (by
    simp only [Bool.and_eq_true, decide_eq_true_eq, not_and, Nat.not_le]
    exact refresh)
  have h5 : s.expireMarkCount = s := if_neg (by
    simp only [Bool.and_eq_true, decide_eq_true_eq, not_and, Nat.not_le]
    exact fun k => mark k.1 k.2)
  have h6 : s.expirePeriod = s := if_neg (by
    simp only [Bool.and_eq_true, decide_eq_true_eq, not_and, Nat.not_le, Option.isSome_iff_ne_none]
    exact fun k => period k.1.1 k.1.2 k.2)
  have h7 : s.expireSilence = s := by
    unfold State.expireSilence
    split
    · next reached =>
      simp only [Bool.and_eq_true, decide_eq_true_eq] at reached
      have free : s.clock.sourceFree = true :=
        (silence reached.1.1 reached.1.2).resolve_left (Nat.not_lt.mpr reached.2)
      rw [← free]
      rfl
    · rfl
  have h8 : s.expireCountSilence = s := by
    unfold State.expireCountSilence
    split
    · next reached =>
      simp only [Bool.and_eq_true, decide_eq_true_eq, Option.isSome_iff_ne_none] at reached
      have free : s.pace.sourceFree = true :=
        (count reached.1.1 reached.1.2).resolve_left (Nat.not_lt.mpr reached.2)
      rw [← free]
      rfl
    · rfl
  have h9 : s.expireDurations = s := if_neg (by
    simp only [Bool.and_eq_true, List.any_eq_true, decide_eq_true_eq, not_and]
    rintro ha ⟨m, hm, k⟩
    exact store ha m hm k)
  have h10 : s.expireOvertime = s := if_neg (by simp [overtime])
  have h11 : s.expireDormant = s := if_neg (by simp [dormant])
  simp only [State.settle, h1, h2, h3, h4, h5, h6, h7, h8, h9, h10, h11]

/-- The clauses of `State.Quiet` about the counts that the last two limits may find: all but overtime and
dormant count. -/
structure State.CountsQuiet (s : State) : Prop where
  holds : s.running = true → ∀ x ∈ s.calls.list, s.cfg.timedOut x = false
  entries : s.mode.awake = true → ∀ e ∈ s.table.entries, e.overdue = false
  mirrored : s.mode.awake = true → ∀ e ∈ s.table.mirrored, e.overdue = false
  clash : s.mode.awake = true → s.table.clash = true → s.table.clashCount < 60
  refresh : s.running = true → s.table.refreshCount < s.cfg.refresh
  mark : s.running = true → s.clock.authority = true → s.clock.markCount < 10
  period : s.running = true → s.cfg.roles.countPoint = true → s.ret.serial ≠ none → s.pace.period < 10
  silence : s.mode.awake = true → s.sourceIsOther = true → s.clock.silence < 30 ∨ s.clock.sourceFree = true
  count : s.mode.awake = true → s.pace.source ≠ none → s.pace.silence < 30 ∨ s.pace.sourceFree = true
  store : s.mode.awake = true → ∀ m ∈ s.disp.store, m.remaining ≠ 0

theorem State.CountsQuiet.quiet (h : s.CountsQuiet) (ho : s.overtimeReached = false)
    (hd : s.dormantReached = false) : s.Quiet :=
  ⟨h.holds, h.entries, h.mirrored, h.clash, h.refresh, h.mark, h.period, h.silence, h.count, h.store, ho, hd⟩

/-! ## What each limit leaves -/

theorem State.handOn_table_kept (s : State) :
    s.handOn.table.refreshCount = s.table.refreshCount ∧ s.handOn.table.clashCount = s.table.clashCount := by
  simp [s.handOn_table]

theorem State.expireHolds_quiet (s : State) :
    s.running = true → ∀ x ∈ s.expireHolds.calls.list, s.cfg.timedOut x = false := by
  intro hr x hx
  unfold State.expireHolds at hx
  split at hx
  · simp only [State.finish_frame, State.setCalls_calls, List.mem_map] at hx
    obtain ⟨y, -, rfl⟩ := hx
    split
    · simp [Cfg.timedOut]
    · next k => simpa using k
  · next k =>
    simp only [hr, Bool.true_and, List.any_eq_true, not_exists, not_and, Bool.not_eq_true] at k
    exact k x hx

theorem State.silenceEntries_quiet (s : State) (ha : s.mode.awake = true) :
    (∀ e ∈ s.silenceEntries.table.entries, e.overdue = false) ∧
    (∀ e ∈ s.silenceEntries.table.mirrored, e.overdue = false) := by
  have silent (x : PeerEntry) :
      (if x.overdue then { x with live := false } else x : PeerEntry).overdue = false := by
    split
    · simp [PeerEntry.overdue]
    · next k => simpa using k
  unfold State.silenceEntries
  split
  · simp only [State.finish_blocks, State.handOn_kept, State.setTable_table]
    refine ⟨fun e he => ?_, fun e he => ?_⟩
    · obtain ⟨x, -, rfl⟩ := List.mem_map.mp he
      exact silent x
    · obtain ⟨x, -, rfl⟩ := Option.map_eq_some_iff.mp he
      exact silent x
  · next k =>
    simp only [ha, Bool.true_and, Bool.or_eq_true, List.any_eq_true, Option.any_eq_true, not_or, not_exists,
      not_and, Bool.not_eq_true] at k
    exact k

theorem State.expireClash_quiet (s : State) (ha : s.mode.awake = true) :
    s.expireClash.table.clash = true → s.expireClash.table.clashCount < 60 := by
  unfold State.expireClash
  split
  · simp
  · next k =>
    simp only [ha, Bool.true_and, Bool.and_eq_true, decide_eq_true_eq, not_and, Nat.not_le] at k
    exact k

theorem State.expireRefresh_quiet (s : State) (hr : s.running = true) (hc : 1 ≤ s.cfg.refresh) :
    s.expireRefresh.table.refreshCount < s.cfg.refresh := by
  unfold State.expireRefresh
  split
  · simp only [State.mark_frame, State.setTable_table]
    omega
  · next k =>
    simp only [hr, Bool.true_and, decide_eq_true_eq, Nat.not_le] at k
    exact k

theorem State.markTime_count (s : State) :
    s.markTime.clock = { s.clock with markCount := 0 } := by
  simp [State.markTime]

theorem State.expireMarkCount_clock (s : State) :
    s.expireMarkCount.clock = { s.clock with
      markCount := if s.running = true ∧ s.clock.authority = true ∧ 10 ≤ s.clock.markCount then 0
        else s.clock.markCount } := by
  unfold State.expireMarkCount
  split
  · next k =>
    simp only [Bool.and_eq_true, decide_eq_true_eq, and_assoc] at k
    rw [s.markTime_count, if_pos k]
  · next k =>
    simp only [Bool.and_eq_true, decide_eq_true_eq, and_assoc] at k
    rw [if_neg k]

theorem State.expirePeriod_pace (s : State) :
    s.expirePeriod.pace = { s.pace with
      period := if s.running = true ∧ s.cfg.roles.countPoint = true ∧ s.ret.serial ≠ none ∧
        10 ≤ s.pace.period then 0 else s.pace.period } := by
  unfold State.expirePeriod
  split
  · next k =>
    simp only [Bool.and_eq_true, decide_eq_true_eq, Option.isSome_iff_ne_none, and_assoc] at k
    simp [k]
  · next k =>
    simp only [Bool.and_eq_true, decide_eq_true_eq, Option.isSome_iff_ne_none, and_assoc] at k
    rw [if_neg k]

end Sys2Proof.Machine
end

section
namespace Sys2Proof.Machine

variable {s : State}

/-! ## What the other limits leave of it -/

theorem State.expireClash_kept (s : State) :
    s.expireClash.table.entries = s.table.entries ∧ s.expireClash.table.mirrored = s.table.mirrored ∧
    s.expireClash.table.refreshCount = s.table.refreshCount ∧
    s.expireClash.pace.period = s.pace.period ∧ s.expireClash.pace.source = s.pace.source := by
  unfold State.expireClash
  split <;> simp [State.handOn_table, State.handOn_pace]

theorem State.expireRefresh_kept (s : State) :
    s.expireRefresh.table.entries = s.table.entries ∧ s.expireRefresh.table.mirrored = s.table.mirrored ∧
    s.expireRefresh.table.clash = s.table.clash ∧
    s.expireRefresh.table.clashCount = s.table.clashCount := by
  unfold State.expireRefresh
  split <;> simp

theorem State.expireSilence_clock (s : State) :
    s.expireSilence.clock = { s.clock with
      sourceFree := if s.mode.awake = true ∧ s.sourceIsOther = true ∧ 30 ≤ s.clock.silence then true
        else s.clock.sourceFree } := by
  unfold State.expireSilence
  split
  · next k =>
    simp only [Bool.and_eq_true, decide_eq_true_eq, and_assoc] at k
    rw [if_pos k]
    rfl
  · next k =>
    simp only [Bool.and_eq_true, decide_eq_true_eq, and_assoc] at k
    rw [if_neg k]

theorem State.expireCountSilence_pace (s : State) :
    s.expireCountSilence.pace = { s.pace with
      sourceFree := if s.mode.awake = true ∧ s.pace.source ≠ none ∧ 30 ≤ s.pace.silence then true
        else s.pace.sourceFree } := by
  unfold State.expireCountSilence
  split
  · next k =>
    simp only [Bool.and_eq_true, decide_eq_true_eq, Option.isSome_iff_ne_none, and_assoc] at k
    rw [if_pos k]
    rfl
  · next k =>
    simp only [Bool.and_eq_true, decide_eq_true_eq, Option.isSome_iff_ne_none, and_assoc] at k
    rw [if_neg k]

theorem State.expireDurations_kept (s : State) :
    s.expireDurations.table.entries = s.table.entries ∧
    s.expireDurations.table.mirrored = s.table.mirrored ∧
    s.expireDurations.table.clash = s.table.clash ∧
    s.expireDurations.table.clashCount = s.table.clashCount ∧
    s.expireDurations.table.refreshCount = s.table.refreshCount ∧
    s.expireDurations.pace.period = s.pace.period ∧ s.expireDurations.pace.source = s.pace.source ∧
    s.expireDurations.pace.silence = s.pace.silence ∧
    s.expireDurations.pace.sourceFree = s.pace.sourceFree ∧
    s.expireDurations.ret.serial = s.ret.serial := by
  unfold State.expireDurations
  split <;> simp [State.handOn_table, State.handOn_pace]

theorem State.expireDurations_quiet (s : State) (ha : s.mode.awake = true) :
    ∀ m ∈ s.expireDurations.disp.store, m.remaining ≠ 0 := by
  unfold State.expireDurations
  split
  · intro m hm
    simp only [State.finish_blocks, State.handOn_kept, s.expireMessages_store] at hm
    simpa using List.of_mem_filter hm
  · next k =>
    simpa [ha] using k

/-- The ten limits up to the message durations leave nothing of theirs outstanding. -/
theorem State.countsQuiet_of_cfg (hc : s.mode.awake = true → 1 ≤ s.cfg.refresh) :
    (s.expireHolds.silenceEntries.expireClash.expireRefresh.expireMarkCount.expirePeriod.expireSilence
      |>.expireCountSilence.expireDurations).CountsQuiet := by
  have holds := s.expireHolds_quiet
  set s1 := s.expireHolds with e1
  have entries := s1.silenceEntries_quiet
  set s2 := s1.silenceEntries with e2
  have clash := s2.expireClash_quiet
  have kept3 := s2.expireClash_kept
  set s3 := s2.expireClash with e3
  have refresh := s3.expireRefresh_quiet
  have kept4 := s3.expireRefresh_kept
  set s4 := s3.expireRefresh with e4
  have clock5 := s4.expireMarkCount_clock
  set s5 := s4.expireMarkCount with e5
  have pace6 := s5.expirePeriod_pace
  set s6 := s5.expirePeriod with e6
  have clock7 := s6.expireSilence_clock
  set s7 := s6.expireSilence with e7
  have pace8 := s7.expireCountSilence_pace
  set s8 := s7.expireCountSilence with e8
  have store := s8.expireDurations_quiet
  obtain ⟨entries9, mirrored9, clash9, clashCount9, refresh9, period9, source9, silence9, free9, serial9⟩ :=
    s8.expireDurations_kept
  set s9 := s8.expireDurations with e9
  have mode (v : State) (h : v.mode = s.mode) : v.running = s.running := State.running_congr h
  have table : s8.table = s4.table := by simp [e8, e7, e6, e5]
  have calls : s9.calls = s1.calls := by simp [e9, e8, e7, e6, e5, e4, e3, e2]
  have clock : s9.clock = s7.clock := by simp [e9, e8]
  have m1 : s1.mode = s.mode := by simp [e1]
  have m2 : s2.mode = s.mode := by simp [e2, m1]
  have m3 : s3.mode = s.mode := by simp [e3, m2]
  have m4 : s4.mode = s.mode := by simp [e4, m3]
  have m5 : s5.mode = s.mode := by simp [e5, m4]
  have m6 : s6.mode = s.mode := by simp [e6, m5]
  have m7 : s7.mode = s.mode := by simp [e7, m6]
  have m8 : s8.mode = s.mode := by simp [e8, m7]
  have m9 : s9.mode = s.mode := by simp [e9, m8]
  have c3 : s3.cfg = s.cfg := by simp [e3, e2, e1]
  have c5 : s5.cfg = s.cfg := by simp [e5, e4, c3]
  have c9 : s9.cfg = s.cfg := by simp [e9, e8, e7, e6, c5]
  have serial : s9.ret.serial = s5.ret.serial := by simp [serial9, e8, e7, e6]
  have silent : s7.sourceIsOther = s6.sourceIsOther := by simp [State.sourceIsOther, clock7]
  have last : s9.sourceIsOther = s7.sourceIsOther := by simp [State.sourceIsOther, clock]
  exact {
    holds := fun hr => by
      rw [calls, c9]
      exact holds ((mode s9 m9).symm.trans hr)
    entries := fun ha => by
      rw [entries9, table, kept4.1, kept3.1]
      exact (entries (by rw [m1, ← m9]; exact ha)).1
    mirrored := fun ha => by
      rw [mirrored9, table, kept4.2.1, kept3.2.1]
      exact (entries (by rw [m1, ← m9]; exact ha)).2
    clash := fun ha => by
      rw [clash9, clashCount9, table, kept4.2.2.1, kept4.2.2.2]
      exact clash (by rw [m2, ← m9]; exact ha)
    refresh := fun hr => by
      have run : s.running = true := (mode s9 m9).symm.trans hr
      rw [refresh9, table, c9, ← c3]
      exact refresh ((mode s3 m3).trans run) (by rw [c3]; exact hc (State.awake_of_running run))
    mark := fun hr ha => by
      have run : s4.running = true := (mode s4 m4).trans ((mode s9 m9).symm.trans hr)
      have k6 : s6.clock = s5.clock := by simp [e6]
      rw [clock, clock7, k6, clock5] at ha ⊢
      simp only [run, true_and]
      have ha : s4.clock.authority = true := ha
      simp only [ha, true_and]
      split
      · omega
      · omega
    period := fun hr hp hs => by
      have run : s5.running = true := (mode s5 m5).trans ((mode s9 m9).symm.trans hr)
      have k7 : s7.pace = s6.pace := by simp [e7]
      rw [c9, ← c5] at hp
      rw [serial] at hs
      rw [period9, pace8, k7, pace6]
      simp only [run, hp, true_and]
      split
      · omega
      · next k =>
        simp only [not_and, Nat.not_le] at k
        exact k hs
    silence := fun ha ho => by
      have awake : s6.mode.awake = true := by rw [m6, ← m9]; exact ha
      rw [last, silent] at ho
      rw [clock, clock7]
      simp only [awake, ho, true_and]
      split
      · exact .inr rfl
      · next k => exact .inl (Nat.not_le.mp k)
    count := fun ha hn => by
      have awake : s7.mode.awake = true := by rw [m7, ← m9]; exact ha
      rw [source9, pace8] at hn
      rw [silence9, free9, pace8]
      have hn : s7.pace.source ≠ none := hn
      simp only [awake, true_and]
      split
      · exact .inr rfl
      · next k =>
        simp only [not_and, Nat.not_le] at k
        exact .inl (k hn)
    store := fun ha => store (by rw [m8, ← m9]; exact ha) }

end Sys2Proof.Machine
end

section
namespace Sys2Proof.Machine

variable {s : State}

/-! ## The overtime limit and the dormant count come last -/

/-- A forgotten time is not looked at by the hold limit. -/
theorem Cfg.timedOut_forget (c : Cfg) (x : Call) (h : Option Nat) :
    c.timedOut { x with holdStart := h } = c.timedOut x := rfl

/-- What the end of a shift at its overtime limit leaves of each block that a limit is about (R90). -/
theorem State.endOvertime_blocks (s : State) :
    s.endOvertime.mode = .standby ∧ s.endOvertime.calls = s.calls.forgetTimes ∧
    s.endOvertime.table = s.table.dropSilent ∧
    s.endOvertime.clock = { s.clock with
      s := 0, pause := 0, markCount := if s.clock.authority = true then 0 else s.clock.markCount } ∧
    s.endOvertime.pace.source = none ∧
    s.endOvertime.pace.period = (if 0 = s.ret.car then s.pace.period else 0) := by
  set w := s.setClock { s.clock with s := 0, pause := 0 } with hw
  obtain ⟨mode, calls, -, table, -⟩ := w.boundary_blocks 0 (nextSerial w.ret.serial)
  obtain ⟨-, pace⟩ := w.boundary_pace 0 (nextSerial w.ret.serial)
  set v := w.boundary 0 (nextSerial w.ret.serial) with hv
  have clock : v.clock = { s.clock with s := 0, pause := 0 } := by simp [hv, hw]
  have source : v.pace.source = none := by rw [pace]
  have period : v.pace.period = if 0 = s.ret.car then s.pace.period else 0 := by rw [pace]; rfl
  have steps : s.endOvertime = if v.clock.authority then v.markTime else v := rfl
  rw [steps]
  split
  · next a =>
    have a : s.clock.authority = true := by rw [clock] at a; exact a
    refine ⟨by simpa using mode, by simpa [hw] using calls, by simpa [hw] using table, ?_,
      by simpa using source, by simpa using period⟩
    rw [v.markTime_count, clock, if_pos a]
  · next a =>
    have a : ¬ s.clock.authority = true := by rw [clock] at a; exact a
    refine ⟨mode, calls, table, ?_, source, period⟩
    rw [clock, if_neg a]

theorem State.CountsQuiet.expireOvertime (h : s.CountsQuiet) (ok : s.Ok) : s.expireOvertime.CountsQuiet := by
  unfold State.expireOvertime
  split
  · next reached =>
    have m := State.overtimeReached_mode reached
    have run : s.running = true := State.running_iff.mpr (.inr m)
    have awake : s.mode.awake = true := State.awake_of_running run
    obtain ⟨-, calls, table, clock, source, period⟩ := s.endOvertime_blocks
    have dropped (e : PeerEntry) (he : e ∈ s.table.dropSilent.mirrored) : e ∈ s.table.mirrored := by
      cases hz : s.table.mirrored with
      | none => simp [ZoneTable.dropSilent, hz] at he
      | some x =>
        simp only [ZoneTable.dropSilent, hz, Option.mem_def] at he ⊢
        split at he
        · exact he
        · exact absurd he (by simp)
    have other : s.endOvertime.finish.sourceIsOther = s.sourceIsOther := by
      simp [State.sourceIsOther, clock]
    exact {
      holds := fun _ => by
        rw [s.endOvertime.finish_frame.2.2.2.2.2.1, calls]
        intro x hx
        obtain ⟨y, hy, rfl⟩ := List.mem_map.mp hx
        have cfg : s.endOvertime.finish.cfg = s.cfg := by simp
        rw [cfg, s.cfg.timedOut_forget]
        exact h.holds run y hy
      entries := fun _ => by
        simp only [State.finish_blocks, State.handOn_kept, table]
        exact fun e he => h.entries awake e (List.mem_of_mem_filter he)
      mirrored := fun _ => by
        simp only [State.finish_blocks, State.handOn_kept, table]
        exact fun e he => h.mirrored awake e (dropped e he)
      clash := fun _ => by
        simp only [State.finish_blocks, State.handOn_kept, State.handOn_table_kept, table]
        exact h.clash awake
      refresh := fun _ => by
        simp only [State.finish_blocks, State.handOn_table_kept, table, State.finish_frame,
          State.endOvertime_frame]
        exact h.refresh run
      mark := fun _ => by
        simp only [State.finish_frame, clock]
        intro a
        simp [a]
      period := fun _ hp _ => by
        have cfg : s.endOvertime.finish.cfg = s.cfg := by simp
        rw [cfg] at hp
        simp only [State.finish_blocks, State.handOn_pace, period]
        split
        · exact h.period run hp (ok.shiftOk.serial m)
        · omega
      silence := fun _ ho => by
        rw [other] at ho
        simp only [State.finish_frame, clock]
        exact h.silence awake ho
      count := fun _ hn => absurd (by simp [State.handOn_pace, source]) hn
      store := fun _ => by
        simp only [State.finish_blocks, State.handOn_kept, State.endOvertime_frame]
        exact h.store awake }
  · exact h

theorem State.CountsQuiet.expireDormant (h : s.CountsQuiet) : s.expireDormant.CountsQuiet := by
  unfold State.expireDormant
  split
  · next reached =>
    obtain ⟨m, -, -⟩ := State.dormantReached_iff.mp reached
    have awake : s.mode.awake = true := by rw [m]; rfl
    have still : ¬ s.enterDormant.running = true := by
      have mode : s.enterDormant.mode = .dormant := by simp [State.enterDormant]
      simp [State.running, mode, Mode.runs]
    have table : s.enterDormant.table.entries = s.table.entries ∧
        s.enterDormant.table.mirrored = s.table.mirrored ∧
        s.enterDormant.table.clash = s.table.clash ∧
        s.enterDormant.table.clashCount = s.table.clashCount := by
      simp [State.enterDormant, State.handOn_table_kept]
    obtain ⟨entries, mirrored, clash, count⟩ := table
    have pace : s.enterDormant.pace.source = s.pace.source ∧
        s.enterDormant.pace.silence = s.pace.silence ∧
        s.enterDormant.pace.sourceFree = s.pace.sourceFree := by
      simp [State.enterDormant, State.handOn_pace]
    obtain ⟨source, silence, free⟩ := pace
    have clock : s.enterDormant.clock = s.clock := by simp
    have other : s.enterDormant.sourceIsOther = s.sourceIsOther := by simp [State.sourceIsOther]
    have store : s.enterDormant.disp.store = s.disp.store := by simp [State.enterDormant]
    exact {
      holds := fun hr => absurd hr still
      entries := fun _ => by rw [entries]; exact h.entries awake
      mirrored := fun _ => by rw [mirrored]; exact h.mirrored awake
      clash := fun _ => by rw [clash, count]; exact h.clash awake
      refresh := fun hr => absurd hr still
      mark := fun hr => absurd hr still
      period := fun hr => absurd hr still
      silence := fun _ => by rw [other, clock]; exact h.silence awake
      count := fun _ => by rw [source, silence, free]; exact h.count awake
      store := fun _ => by rw [store]; exact h.store awake }
  · exact h

theorem State.expireOvertime_reached (s : State) : s.expireOvertime.overtimeReached = false := by
  unfold State.expireOvertime
  split
  · simp [State.overtimeReached, s.endOvertime_blocks]
  · next k => simpa using k

theorem State.expireDormant_reached (s : State) : s.expireDormant.dormantReached = false := by
  unfold State.expireDormant
  split
  · have mode : s.enterDormant.mode = .dormant := by simp [State.enterDormant]
    simp [State.dormantReached, mode]
  · next k => simpa using k

theorem State.expireDormant_overtime (h : s.overtimeReached = false) :
    s.expireDormant.overtimeReached = false := by
  unfold State.expireDormant
  split
  · have mode : s.enterDormant.mode = .dormant := by simp [State.enterDormant]
    simp [State.overtimeReached, mode]
  · exact h

/-- After what was outstanding is done nothing is outstanding (log 3). -/
theorem State.Ok.settle_quiet (h : s.Ok) : s.settle.Quiet := by
  have counts : _ := State.countsQuiet_of_cfg (s := s) (fun ha => by
    obtain ⟨-, -, -, -, -, -, -, -, -, -, -, -, refresh, -⟩ := h.cfgOk ha
    exact refresh)
  have ok := h.expireHolds.silenceEntries.expireClash.expireRefresh.expireMarkCount.expirePeriod
    |>.expireSilence.expireCountSilence.expireDurations
  exact (counts.expireOvertime ok).expireDormant.quiet
    (State.expireDormant_overtime (State.expireOvertime_reached _)) (State.expireDormant_reached _)

theorem State.Quiet.atTime (h : s.Quiet) (t : Time) : (s.atTime t).Quiet := h

end Sys2Proof.Machine

open Sys2Proof Sys2Proof.Machine

/-- Settles O5: each limit, once acted on, is no longer reached, and the limits behind it in the order
(log 3) do not bring it back. -/
theorem settlingLeavesNothing : Obligations.SettlingLeavesNothing := by
  intro t s
  refine ⟨fun h => ?_, fun h => ⟨h.settle_quiet.atTime t, h.begin t⟩⟩
  rw [State.begin_, h.settle]
  rfl
end

section
namespace Sys2Proof.Machine

/-! ## A configuration that passed the checks (R189) -/

theorem cordOfByte_station {b : Nat} (h : inputMapByteValid b = true) {y : Cord}
    (hy : cordOfByte b = some y) : 1 ≤ y.station ∧ y.station ≤ 12 := by
  simp only [inputMapByteValid, Bool.or_eq_true, beq_iff_eq, Bool.and_eq_true, decide_eq_true_eq,
    and_assoc] at h
  obtain ⟨k, hk, rfl⟩ := Option.map_eq_some_iff.mp hy
  rcases h with rfl | ⟨low, high, -⟩
  · simp [kindOfCode] at hk
  · exact ⟨low, high⟩

theorem policyValid_limit {m : List Byte} {o : Nat} (h : policyValid m o = true) :
    10 ≤ (policyAt m o).limit ∧ (policyAt m o).limit ≤ 1800 := by
  simp only [policyValid, Bool.and_eq_true, decide_eq_true_eq] at h
  exact ⟨h.1.2, h.2⟩

/-- The three checks of R189 that give the fields of a configuration their ranges. -/
theorem imageFault_none {m : List Byte} (h : imageFault m = none) :
    imageIdentityGood m = true ∧ imagePoliciesGood m = true ∧ imageTimingGood m = true := by
  unfold imageFault at h
  repeat' split at h
  all_goals simp_all

/-- An image that passes every check gives a checked configuration (R189). -/
theorem cfgOf_ok {m : List Byte} (h : imageFault m = none) : (cfgOf m).Ok := by
  obtain ⟨identity, policies, timing⟩ := imageFault_none h
  simp only [imageIdentityGood, imagePoliciesGood, imageTimingGood, Bool.and_eq_true, List.all_eq_true,
    decide_eq_true_eq, List.mem_range, Bool.or_eq_true, Bool.not_eq_true', and_assoc] at identity policies timing
  obtain ⟨z1, z2, n1, n2, s1, s2, -, groups, coherent⟩ := identity
  obtain ⟨inputs, quality, material, equipment⟩ := policies
  obtain ⟨r1, r2, p1, p2, q1, q2, offsets, m1, m2, h1, h2, c1, c2, t1, t2, dormant⟩ := timing
  have few : (imageGroups m).length ≤ 3 := by simp [imageGroups]
  refine ⟨z1, z2, n1, n2, s1, s2, coherent, few, groups, by simp [cfgOf], ?_, ?_, r1, r2, p1, p2, q1, q2,
    by simp [cfgOf], ?_, m1, m2, h1, h2, c1, c2, t1, t2, fun on => ?_⟩
  · intro x hx y hy
    obtain ⟨i, hi, rfl⟩ := List.mem_map.mp hx
    exact cordOfByte_station (inputs i (List.mem_range.mp hi)) hy
  · intro k hk
    simp only [List.mem_cons, List.not_mem_nil, or_false] at hk
    rcases hk with rfl | rfl | rfl
    · exact policyValid_limit quality
    · exact policyValid_limit material
    · exact policyValid_limit equipment
  · intro o ho
    obtain ⟨i, hi, rfl⟩ := List.mem_map.mp ho
    exact offsets i (List.mem_range.mp hi)
  · rcases dormant with off | range
    · exact absurd (off.symm.trans on) (by simp)
    · exact range

end Sys2Proof.Machine
end

section
namespace Sys2Proof.Machine

variable {s : State}

/-! ## The call list keeps its laws (R7, R9, R10, R13) -/

theorem State.ClockOk.knownSecond (h : s.ClockOk) : ∀ y ∈ s.knownSecond, y ≤ 57599 := by
  intro y hy
  unfold State.knownSecond at hy
  split at hy
  · rw [← Option.some.inj hy]
    exact h.1
  · exact absurd hy (by simp)

/-- The station of a cord of a checked configuration (R1). -/
theorem Cfg.Ok.cord {c : Cfg} (h : c.Ok) {n : Nat} {x : Cord} (hx : c.cord n = some x) :
    1 ≤ x.station ∧ x.station ≤ 12 := by
  obtain ⟨-, -, -, -, -, -, -, -, -, -, inputs, -⟩ := h
  have mem : some x ∈ c.inputMap := by
    unfold Cfg.cord at hx
    rw [List.getD_eq_getElem?_getD] at hx
    cases hg : c.inputMap[n]? with
    | none => simp [hg] at hx
    | some y =>
      rw [hg] at hx
      rw [← hx]
      exact List.mem_of_getElem? hg
  exact inputs (some x) mem x rfl

/-- The hold-point distance of a checked configuration (R9). -/
theorem Cfg.Ok.holdPoint {c : Cfg} (h : c.Ok) {n : Nat} (h1 : 1 ≤ n) (h2 : n ≤ 12) :
    0 < c.holdPoint n ∧ c.holdPoint n ≤ 512 := by
  obtain ⟨-, -, -, -, -, -, -, -, -, -, -, -, -, -, p1, p2, q1, q2, len, offsets, -⟩ := h
  have long : c.zoneLength ≤ 512 := Nat.mul_le_mul p2 q2
  have mem : c.offsets.getD (n - 1) 0 ∈ c.offsets := by
    have : n - 1 < c.offsets.length := by omega
    rw [List.getD_eq_getElem?_getD, List.getElem?_eq_getElem this]
    exact List.getElem_mem this
  have short := offsets _ mem
  unfold Cfg.holdPoint
  omega

/-- Two calls of one cord are the same call (R7). -/
theorem State.CallsOk.unique (h : s.CallsOk) {x y : Call} (hx : x ∈ s.calls.list) (hy : y ∈ s.calls.list)
    (e : x.station = y.station ∧ x.kind = y.kind) : x = y := by
  by_contra ne
  obtain ⟨-, distinct, -⟩ := h
  have sym : Std.Symm (fun x y : Call => ¬ (x.station = y.station ∧ x.kind = y.kind)) :=
    ⟨fun a b k e => k ⟨e.1.symm, e.2.symm⟩⟩
  exact distinct.forall hx hy ne e

/-- The laws of a call list with a call appended (R7). -/
theorem State.CallsOk.append (h : s.CallsOk) {x : Call} {c : CallUnit} (hx : x.Ok)
    (hl : c.list = s.calls.list ++ [x]) (hlen : s.calls.list.length < 16)
    (hf : ∀ y ∈ s.calls.list, ¬ (y.station = x.station ∧ y.kind = x.kind))
    (ho : c.overflow = s.calls.overflow) (ht : c.trackers = s.calls.trackers) :
    (s.setCalls c).CallsOk := by
  obtain ⟨-, distinct, ok, overflow, trackers, pins⟩ := h
  unfold State.CallsOk
  rw [State.setCalls_calls, hl, ho, ht]
  refine ⟨by simp; omega, ?_, fun y hy => ?_, overflow, trackers, pins⟩
  · rw [List.pairwise_append]
    exact ⟨distinct, by simp, by simpa using hf⟩
  · rcases List.mem_append.mp hy with hy | hy
    · exact ok y hy
    · rw [List.mem_singleton.mp hy]
      exact hx

/-- The laws of a call list changed call by call, cords kept (R7). -/
theorem State.CallsOk.map (h : s.CallsOk) {f : Call → Call} {c : CallUnit}
    (hl : c.list = s.calls.list.map f)
    (hf : ∀ x ∈ s.calls.list, x.Ok → (f x).Ok ∧ (f x).station = x.station ∧ (f x).kind = x.kind)
    (ho : c.overflow = s.calls.overflow) (ht : c.trackers = s.calls.trackers) :
    (s.setCalls c).CallsOk := by
  obtain ⟨len, distinct, ok, overflow, trackers, pins⟩ := h
  unfold State.CallsOk
  rw [State.setCalls_calls, hl, ho, ht]
  refine ⟨by simpa using len, ?_, fun y hy => ?_, overflow, trackers, pins⟩
  · rw [List.pairwise_map]
    refine distinct.imp_of_mem (fun hx hy k => ?_)
    rw [(hf _ hx (ok _ hx)).2.1, (hf _ hx (ok _ hx)).2.2, (hf _ hy (ok _ hy)).2.1,
      (hf _ hy (ok _ hy)).2.2]
    exact k
  · obtain ⟨x, hx, rfl⟩ := List.mem_map.mp hy
    exact (hf x hx (ok x hx)).1

/-- The laws of a call list that lost calls (R12, R19). -/
theorem State.CallsOk.sublist (h : s.CallsOk) {c : CallUnit} (hl : c.list.Sublist s.calls.list)
    (ho : ∀ o ∈ c.overflow, ∀ y ∈ o.setAt, y ≤ 57599) (ht : c.trackers = s.calls.trackers) :
    (s.setCalls c).CallsOk := by
  obtain ⟨len, distinct, ok, -, trackers, pins⟩ := h
  unfold State.CallsOk
  rw [State.setCalls_calls, ht]
  exact ⟨Nat.le_trans hl.length_le len, distinct.sublist hl, fun x hx => ok x (hl.subset hx), ho, trackers,
    pins⟩

/-- A replaced tracker leaves the call list as it was (R2). -/
theorem State.CallsOk.setTracker (h : s.CallsOk) (i : InputId) (x : Tracker) :
    (s.setTracker i x).CallsOk := by
  obtain ⟨len, distinct, ok, overflow, trackers, pins⟩ := h
  cases i with
  | call n => exact ⟨len, distinct, ok, overflow, by simp [State.setTracker, trackers], pins⟩
  | clr => exact ⟨len, distinct, ok, overflow, trackers, pins⟩
  | shst => exact ⟨len, distinct, ok, overflow, trackers, pins⟩
  | shend => exact ⟨len, distinct, ok, overflow, trackers, pins⟩

theorem State.CallsOk.charge (h : s.CallsOk) (f : Record → Record) : (s.charge f).CallsOk := by
  apply h.congr <;> simp

/-- A counted pull keeps the laws of the call list (R9 to R12, R17, R18). -/
theorem State.CallsOk.pull (h : s.CallsOk) (second : ∀ y ∈ s.knownSecond, y ≤ 57599)
    (hc : s.cfg.Ok) (hr : s.running = true)
    (hm : s.mirror = false) {n : Nat} {cord : Cord} (hn : s.cfg.cord n = some cord) : (s.pull cord).CallsOk := by
  obtain ⟨station, station'⟩ := hc.cord hn
  by_cases off : (s.cfg.policy cord.kind).policy = .off
  · have same : s.pull cord = s := by simp [State.pull, off]
    rwa [same]
  cases hf : s.calls.find cord with
  | some x =>
    rw [s.pull_acts off hf]
    have hx : x ∈ s.calls.list := List.mem_of_find?_eq_some hf
    have isOf := (x.isOf_iff cord).mp (by simpa using List.find?_some hf)
    unfold CallUnit.actedOn
    split
    · exact h
    · next kind =>
      split
      · next opened =>
        refine h.map (f := fun y => if y.station = cord.station ∧ y.kind = cord.kind then
          { y with state := .answered } else y) rfl (fun y hy ok => ?_) rfl rfl
        by_cases mine : y.station = cord.station ∧ y.kind = cord.kind
        · have same : y = x := h.unique hy hx ⟨mine.1.trans isOf.1.symm, mine.2.trans isOf.2.symm⟩
          obtain ⟨h1, h2, h3, h4, h5, h6, -⟩ := ok
          have moves : y.remaining ≠ 0 := by
            intro zero
            rcases h5.mp zero with k | k <;> rw [same, opened] at k <;> exact absurd k (by simp)
          rw [if_pos mine]
          exact ⟨⟨h1, h2, h3, h4, by simpa using moves, h6, fun k => absurd (mine.2.symm.trans k) kind⟩,
            rfl, rfl⟩
        · rw [if_neg mine]
          exact ⟨ok, rfl, rfl⟩
      · exact h.sublist List.filter_sublist h.2.2.2.1 rfl
  | none =>
    have fresh : ∀ y ∈ s.calls.list, ¬ (y.station = cord.station ∧ y.kind = cord.kind) := by
      intro y hy k
      have := List.find?_eq_none.mp hf y hy
      exact this ((y.isOf_iff cord).mpr k)
    rw [s.pull_new off hf]
    by_cases ho : s.calls.overflow = none
    · by_cases hl : 16 ≤ s.calls.list.length
      · rw [s.pullNew_overflows ho hl, s.setOverflow_value]
        refine State.CallsOk.charge ?_ _
        obtain ⟨len, distinct, ok, -, trackers, pins⟩ := h
        refine ⟨len, distinct, ok, fun o ho => ?_, trackers, pins⟩
        rw [← Option.some.inj ho]
        exact second
      · have room : s.calls.list.length < 16 := Nat.not_le.mp hl
        rw [s.pullNew_raises hr hm ho room]
        have charged : ((s.setCalls (s.raisedCalls cord)).charge (Record.raise cord.kind)).CallsOk := by
          refine State.CallsOk.charge (h.append (c := s.raisedCalls cord) (x :=
            if cord.kind = .safety then ⟨cord.station, .safety, .holding, s.knownSecond, 0, 0⟩
            else ⟨cord.station, cord.kind, .opened, none, s.cfg.holdPoint cord.station, 0⟩)
            ?_ rfl room (fun y hy => ?_) rfl rfl) _
          · obtain ⟨far, near⟩ := hc.holdPoint station station'
            split
            · exact ⟨station, station', by simp, by simp, by simp, second, fun _ => rfl⟩
            · next kind =>
              exact ⟨station, station', near, by simp, by simp; omega, by simp, fun k => absurd k kind⟩
          · have fresh := fresh y hy
            split
            · next kind =>
              rw [kind] at fresh
              exact fresh
            · exact fresh
        exact charged
    · rwa [s.pullNew_deaf ho]

end Sys2Proof.Machine
end

section
namespace Sys2Proof.Machine

variable {s : State}

/-! ## The countdown, the seconds and the boundaries keep the call list -/

/-- What an accepted pulse makes of a call that counts down (R13). -/
theorem Call.advance_counting {x : Call} (h : x.state = .opened ∨ x.state = .answered) (cfg : Cfg)
    (second : Option Nat) :
    x.advance cfg second =
      if 1 < x.remaining then { x with remaining := x.remaining - 1 }
      else if (cfg.policy x.kind).policy = .signal then { x with remaining := 0, state := .overdue }
      else { x with remaining := 0, state := .holding, holdStart := second, heldFor := 0 } := by
  rcases h with h | h <;> cases hp : (cfg.policy x.kind).policy <;> simp [Call.advance, h, hp]

/-- A call at its hold point stays as it is (R13). -/
theorem Call.advance_held {x : Call} (h : x.state = .holding ∨ x.state = .overdue) (cfg : Cfg)
    (second : Option Nat) : x.advance cfg second = x := by
  rcases h with h | h <;> rw [Call.advance, h]

theorem Call.advance_ok {x : Call} (h : x.Ok) (cfg : Cfg) {second : Option Nat}
    (hs : ∀ y ∈ second, y ≤ 57599) :
    (x.advance cfg second).Ok ∧ (x.advance cfg second).station = x.station ∧
    (x.advance cfg second).kind = x.kind := by
  by_cases held : x.state = .holding ∨ x.state = .overdue
  · rw [Call.advance_held held]
    exact ⟨h, rfl, rfl⟩
  · have counting : x.state = .opened ∨ x.state = .answered := by
      cases hx : x.state <;> simp_all
    obtain ⟨h1, h2, h3, h4, h5, h6, h7⟩ := h
    have moves : x.kind ≠ .safety := fun e => held (.inl (h7 e))
    rw [Call.advance_counting counting]
    split
    · refine ⟨⟨h1, h2, by simp; omega, h4, ?_, h6, h7⟩, rfl, rfl⟩
      simp only [held, iff_false]
      omega
    · split
      · exact ⟨⟨h1, h2, by simp, h4, by simp, h6, fun e => absurd e moves⟩, rfl, rfl⟩
      · exact ⟨⟨h1, h2, by simp, by simp, by simp, hs, fun _ => rfl⟩, rfl, rfl⟩

theorem State.CallsOk.enterHold (h : s.CallsOk) (k : CallKind) : (s.enterHold k).CallsOk := by
  rw [s.enterHold_value]
  refine State.CallsOk.charge ?_ _
  obtain ⟨len, distinct, ok, overflow, trackers, pins⟩ := h
  exact ⟨len, distinct, ok, overflow, trackers, pins⟩

theorem State.CallsOk.enterHolds (h : s.CallsOk) (l : List Call) :
    (l.foldl (fun s x => s.enterHold x.kind) s).CallsOk := by
  induction l generalizing s with
  | nil => exact h
  | cons x rest ih => exact ih (h.enterHold x.kind)

/-- An accepted pulse keeps the laws of the call list (R13). -/
theorem State.CallsOk.countDown (h : s.CallsOk) (hk : s.ClockOk) : s.countDown.CallsOk := by
  unfold State.countDown
  refine State.CallsOk.enterHolds ?_ _
  exact h.map rfl (fun x _ ok => Call.advance_ok ok s.cfg hk.knownSecond) rfl rfl

/-- A seconds expiry keeps the laws of the call list (R14). -/
theorem State.CallsOk.tickCalls (h : s.CallsOk) : s.tickCalls.CallsOk := by
  unfold State.tickCalls
  split
  · refine h.map rfl (fun x _ ok => ?_) rfl rfl
    obtain ⟨h1, h2, h3, h4, h5, h6, h7⟩ := ok
    split
    · exact ⟨⟨h1, h2, h3, Nat.min_le_left .., h5, h6, h7⟩, rfl, rfl⟩
    · exact ⟨⟨h1, h2, h3, h4, h5, h6, h7⟩, rfl, rfl⟩
  · exact h

theorem State.CallsOk.clearZone (h : s.CallsOk) : s.clearZone.CallsOk :=
  h.sublist (List.nil_sublist _) (by simp) rfl

theorem State.CallsOk.boundary (h : s.CallsOk) (shift serial : Nat) :
    (s.boundary shift serial).CallsOk :=
  (CallUnit.forgetTimes_ok h).congr (s.boundary_blocks shift serial).2.1 (by simp)

theorem State.boundary_runs (s : State) (shift serial : Nat) : (s.boundary shift serial).running = true := by
  rw [State.running_iff, (s.boundary_blocks shift serial).1]
  by_cases h : shift = 0 <;> simp [h]

/-- `v` runs with a sound call list under the configuration of `b`. -/
def State.Serves (b v : State) : Prop := v.running = true ∧ v.CallsOk ∧ v.cfg = b.cfg

section Serves

variable {b v w : State}

/-- Whatever keeps mode, calls, pins and configuration goes on serving. -/
theorem State.Serves.congr (h : b.Serves v) (hm : w.mode = v.mode) (hc : w.calls = v.calls)
    (hp : w.pins = v.pins) (hk : w.cfg = v.cfg) : b.Serves w :=
  ⟨(State.running_congr hm).trans h.1, h.2.1.congr hc hp, hk.trans h.2.2⟩

theorem State.Serves.boundary (h : b.Serves v) (shift serial : Nat) : b.Serves (v.boundary shift serial) :=
  ⟨v.boundary_runs shift serial, h.2.1.boundary shift serial, by simpa using h.2.2⟩

theorem State.Serves.endOvertime (h : b.Serves v) : b.Serves v.endOvertime := by
  obtain ⟨mode, calls, -⟩ := v.endOvertime_blocks
  exact ⟨State.running_iff.mpr (.inl mode), (CallUnit.forgetTimes_ok h.2.1).congr calls (by simp),
    by simpa using h.2.2⟩

theorem State.Serves.checkOvertime (h : b.Serves v) : b.Serves v.checkOvertime := by
  unfold State.checkOvertime
  split
  · refine State.Serves.endOvertime ?_
    apply h.congr <;> simp
  · exact h

theorem State.Serves.judgeMark (h : b.Serves v) (sender shift serial second : Nat) :
    b.Serves (v.judgeMark sender shift serial second) := by
  have cross : b.Serves (v.adoptBoundary sender shift serial second) := by
    unfold State.adoptBoundary
    refine (State.Serves.boundary ?_ shift serial).checkOvertime
    apply h.congr <;> simp
  have same : b.Serves (v.adoptSame sender second) := by
    unfold State.adoptSame
    dsimp only
    refine State.Serves.checkOvertime ?_
    generalize v.clock.follow (if v.ret.shift = 0 then 0 else second) = c
    have adopted : b.Serves (v.setClock (c.heed sender)).gainAuthority := by
      apply h.congr <;> simp
    by_cases stepped : c.s ≠ v.clock.s ∨ (!v.clock.timeValid) = true
    · rw [if_pos stepped]
      apply adopted.congr <;> simp
    · rw [if_neg stepped]
      exact adopted
  unfold State.judgeMark
  dsimp only
  repeat' split
  all_goals assumption

theorem State.Serves.shiftStart (h : b.Serves v) (code : Nat) : b.Serves (v.shiftStart code) := by
  unfold State.shiftStart
  dsimp only
  have crossed : b.Serves ((v.setClock (v.clock.ownInput v.cfg.zone)).boundary
      (if code = 0 then 1 else code) (nextSerial v.ret.serial)) := by
    refine State.Serves.boundary ?_ _ _
    apply h.congr <;> simp
  apply crossed.congr <;> simp

theorem State.Serves.shiftEnd (h : b.Serves v) : b.Serves v.shiftEnd := by
  unfold State.shiftEnd
  split
  · exact h
  · next x _ =>
    split
    · apply h.congr <;> simp
    · have crossed : b.Serves ((v.setClock (v.clock.ownInput v.cfg.zone)).boundary 0
          ((x + 1) % 256)) := by
        refine State.Serves.boundary ?_ _ _
        apply h.congr <;> simp
      apply crossed.congr <;> simp

end Serves

/-! ## The laws that the obligations of this family ask of every step -/

/-- The laws of start-up, configuration and call unit together (R6 to R26). -/
structure State.CallSide (s : State) : Prop where
  atRest : s.AtRest
  cfgOk : s.CfgOk
  holdFollows : s.HoldFollows
  callsOk : s.CallsOk
  dormantOk : s.DormantOk

theorem State.Ok.callSide (h : s.Ok) : s.CallSide :=
  ⟨h.atRest, h.cfgOk, h.holdFollows, h.callsOk, h.dormantOk⟩

/-- The end of a command of an awake board leaves these laws. -/
theorem State.CallSide.of_finish (ha : s.mode.awake = true) (hk : s.cfg.Ok) (hc : s.CallsOk)
    (hd : s.mode = .dormant → s.calls.list = [] ∧ s.calls.overflow = none) : s.finish.CallSide where
  atRest := fun k => absurd (by simpa using ha) k
  cfgOk := fun _ => by simpa using hk
  holdFollows := s.finish_holdFollows
  callsOk := hc.congr (by simp) (by simp)
  dormantOk := by
    refine ⟨by simpa using hd, fun m k => ?_⟩
    have m : s.mode = .standby := by simpa using m
    have k : s.calls.list ≠ [] ∨ s.calls.overflow ≠ none := by simpa using k
    simp [s.handOn_start, m, k]

theorem State.Serves.finish {b v : State} (h : b.Serves v) (hk : b.cfg.Ok) : v.finish.CallSide := by
  refine State.CallSide.of_finish (State.awake_of_running h.1) (by rw [h.2.2]; exact hk) h.2.1 (fun m => ?_)
  exact absurd h.1 (by simp [State.running, m, Mode.runs])

/-- The end of a command that leaves mode, configuration, calls and pins of a sound awake board. -/
theorem State.CallSide.of_finish_same {b v : State} (h : b.Ok) (ha : b.mode.awake = true)
    (hm : v.mode = b.mode) (hk : v.cfg = b.cfg) (hc : v.calls = b.calls) (hp : v.pins = b.pins) :
    v.finish.CallSide :=
  .of_finish (by rw [hm]; exact ha) (by rw [hk]; exact h.cfgOk ha) (h.callsOk.congr hc hp)
    (by rw [hm, hc]; exact h.dormantOk.1)

/-- A command that leaves mode, configuration, hold output, call list and dormant count of a sound board
alone, and in LOADING and HALTED the values of a start. -/
theorem State.CallSide.of_kept {b v : State} (h : b.Ok) (ha : b.mode.awake = true ∨ v.AtRest)
    (hm : v.mode = b.mode) (hk : v.cfg = b.cfg) (ho : v.out.hold = b.out.hold)
    (hl : v.calls.list = b.calls.list) (hf : v.calls.overflow = b.calls.overflow)
    (hs : v.start.dormantCount = b.start.dormantCount)
    (ht : v.calls.trackers.length = b.calls.trackers.length)
    (hp : v.pins.call.length = b.pins.call.length) : v.CallSide where
  atRest := ha.elim (fun ha k => absurd (by rw [hm]; exact ha) k) id
  cfgOk := fun k => by rw [hk]; exact h.cfgOk (by rw [← hm]; exact k)
  holdFollows := by
    unfold State.HoldFollows
    rw [ho, State.holdWanted_congr hm hk hl hf]
    exact h.holdFollows
  callsOk := by
    unfold State.CallsOk
    rw [hl, hf, ht, hp]
    exact h.callsOk
  dormantOk := by
    unfold State.DormantOk
    rw [hm, hl, hf, hs]
    exact h.dormantOk

end Sys2Proof.Machine
end

section
namespace Sys2Proof.Machine

variable {s : State}

/-! ## LOADING and HALTED keep the values of a start -/

theorem PlanStore.get_unloaded (n : Nat) : ∀ p ∈ PlanStore.unloaded.get n, p.usable = false := by
  intro p hp
  unfold PlanStore.get at hp
  split at hp
  all_goals simp_all [PlanStore.unloaded]
  all_goals simp [← hp]

/-- What a board at rest hands to its display: the values of a start, its mode and its halt code (R153). -/
theorem State.dispInputs_atRest (ha : s.mode.awake = false) (hc : s.cfg = .blank)
    (hl : s.calls = .initial) (hs : s.sec = .initial) (hk : s.clock = .initial) (hb : s.bus = .initial)
    (hz : s.table = { ZoneTable.initial with starved := s.table.starved, blocked := s.table.blocked })
    (hca : s.att.cause = none) :
    s.dispInputs = { DispInputs.initial s.start.bpol with mode := s.mode, halt := s.start.halt } := by
  have shift : s.mode ≠ .shift := by
    intro m
    simp [m, Mode.awake] at ha
  have run : s.running = false := by
    by_contra r
    rw [State.awake_of_running (by simpa using r)] at ha
    exact absurd ha (by simp)
  have mirror : s.mirror = false := by rw [State.mirror, hc]; rfl
  have entries : s.table.entries = [] := by rw [hz]; rfl
  have wanted : s.holdWanted = false := by apply State.holdWanted_of_empty <;> rw [hl] <;> rfl
  have condition : s.zoneCondition = .run := by
    apply State.zoneCondition_of_empty <;> rw [hl] <;> rfl
  have view : s.ownView = .quiet := by
    simp [State.ownView, mirror, condition, State.ownHolder, wanted, OwnView.quiet]
  have lines : s.stopLines = [] := by
    simp [State.stopLines, State.ownCandidate, view, entries, OwnView.quiet, OwnView.candidate]
  have breaks : s.breakEnds = none := by
    simp [State.breakEnds, State.knownSecond, shift]
  have plan : s.usablePlan = none := by
    have := PlanStore.get_unloaded s.ret.shift
    unfold State.usablePlan State.runningPlan
    rw [hk]
    cases hp : Clock.initial.plans.get s.ret.shift with
    | none => rfl
    | some p => simp [this p hp]
  unfold State.dispInputs State.ownMotion
  rw [lines, condition, mirror, run]
  simp only [State.inBreak, State.breakRemaining, breaks, State.timeOfDay, plan, State.handedFigures, ha,
    hc, hl, hs, hk, hb, hca]
  rw [hz]
  rfl

/-- Handing on leaves the display of a board at rest as it is. -/
theorem State.handOn_disp_atRest (ha : s.mode.awake = false) : s.handOn.disp = s.disp := by
  have run : s.running = false := by
    by_contra r
    rw [State.awake_of_running (by simpa using r)] at ha
    exact absurd ha (by simp)
  have wanted : s.holdWanted = false := by
    by_contra w
    have := (s.holdWanted_iff.mp (by simpa using w)).1
    rw [run] at this
    exact absurd this (by simp)
  have hold : s.followHold.disp = s.disp := by
    rw [s.followHold_disp]
    simp [State.ownHolder, wanted]
  have idle (u : State) (hm : u.mode = s.mode) : u.followText = u ∧ u.followPages = u := by
    have : u.running = false := (State.running_congr hm).trans run
    simp [State.followText, State.followPages, this]
  rw [s.handOn_of_monitored]
  rw [(idle _ (by simp)).1, (idle _ (by simp)).2]
  simp [hold]

/-- A failed check leaves the board at rest, its halt code shown (R128, R190). -/
theorem State.Ok.halt (h : s.Ok) (hm : s.mode = .loading) (c : HaltCode) : (s.halt c).CallSide := by
  have awake : ¬ s.mode.awake = true := by rw [hm]; simp [Mode.awake]
  obtain ⟨cfg, calls, sec, clock, pace, bus, req, table, starved, blocked, readBack, store, running, pending,
    page, timer, flash, -⟩ := h.atRest awake
  have hold : s.out.hold = false := by
    rw [h.holdFollows]
    apply State.holdWanted_of_empty <;> rw [calls] <;> rfl
  set v := (s.setMode .halted).setStart { s.start with halt := some c, reading := false } with hv
  have fin : s.halt c = v.finish := rfl
  have rest : v.mode.awake = false := rfl
  have run : v.running = false := rfl
  have disp := v.handOn_disp_atRest rest
  have wanted : v.out.hold = v.holdWanted := by
    have none : v.holdWanted = false := by
      apply State.holdWanted_of_empty
      · show s.calls.list = []
        rw [calls]; rfl
      · show s.calls.overflow = none
        rw [calls]; rfl
    rw [none]
    exact hold
  have sec' : v.handOn.sec = s.sec := by
    rw [v.handOn_sec_of_times (.inr run), v.followHold_unchanged wanted]
    rfl
  have table' : v.handOn.table = s.table := by
    rw [v.handOn_table, if_neg (by simp [rest])]
    rfl
  have bus' : v.handOn.bus = s.bus := by
    rw [v.handOn_bus, if_pos (.inr (.inl run))]
    rfl
  have pace' : v.handOn.pace = s.pace := by
    rw [v.handOn_pace, if_neg (by simp [rest])]
    rfl
  have start' : v.handOn.start = v.start := by
    rw [v.handOn_start]
    simp [hv]
  have readBack' : v.handOn.att.readBack = s.att.readBack := by rw [v.handOn_readBack]; rfl
  have cause' : v.handOn.att.cause = none := by
    rw [v.handOn_cause]
    simp [hv]
  have inputs : v.handOn.dispInputs =
      { DispInputs.initial s.start.bpol with mode := .halted, halt := some c } := by
    rw [State.dispInputs_atRest (s := v.handOn) (by simp [hv, Mode.awake]) (by simpa [hv] using cfg)
      (by simpa [hv] using calls) (sec'.trans sec) (by simpa [hv] using clock) (bus'.trans bus)
      (by rw [table']; exact table) cause', start']
    simp [hv]
  rw [fin]
  refine ⟨fun _ => ?_, fun k => absurd k (by simp [hv, Mode.awake]), v.finish_holdFollows,
    h.callsOk.congr (by simp [hv]) (by simp [hv]), ?_⟩
  · have copies : v.finish.disp.copies = v.handOn.dispInputs := v.handOn.redraw_value.1
    rw [copies, inputs]
    simp only [State.finish_blocks, State.finish_frame, sec', table', bus', pace', start', readBack', disp]
    exact ⟨cfg, calls, sec, clock, pace, bus, req, table, starved, blocked, readBack, store, running, pending,
      page, timer, flash, rfl⟩
  · simp [State.DormantOk, hv]

/-- Every block takes the values of a start (R188). -/
theorem State.Ok.enterLoading (h : s.Ok) (bpol : Bool) (link : Link) {startup : StartUp}
    (hh : startup.halt = none) (hb : startup.bpol = bpol) :
    (s.enterLoading bpol link startup).CallSide where
  atRest := by
    intro _
    subst hb
    refine ⟨rfl, rfl, rfl, rfl, rfl, rfl, rfl, rfl, rfl, rfl, rfl, rfl, rfl, rfl, rfl, rfl, rfl, ?_⟩
    simp [State.enterLoading, Display.initial, hh, DispInputs.initial]
  cfgOk := fun k => absurd k (by simp [State.enterLoading, Mode.awake])
  holdFollows := by simp [State.HoldFollows, State.enterLoading, State.holdWanted, State.running, Mode.runs,
    Outputs.unlit]
  callsOk := by
    obtain ⟨-, -, -, -, -, pins⟩ := h.callsOk
    exact ⟨by simp [State.enterLoading, CallUnit.initial], by simp [State.enterLoading, CallUnit.initial],
      by simp [State.enterLoading, CallUnit.initial], by simp [State.enterLoading, CallUnit.initial],
      by simp [State.enterLoading, CallUnit.initial], pins⟩
  dormantOk := by simp [State.DormantOk, State.enterLoading]

end Sys2Proof.Machine
end

section
namespace Sys2Proof.Machine

variable {s b v : State}

/-! ## Commands that find nothing to do on a board at rest -/

/-- A board with anything in hand has left LOADING without a halt. -/
theorem State.Ok.awake_of (h : b.Ok)
    (hd : b.calls = .initial → b.sec = .initial → b.bus = .initial → False) :
    b.mode.awake = true := by
  by_contra rest
  obtain ⟨-, calls, sec, -, -, bus, -⟩ := h.atRest rest
  exact hd calls sec bus

theorem State.Ok.serves (h : s.Ok) (hr : s.running = true) : s.Serves s := ⟨hr, h.callsOk, rfl⟩

/-- A command with a condition does its work or finds the board as it was. -/
theorem State.CallSide.ite (h : b.Ok) {g : Prop} [Decidable g] (hv : g → v.CallSide) :
    (if g then v else b).CallSide := by
  split
  · next hg => exact hv hg
  · exact h.callSide

/-- What changes the bus of an awake board alone. -/
theorem State.CallSide.of_setBus (h : b.Ok) (ha : b.mode.awake = true) (x : Bus) : (b.setBus x).CallSide :=
  .of_kept h (.inl ha) (by simp) (by simp) (by simp) (by simp) (by simp) (by simp) (by simp) (by simp)

/-- A redrawing of an awake board after the display or the sounds have changed. -/
theorem State.CallSide.of_redraw (h : b.Ok) (ha : b.mode.awake = true) (hm : v.mode = b.mode)
    (hk : v.cfg = b.cfg) (ho : v.out = b.out) (hl : v.calls.list = b.calls.list)
    (hf : v.calls.overflow = b.calls.overflow) (ht : v.calls.trackers = b.calls.trackers)
    (hp : v.pins = b.pins) (hs : v.start = b.start) : v.redraw.CallSide := by
  refine .of_kept h (.inl ha) (by simpa using hm) (by simpa using hk) ?_ (by simpa using hl)
    (by simpa using hf) (by simp [hs]) (by simp [ht]) (by simp [hp])
  rw [v.redraw_value.2.2, ho]

/-! ## Start-up, the line and the display link -/

theorem State.Ok.rstwRelease (h : b.Ok) (rstw : Rstw) (reading : Bool) :
    (b.setStart { b.start with rstw := rstw, reading := reading }).CallSide :=
  .of_kept h (.inr h.atRest) rfl rfl rfl rfl rfl rfl rfl rfl

theorem State.Ok.supplyDisturbance (h : b.Ok) (c : BitVec 16) : (b.setCheck c).CallSide :=
  .of_kept h (.inr h.atRest) rfl rfl rfl rfl rfl rfl rfl rfl

theorem State.Ok.setLink (h : b.Ok) (l : Link) : (b.setDisp { b.disp with link := l }).CallSide :=
  .of_kept h (.inr h.atRest) rfl rfl rfl rfl rfl rfl rfl rfl

theorem State.Ok.frameDropped (h : b.Ok) : (b.setBus { b.bus with armed := false }).CallSide := by
  by_cases ha : b.mode.awake = true
  · exact .of_setBus h ha _
  · have same : b.setBus { b.bus with armed := false } = b := by
      obtain ⟨-, -, -, -, -, bus, -⟩ := h.atRest ha
      have : b.setBus b.bus = b := rfl
      rw [bus] at this ⊢
      exact this
    rw [same]
    exact h.callSide

theorem State.Ok.endGap (h : b.Ok) : (if b.gapOver then b.endGap true
    else if b.gapCutNow then b.endGap false else b).CallSide := by
  split
  · next hg =>
    simp only [State.gapOver, Bool.and_eq_true] at hg
    exact .of_setBus h hg.1.1.1 _
  · refine .ite h fun cut => ?_
    simp only [State.gapCutNow, Bool.and_eq_true] at cut
    exact .of_setBus h cut.1.1 _

theorem State.Ok.startAttempt (h : b.Ok) (i : SlotId) (f : List Byte) (hr : b.running = true) :
    (b.startAttempt i f).CallSide :=
  .of_kept h (.inl (State.awake_of_running hr)) (by simp) (by simp) (by simp) (by simp) (by simp) (by simp)
    (by simp) (by simp)

/-- An attempt in hand, a jam or a backoff is one of an awake board (R168). -/
theorem State.Ok.awake_of_tx (h : b.Ok) {x : Tx} (hx : b.bus.tx = some x) : b.mode.awake = true :=
  h.awake_of fun _ _ bus => by simp [bus, Bus.initial] at hx

theorem State.Ok.sent (h : b.Ok) {x : Tx} (hx : b.bus.tx = some x) : (b.sent x).CallSide := by
  have awake := h.awake_of_tx hx
  unfold State.sent
  dsimp only
  split <;> exact .of_finish_same h awake (by simp) (by simp) (by simp) (by simp)

theorem State.Ok.collide (h : b.Ok) {x : Tx} (hx : b.bus.tx = some x) : (b.collide x).CallSide := by
  have awake := h.awake_of_tx hx
  unfold State.collide
  dsimp only
  split
  · exact .of_finish_same h awake (by simp) (by simp) (by simp) (by simp)
  · split <;> exact .of_finish_same h awake (by simp) (by simp) (by simp) (by simp)

/-! ## The wake detector (R167, R196) -/

theorem State.CallSide.wake (hk : v.cfg.Ok) (hc : v.CallsOk) : v.wake.CallSide := by
  unfold State.wake
  dsimp only
  generalize hw : State.takeUpWork _ = w
  have kept : w.mode = .standby ∧ w.cfg = v.cfg ∧ w.calls = v.calls ∧ w.pins = v.pins := by simp [← hw]
  have marked : (if w.clock.authority = true then w.markTime else w).mode = .standby ∧
      (if w.clock.authority = true then w.markTime else w).cfg = v.cfg ∧
      (if w.clock.authority = true then w.markTime else w).calls = v.calls ∧
      (if w.clock.authority = true then w.markTime else w).pins = v.pins := by
    split <;> simpa using kept
  obtain ⟨mode, cfg, calls, pins⟩ := marked
  exact .of_finish (by rw [mode]; rfl) (by rw [cfg]; exact hk) (hc.congr calls pins)
    (fun m => absurd (mode.symm.trans m) (by simp))

theorem State.Ok.activity (h : b.Ok) (ha : b.mode.awake = true) : b.activity.CallSide := by
  have woken (x : Bus) : (b.setBus x).wake.CallSide := .wake (h.cfgOk ha) h.callsOk
  have seen (x y : Bus) : ((b.setBus x).setBus y).CallSide := .of_setBus h ha y
  unfold State.activity
  dsimp only
  split
  · exact woken _
  · split
    · split
      · exact woken _
      · exact seen _ _
    · exact seen _ _
    · exact seen _ _

end Sys2Proof.Machine
end

section
namespace Sys2Proof.Machine

variable {s b v : State}

/-! ## Section monitor and filtered sensors -/

theorem State.Ok.stopDetect (h : b.Ok) (ha : b.mode.awake = true) (m : Motion) :
    (b.setMotion m).finish.CallSide :=
  .of_finish_same h ha (by simp) (by simp) (by simp) (by simp)

theorem State.Ok.holdResponse (h : b.Ok) (hd : due b.sec.holdTimer b.now = true) :
    (b.setSec { b.sec with holdTimer := none, holdFail := true }).finish.CallSide := by
  refine .of_finish_same h (h.awake_of fun _ sec _ => ?_) rfl rfl rfl rfl
  simp [sec, SectionMonitor.initial, due] at hd

theorem State.Ok.countCar (h : b.Ok) (hc : b.countsCar = true) : b.countCar.CallSide := by
  have shift : b.mode = .shift := by
    simp only [State.countsCar, Bool.and_eq_true, decide_eq_true_eq] at hc
    exact hc.1.1.2
  exact .of_finish_same h (by rw [shift]; rfl) (by simp) (by simp) (by simp) (by simp)

theorem State.Ok.sensorChange (h : b.Ok) (x : Sensor) (level : Bool) (since : Time) :
    ((b.setPins (b.pins.setSensor x level)).setTable
      (b.table.setFilter x { b.table.filter x with since := since })).CallSide := by
  refine .of_kept h (.inr fun rest => ?_) rfl rfl rfl rfl rfl rfl rfl (by cases x <;> rfl)
  obtain ⟨cfg, calls, sec, clock, pace, bus, req, table, starved, blocked, others⟩ := h.atRest rest
  refine ⟨cfg, calls, sec, clock, pace, bus, req, ?_, ?_, ?_, others⟩
  · rw [table]
    cases x <;> rfl
  · cases x <;> simpa [ZoneTable.setFilter, ZoneTable.filter] using starved
  · cases x <;> simpa [ZoneTable.setFilter, ZoneTable.filter] using blocked

theorem State.Ok.sensorQualify (h : b.Ok) (ha : b.mode.awake = true) (z : ZoneTable) :
    (b.setTable z).finish.CallSide :=
  .of_finish_same h ha rfl rfl rfl rfl

theorem State.Ok.readBackChange (h : b.Ok) (level : Bool) (since : Time) :
    ((b.setPins { b.pins with holdrb := level }).setAtt
      { b.att with readBack := { b.att.readBack with since := since } }).CallSide :=
  .of_kept h (.inr h.atRest) rfl rfl rfl rfl rfl rfl rfl rfl

theorem State.Ok.readBackQualify (h : b.Ok) (ha : b.mode.awake = true) (a : Attributor) :
    (b.setAtt a).finish.CallSide :=
  .of_finish_same h ha rfl rfl rfl rfl

/-! ## Inputs -/

/-- A tracker is set beside the call list. -/
theorem State.setTracker_calls (s : State) (i : InputId) (x : Tracker) :
    (s.setTracker i x).calls.list = s.calls.list ∧ (s.setTracker i x).calls.overflow = s.calls.overflow ∧
    (s.setTracker i x).calls.trackers.length = s.calls.trackers.length := by
  cases i <;> simp [State.setTracker]

theorem State.Ok.setTracker (h : b.Ok) (ha : b.mode.awake = true) (i : InputId) (x : Tracker) :
    (b.setTracker i x).CallSide := by
  obtain ⟨list, overflow, trackers⟩ := b.setTracker_calls i x
  exact .of_kept h (.inl ha) (by simp) (by simp) (by simp) list overflow (by simp) trackers (by simp)

theorem State.awake_of_sampled {i : InputId} (hs : b.sampled i = true) : b.mode.awake = true := by
  simp only [State.sampled, Bool.and_eq_true] at hs
  exact hs.1

/-- A level moves its pin, and its tracker on an awake board only (R1, R2). -/
theorem State.Ok.changeLevel (h : b.Ok) (i : InputId) (level : Bool) : (b.changeLevel i level).CallSide := by
  by_cases same : b.pins.level i = level
  · rw [State.changeLevel, if_pos same]
    exact h.callSide
  have moved : (b.pins.setLevel i level).call.length = b.pins.call.length := by
    cases i <;> simp [Pins.setLevel]
  rw [b.changeLevel_of i level (by cases level <;> simpa using same)]
  dsimp only
  split
  · next hs =>
    obtain ⟨list, overflow, trackers⟩ :=
      (b.setPins (b.pins.setLevel i level)).setTracker_calls i ((b.tracker i).moved level b.now)
    exact .of_kept h (.inl (State.awake_of_sampled hs)) (by simp) (by simp) (by simp) list overflow (by simp)
      trackers (by simpa using moved)
  · exact .of_kept h (.inr h.atRest) rfl rfl rfl rfl rfl rfl rfl moved

/-- A local input on an awake board finds it running: at once, or woken (R3, R196). -/
theorem State.Serves.wakeIfDormant (ha : v.mode.awake = true) (hc : v.CallsOk) :
    v.Serves v.wakeIfDormant := by
  refine ⟨?_, hc.congr (by simp) (by simp), by simp⟩
  unfold State.wakeIfDormant
  split
  · rw [State.running, v.wake_value.1]
    rfl
  · next m => cases k : v.mode <;> simp_all [State.running, Mode.runs, Mode.awake]

theorem State.wakeIfDormant_knownSecond (hk : ∀ y ∈ v.knownSecond, y ≤ 57599) :
    ∀ y ∈ v.wakeIfDormant.knownSecond, y ≤ 57599 := by
  unfold State.wakeIfDormant
  split
  · simp [State.knownSecond, v.wake_value.1]
  · exact hk

/-- A counted pull, press or pulse (R3, R4, R92). -/
theorem State.Ok.counted (h : b.Ok) {i : InputId} (hs : b.sampled i = true) (x : Tracker) (code : Nat) :
    ((b.setTracker i x).counted i code).CallSide := by
  have ha := State.awake_of_sampled hs
  have hk := h.cfgOk ha
  have side := h.setTracker ha i x
  set w := b.setTracker i x with hw
  have awake : w.mode.awake = true := by simpa [hw] using ha
  have cfg : w.cfg = b.cfg := by simp [hw]
  have second : ∀ y ∈ w.knownSecond, y ≤ 57599 := by
    have same : w.knownSecond = b.knownSecond := by cases i <;> rfl
    rw [same]
    exact h.clockOk.knownSecond
  have woken : w.Serves w.wakeIfDormant := .wakeIfDormant awake side.callsOk
  have ok : w.cfg.Ok := by rwa [cfg]
  cases i with
  | clr => exact State.Serves.finish ⟨woken.1, woken.2.1.clearZone, woken.2.2⟩ ok
  | shst => exact (woken.shiftStart code).finish ok
  | shend => exact woken.shiftEnd.finish ok
  | call n =>
    have mirror : w.wakeIfDormant.mirror = false := by
      rw [State.mirror_congr (woken.2.2.trans cfg)]
      exact b.mirror_of_sampled hs
    cases hn : w.cfg.cord n with
    | none => simpa only [State.counted, hn] using side
    | some cord =>
      by_cases off : (w.cfg.policy cord.kind).policy = .off
      · simpa only [State.counted, hn, if_pos off] using side
      · simp only [State.counted, hn, if_neg off]
        refine State.Serves.finish (b := w) ⟨?_, ?_, by simp⟩ ok
        · rw [State.running_congr (s := w.wakeIfDormant) (by simp)]
          exact woken.1
        · exact woken.2.1.pull (State.wakeIfDormant_knownSecond second) (by simpa using ok) woken.1 mirror
            (n := n) (by simpa using hn)

theorem State.Ok.qualify (h : b.Ok) (i : InputId) (code : Nat) : (b.qualify i code).CallSide := by
  unfold State.qualify
  dsimp only
  refine .ite h fun hg => ?_
  have hs : b.sampled i = true := by
    simp only [Bool.and_eq_true] at hg
    exact hg.1
  split
  · exact h.counted hs _ code
  · exact h.setTracker (State.awake_of_sampled hs) i _

end Sys2Proof.Machine
end

section
namespace Sys2Proof.Machine

variable {s b v : State}

/-! ## Frames -/

theorem State.Serves.endReception (h : b.Serves v) : b.Serves v.endReception :=
  h.congr rfl rfl rfl rfl

/-- A frame is taken on a running board only, and what its owner makes of it is all that counts (R163,
R165). -/
theorem State.Ok.receive (h : b.Ok) (frame : List Byte) (row : Envelope → Bool)
    {owner : Envelope → State → State}
    (ho : b.running = true → ∀ e, (owner e b.endReception).CallSide) :
    (b.receive frame row owner).CallSide := by
  unfold State.receive
  refine .ite h fun hg => ?_
  have run : b.running = true := by
    simp only [Bool.and_eq_true] at hg
    exact hg.2
  have ended : b.endReception.CallSide := .of_setBus h (State.awake_of_running run) _
  split
  · split
    · exact ho run _
    · exact ended
  · exact ended

/-- What the owner of a frame keeps when it hands nothing on: mode, calls, configuration, hold output. -/
theorem State.Ok.served (h : b.Ok) (hr : b.running = true) (e : Envelope) {f : Envelope → State → State}
    (hf : ∀ v, (f e v).mode = v.mode ∧ (f e v).cfg = v.cfg ∧ (f e v).out = v.out ∧ (f e v).calls = v.calls ∧
      (f e v).start = v.start ∧ (f e v).pins = v.pins) :
    (State.serve f e b.endReception).CallSide := by
  have awake := State.awake_of_running hr
  unfold State.serve
  split
  · obtain ⟨mode, cfg, out, calls, start, pins⟩ := hf b.endReception
    refine .of_kept h (.inl awake) ?_ ?_ ?_ ?_ ?_ ?_ ?_ ?_
    all_goals simp [*, State.endReception]
  · exact .of_setBus h awake _

/-- A frame owner that hands on leaves the call side as it is. -/
theorem State.Ok.handled (h : b.Ok) (hr : b.running = true) (hm : v.mode = b.endReception.mode)
    (hk : v.cfg = b.endReception.cfg) (hc : v.calls = b.endReception.calls)
    (hp : v.pins = b.endReception.pins) : v.finish.CallSide :=
  .of_finish_same h (State.awake_of_running hr) hm hk hc hp

theorem State.Ok.onMessage (h : b.Ok) (hr : b.running = true) (e : Envelope) :
    (b.endReception.onMessage e).CallSide := by
  unfold State.onMessage
  split
  · exact h.handled hr (by simp) (by simp) (by simp) (by simp)
  · exact .of_setBus h (State.awake_of_running hr) _

theorem State.Ok.onWithdrawal (h : b.Ok) (hr : b.running = true) (e : Envelope) :
    (b.endReception.onWithdrawal e).CallSide := by
  unfold State.onWithdrawal
  split
  · exact h.handled hr (by simp) (by simp) (by simp) (by simp)
  · exact .of_setBus h (State.awake_of_running hr) _

theorem State.Ok.onTimeMark (h : b.Ok) (hr : b.running = true) (e : Envelope) :
    (b.endReception.onTimeMark e).CallSide :=
  ((h.serves hr).endReception.judgeMark _ _ _ _).finish (h.cfgOk (State.awake_of_running hr))

/-! ## Pulses, seconds, start-up -/

theorem State.Ok.pulse (h : b.Ok) (hr : b.running = true) (gap : Nat) : (b.pulse gap).CallSide := by
  have awake := State.awake_of_running hr
  unfold State.pulse
  dsimp only
  split
  · exact .of_finish_same h awake rfl rfl rfl rfl
  · have clock : (b.setSec (b.sec.accept b.now)).ClockOk := h.clockOk.congr rfl rfl rfl rfl
    have counted : b.Serves (b.setSec (b.sec.accept b.now)).countDown := by
      have calls : (b.setSec (b.sec.accept b.now)).CallsOk := h.callsOk.congr rfl rfl
      exact ⟨(State.running_congr (by simp)).trans hr, calls.countDown clock, by simp⟩
    refine State.Serves.finish ?_ (h.cfgOk awake)
    split
    · apply counted.congr <;> simp
    · apply counted.congr <;> simp

theorem State.Ok.tick (h : b.Ok) (ha : b.mode.awake = true) : b.tick.CallSide := by
  unfold State.tick
  generalize hv : b.tickClock.handOn.countStopSecond = v
  have kept : v.mode = b.mode ∧ v.cfg = b.cfg ∧ v.calls = b.calls ∧ v.pins = b.pins := by simp [← hv]
  obtain ⟨mode, cfg, calls, pins⟩ := kept
  have ticked : v.tickCalls.CallsOk := (h.callsOk.congr calls pins).tickCalls
  refine .of_finish (by simpa [mode] using ha) (by simpa [cfg] using h.cfgOk ha)
    (ticked.congr (by simp) (by simp)) (fun m => ?_)
  have dormant : b.mode = .dormant := by simpa [mode] using m
  have still : v.tickCalls = v := by
    simp [State.tickCalls, State.running, mode, dormant, Mode.runs]
  simpa [still, calls] using h.dormantOk.1 dormant

/-- A good image gives the board its configuration and 20 trackers (R3, R192). -/
theorem State.Ok.leaveLoading (h : b.Ok) {c : Cfg} (hc : c.Ok) (plans : PlanStore)
    (hm : b.mode = .loading) : (b.leaveLoading c plans).CallSide := by
  have rest : ¬ b.mode.awake = true := by rw [hm]; simp [Mode.awake]
  obtain ⟨-, calls, -⟩ := h.atRest rest
  unfold State.leaveLoading
  dsimp only
  generalize hv : State.takeUpWork _ = v
  have mode : v.mode = .standby ∨ v.mode = .shift := by
    rw [← hv]
    simp only [State.takeUpWork_frame, State.setBus_mode, State.restorePace_frame, State.setMode_mode]
    split
    · exact .inl rfl
    · exact .inr rfl
  have cfg : v.cfg = c := by simp [← hv]
  have callsOk : v.beginTrackers.CallsOk := by
    have list : v.calls = .initial := by simpa [← hv] using calls
    have pins : v.pins = b.pins := by simp [← hv]
    obtain ⟨-, -, -, -, -, pinned⟩ := h.callsOk
    refine ⟨?_, ?_, ?_, ?_, ?_, by simpa [pins] using pinned⟩
    all_goals simp [State.beginTrackers, list, CallUnit.initial]
  refine .of_finish ?_ (by simpa [cfg] using hc) callsOk (fun m => ?_)
  · rcases mode with m | m <;> simp [m, Mode.awake]
  · rcases mode with k | k <;> simp [k] at m

theorem State.Ok.readImage (h : b.Ok) (mem : List Byte) (hm : b.mode = .loading) :
    (match imageFault mem with
      | some c => b.halt c
      | none => b.leaveLoading (cfgOf mem) (plansOf mem)).CallSide := by
  cases good : imageFault mem with
  | some c => exact h.halt hm c
  | none => exact h.leaveLoading (cfgOf_ok good) _ hm

theorem State.Ok.restart (h : b.Ok) (bpol : Bool) : (b.restart bpol).CallSide :=
  h.enterLoading bpol _ rfl rfl

theorem State.Ok.powerOn (h : b.Ok) (bpol : Bool) : (b.powerOn bpol).CallSide := by
  have loaded := h.enterLoading bpol ⟨some .dark, false, b.disp.link.shown⟩
    (startup := ⟨none, bpol, if b.start.rstw.isActive then .active b.now else .inactive,
      !b.start.rstw.isActive, false, 0⟩) rfl rfl
  obtain ⟨atRest, cfgOk, holdFollows, callsOk, dormantOk⟩ := loaded
  exact ⟨atRest, cfgOk, holdFollows, callsOk, dormantOk⟩

end Sys2Proof.Machine
end

section
namespace Sys2Proof.Machine

variable {s b u v : State}

theorem State.CallSide.of_ran (ran : (.next v : Host.Outcome State Fault Refusal) = .next u)
    (h : v.CallSide) : u.CallSide :=
  Host.Outcome.next.inj ran ▸ h

/-- A condition that the running of the board is part of. -/
theorem State.awake_of_and {g : Bool} (h : (b.running && g) = true) : b.mode.awake = true :=
  State.awake_of_running (Bool.and_eq_true .. ▸ h).1

theorem State.Ok.pictureRefresh (h : b.Ok) : (if b.mode = .loading then b
    else b.setDisp { b.disp with link := b.disp.link.send b.disp.picture }).CallSide := by
  split
  · exact h.callSide
  · exact h.setLink _

theorem State.Ok.lineBusy (h : b.Ok) (x : Bus) :
    (if b.mode.awake then b.setBus x else b).CallSide :=
  .ite h fun ha => .of_setBus h ha x

theorem State.Ok.transmissionStart (h : b.Ok) :
    (match b.bus.firstPending with
    | some i =>
      match b.frameFor i with
      | some f => if b.mayTransmit then b.startAttempt i f else b
      | none => b
    | none => b).CallSide := by
  split
  · split
    · refine .ite h fun hg => h.startAttempt _ _ ?_
      simp only [State.mayTransmit, Bool.and_eq_true] at hg
      exact hg.1.1.1.1
    · exact h.callSide
  · exact h.callSide

theorem State.Ok.reachPlanEnd (h : b.Ok) : b.reachPlanEnd.CallSide := by
  unfold State.reachPlanEnd
  refine .ite h fun hg => .of_finish_same h ?_ (by simp) (by simp) (by simp) (by simp)
  rw [hg.1]
  rfl

theorem State.Ok.wakeWindow (h : b.Ok) :
    (match b.bus.wake with
    | .seen d =>
      if b.mode = Mode.dormant ∧ d ≤ b.now then b.setBus { b.bus with wake := .waiting } else b
    | .waiting => b
    | .off => b).CallSide := by
  split
  · exact .ite h fun hg => .of_setBus h (by rw [hg.1]; rfl) _
  · exact h.callSide
  · exact h.callSide

theorem State.Ok.stepTimer (h : b.Ok) :
    (match b.disp.running with
    | some r => if b.running && r.due ≤ b.now then (b.stepText r).redraw else b
    | none => b).CallSide := by
  split
  · refine .ite h fun hg => .of_redraw h (State.awake_of_and hg) ?_ ?_ ?_ ?_ ?_ ?_ ?_ ?_
    all_goals simp
  · exact h.callSide

theorem State.Ok.sound (h : b.Ok) {x : Option Time} (hx : b.calls = .initial → x = none) (c : CallUnit)
    (hl : c.list = b.calls.list) (hf : c.overflow = b.calls.overflow) (ht : c.trackers = b.calls.trackers) :
    (if due x b.now then (b.setCalls c).redraw else b).CallSide :=
  .ite h fun hg => .of_redraw h
    (h.awake_of fun calls _ _ => by simp [hx calls, due] at hg) rfl rfl rfl hl hf ht rfl rfl

/-! ## Every command -/

/-- Every command leaves the laws of start-up, configuration and call unit, row by row of the table. -/
theorem exec_callSide {s u : State} (h : s.Ok) (i : Instr) (ran : exec i s = .next u) : u.CallSide := by
  have begun (t : Time) : (s.begin_ t).Ok := h.begin t
  cases i
  all_goals refine .of_ran ran ?_
  case powerOn t bpol => exact (begun t).powerOn bpol
  case restartInput t bpol => exact .ite (begun t) fun _ => (begun t).restart bpol
  case rstwRelease t => exact (begun t).rstwRelease _ _
  case configImageRead t mem => exact .ite (begun t) fun hg => (begun t).readImage mem hg.1
  case inputActive t x => exact (begun t).changeLevel x true
  case inputInactive t x => exact (begun t).changeLevel x false
  case qualifyTimeExpiry t x c0 c1 => exact (begun t).qualify x _
  case releaseTimeExpiry t x =>
    refine .ite (begun t) fun hg => (begun t).setTracker ?_ x _
    exact State.awake_of_sampled (Bool.and_eq_true .. ▸ hg).1
  case advancePulse t =>
    refine .ite (begun t) fun hg => (begun t).pulse ?_ _
    exact (Bool.and_eq_true .. ▸ hg).1
  case stopDetectExpiry t =>
    refine .ite (begun t) fun hg => (begun t).stopDetect ?_ _
    exact State.awake_of_and (Bool.and_eq_true .. ▸ hg).1
  case holdResponseExpiry t => exact .ite (begun t) (begun t).holdResponse
  case carOutEdge t => exact .ite (begun t) (begun t).countCar
  case bufferSensorChange t x level =>
    dsimp only
    split
    · exact (begun t).callSide
    · exact (begun t).sensorChange x level _
  case bufferSensorQualifyExpiry t x =>
    refine .ite (begun t) fun hg => (begun t).sensorQualify ?_ _
    exact State.awake_of_and (Bool.and_eq_true .. ▸ hg).1
  case readBackChange t level =>
    dsimp only
    split
    · exact (begun t).callSide
    · exact (begun t).readBackChange level _
  case readBackQualifyExpiry t =>
    exact .ite (begun t) fun hg => (begun t).readBackQualify (State.awake_of_and hg) _
  case secondsExpiry t => exact .ite (begun t) (begun t).tick
  case holdLimitExpiry t => exact (h.atTime t).expireHolds.callSide
  case entrySilent t => exact (h.atTime t).silenceEntries.callSide
  case clashCountExpiry t => exact (h.atTime t).expireClash.callSide
  case refreshCountExpiry t => exact (h.atTime t).expireRefresh.callSide
  case markCountExpiry t => exact (h.atTime t).expireMarkCount.callSide
  case countPeriodExpiry t => exact (h.atTime t).expirePeriod.callSide
  case silenceCountExpiry t => exact (h.atTime t).expireSilence.callSide
  case countSilenceExpiry t => exact (h.atTime t).expireCountSilence.callSide
  case messageDurationExpiry t => exact (h.atTime t).expireDurations.callSide
  case endOfPlan t => exact (h.atTime t).reachPlanEnd
  case overtimeLimit t => exact (h.atTime t).expireOvertime.callSide
  case dormantCountExpiry t => exact (h.atTime t).expireDormant.callSide
  case flashPhaseChange t =>
    exact .ite (begun t) fun hg =>
      .of_redraw (begun t) (State.awake_of_and hg) rfl rfl rfl rfl rfl rfl rfl rfl
  case pictureRefresh t => exact (begun t).pictureRefresh
  case pictureSent t => exact (begun t).setLink _
  case pageTimerExpiry t =>
    exact .ite (begun t) fun hg =>
      .of_redraw (begun t) (State.awake_of_and hg) rfl rfl rfl rfl rfl rfl rfl rfl
  case stepTimerExpiry t => exact (begun t).stepTimer
  case holdSoundEnd t => exact (begun t).sound (fun calls => by rw [calls]; rfl) _ rfl rfl rfl
  case raiseChirpEnd t => exact (begun t).sound (fun calls => by rw [calls]; rfl) _ rfl rfl rfl
  case lineIdle t => exact (begun t).endGap
  case transmissionStart t => exact (begun t).transmissionStart
  case frameSent t =>
    split
    · next hx => exact (begun t).sent hx
    · exact (begun t).callSide
  case collision t =>
    split
    · next hx => exact (begun t).collide hx
    · exact (begun t).callSide
  case backoffEnd t =>
    refine .ite (begun t) fun hg => .of_setBus (begun t) ?_ _
    exact (begun t).awake_of fun _ _ bus => by simp [bus, Bus.initial, due] at hg
  case frameDropped t why => exact (begun t).frameDropped
  case zoneStatus t frame =>
    exact (begun t).receive frame _ fun hr e =>
      (begun t).handled hr (by simp) (by simp) (by simp) (by simp)
  case timeMark t frame => exact (begun t).receive frame _ (begun t).onTimeMark
  case count t frame =>
    exact (begun t).receive frame _ fun hr e =>
      (begun t).handled hr (by simp) (by simp) (by simp) (by simp)
  case message t frame => exact (begun t).receive frame _ (begun t).onMessage
  case withdrawal t frame => exact (begun t).receive frame _ (begun t).onWithdrawal
  case identify t frame =>
    exact (begun t).receive frame _ fun hr e => (begun t).served hr e fun v => by simp
  case readRecord t frame =>
    exact (begun t).receive frame _ fun hr e => (begun t).served hr e fun v => by simp
  case markCollected t frame =>
    exact (begun t).receive frame _ fun hr e => (begun t).served hr e fun v => by simp
  case badRequest t frame =>
    exact (begun t).receive frame _ fun hr e => (begun t).served hr e fun v => by simp
  case reply t frame =>
    exact (begun t).receive frame _ fun hr e => .of_setBus (begun t) (State.awake_of_running hr) _
  case wakeActivity t =>
    refine .ite (begun t) fun hg => (begun t).activity ?_
    simp only [State.beginsActivity, Bool.and_eq_true, decide_eq_true_eq] at hg
    rw [hg.1]
    rfl
  case wakeWindowExpiry t => exact (begun t).wakeWindow
  case lineBusy t => exact (begun t).lineBusy _
  case rstwActive t =>
    dsimp only
    split
    · exact (begun t).callSide
    · exact (begun t).rstwRelease _ _
  case supplyDisturbance t => exact (begun t).supplyDisturbance _

/-- No law of a sound state is about the queue. -/
theorem State.Ok.setPending (h : s.Ok) (l : List Instr) : (s.setPending l).Ok := by
  obtain ⟨h1, h2, h3, h4, h5, h6, h7, h8, h9, h10, h11, h12, h13, h14, h15, h16, h17, h18⟩ := h
  exact ⟨h1, h2, h3, h4, h5, h6, h7, h8, h9, h10, h11, h12, h13, h14, h15, h16, h17, h18⟩

theorem step_callSide {s u : State} (h : s.Ok) (ran : step s = .next u) : u.CallSide := by
  unfold step at ran
  split at ran
  · exact .of_ran ran h.callSide
  · exact exec_callSide (h.setPending _) _ ran

end Sys2Proof.Machine

open Sys2Proof Sys2Proof.Machine

/-- Settles O6: of every command, `exec_callSide`. -/
theorem stepKeepsStartAndConfiguration : Obligations.StepKeepsStartAndConfiguration :=
  fun _ _ h ran => ⟨(step_callSide h ran).atRest, (step_callSide h ran).cfgOk⟩

/-- Settles O7: the end of a command sets the output, and no other change touches its conditions. -/
theorem stepKeepsHoldOutput : Obligations.StepKeepsHoldOutput := by
  intro s u h ran
  have mirror : u.mirror = u.cfg.roles.mirror := rfl
  rw [(step_callSide h ran).holdFollows, u.holdWanted_iff, State.running_iff, mirror,
    Option.isSome_iff_ne_none]

/-- Settles O8: of every command, `exec_callSide`. -/
theorem stepKeepsCallList : Obligations.StepKeepsCallList :=
  fun _ _ h ran => ⟨(step_callSide h ran).callsOk, (step_callSide h ran).dormantOk⟩

end

section
namespace Sys2Proof.Machine

variable (s : State)

/-! ## Taking up work (R40, R54, R59, R86, R124, R152) -/

/-- The blocks as a board that takes up its work leaves them, before the slots are marked. -/
def State.takenUp (s : State) : State :=
  { s with
    sec := { s.sec with
      times := s.currentTimes, motion := .unknown, lastPulse := none
      stopTimer := if s.advSampled then some s.now else none }
    table := { s.table with starved := ⟨s.now, false⟩, blocked := ⟨s.now, false⟩, refreshCount := 0 }
    att := { s.att with readBack := ⟨s.now, false⟩ }
    disp := { s.disp with
      running := none, pending := none, page := 1, pageTimer := none
      flash := true, flashDue := some (s.now + flashTime) }
    start := { s.start with dormantCount := 0 } }

/-- Whether a board that takes up its work marks COUNT (R124). -/
def State.marksCount (s : State) : Bool := s.cfg.roles.countPoint && s.ret.serial.isSome

theorem State.takeUpWork_steps :
    s.takeUpWork =
      let w := s.takenUp.mark .status
      if w.marksCount then (w.setPace { w.pace with period := 0 }).mark .count else w := rfl

/-- What taking up work sets, the slots and the count period apart. -/
theorem State.takeUpWork_value :
    s.takeUpWork.sec = s.takenUp.sec ∧ s.takeUpWork.table = s.takenUp.table ∧
    s.takeUpWork.att = s.takenUp.att ∧ s.takeUpWork.disp = s.takenUp.disp ∧
    s.takeUpWork.start = s.takenUp.start ∧
    s.takeUpWork.pace = { s.pace with period := if s.marksCount then 0 else s.pace.period } := by
  have marks : (s.takenUp.mark .status).marksCount = s.marksCount := by
    simp [State.marksCount, State.takenUp]
  rw [s.takeUpWork_steps]
  dsimp only
  rw [marks]
  split <;> simp [State.takenUp]

/-- STATUS is marked, and COUNT on a count point that holds a serial (R59, R124); nothing on a mirror. -/
theorem State.takeUpWork_bus (hr : s.running = true) :
    s.takeUpWork.bus =
      if s.mirror = true then s.bus
      else { s.bus with
        status := s.bus.status.mark
        count := if s.marksCount then s.bus.count.mark else s.bus.count } := by
  have marks : (s.takenUp.mark .status).marksCount = s.marksCount := by
    simp [State.marksCount, State.takenUp]
  have run : s.takenUp.running = true := hr
  have mirror : s.takenUp.mirror = s.mirror := rfl
  have bus : s.takenUp.bus = s.bus := rfl
  rw [s.takeUpWork_steps]
  dsimp only
  rw [marks]
  cases hm : s.mirror with
  | true =>
    have still (v : State) (i : SlotId) (h : v.mirror = true) : v.mark i = v := by
      simp [v.mark_value i, h]
    rw [still s.takenUp .status hm]
    split
    · rw [still (s.takenUp.setPace _) .count hm, if_pos rfl]
      rfl
    · rw [if_pos rfl]
      rfl
  | false =>
    have marked (v : State) (i : SlotId) (hr : v.running = true) (h : v.mirror = false) :
        (v.mark i).bus = v.bus.setSlot i (v.bus.slot i).mark := by
      simp [v.mark_value i, hr, h]
    have status := marked s.takenUp .status hr hm
    split
    · rw [marked (State.setPace _ _) .count
        ((State.running_congr (s := s.takenUp) (by simp)).trans run)
        ((State.mirror_congr (s := s.takenUp) (by simp)).trans hm), State.setPace_bus, status]
      rfl
    · rw [status]
      rfl

end Sys2Proof.Machine
end

section
namespace Sys2Proof.Machine

variable (s : State)

/-! ## Leaving LOADING (R192) -/

/-- The retained area as the first steps of R192 judge it: cleared where a warm restart finds its check
word not in agreement. -/
def State.judged (s : State) : Retained :=
  if s.start.warm = true ∧ s.check ≠ checkWordOf s.ret then .cleared else s.ret

/-- The retained counter is used on a count point only (R192). -/
theorem State.judgeArea_ret :
    s.judgeArea.ret = { s.judged with car := if s.cfg.roles.countPoint then s.judged.car else 0 } := by
  have area (v : State) (hc : v.cfg = s.cfg) (hr : v.ret = s.judged) :
      (if v.cfg.roles.countPoint then v else v.setRet { v.ret with car := 0 }).ret =
        { s.judged with car := if s.cfg.roles.countPoint then s.judged.car else 0 } := by
    rw [hc]
    split <;> simp [hr]
  unfold State.judgeArea
  dsimp only
  apply area
  · split <;> simp
  · unfold State.judged
    split <;> simp_all [s.clearArea_value]

/-- The check word agrees with the judged area, but on a power-on that never found it in agreement (R193). -/
theorem State.judgeArea_agrees (h : s.start.warm = true ∨ s.check = checkWordOf s.ret) :
    s.judgeArea.check = checkWordOf s.judgeArea.ret := by
  have area (v : State) (hv : v.check = checkWordOf v.ret) :
      (if v.cfg.roles.countPoint then v else v.setRet { v.ret with car := 0 }).check =
        checkWordOf (if v.cfg.roles.countPoint then v else v.setRet { v.ret with car := 0 }).ret := by
    split
    · exact hv
    · simpa using v.setRet_agrees _ hv
  unfold State.judgeArea
  dsimp only
  apply area
  split
  · exact s.clearArea_value.2
  · next ok =>
    rcases h with h | h
    · simpa [h] using ok
    · exact h

/-- The board as the steps of R192 bring it to the point where it takes up its work. -/
def State.leaving (cfg : Cfg) (plans : PlanStore) (s : State) : State :=
  let s := (s.setCfg cfg).setClock { s.clock with plans := plans }
  let s := s.judgeArea.closeRetained
  let s := s.setStart { s.start with reading := false, halt := none }
  let s := s.setMode (if s.ret.shift = 0 then .standby else .shift)
  let s := s.restorePace
  s.setBus (s.bus.begin_ (seedOf cfg.imageId cfg.zone) s.now)

theorem State.leaveLoading_steps (cfg : Cfg) (plans : PlanStore) :
    s.leaveLoading cfg plans = (s.leaving cfg plans).takeUpWork.beginTrackers.finish := rfl

/-- The retained area of a board that leaves LOADING (R84, R126, R192, R193). -/
theorem State.leaving_ret (cfg : Cfg) (plans : PlanStore) :
    (s.leaving cfg plans).ret = { s.judged.closeInterval with
      car := if cfg.roles.countPoint then s.judged.car else 0
      actual := if cfg.roles.countPoint then s.judged.car else s.judged.actual
      peak := (tEndOf (plans.get s.judged.shift)).map
        (fun e => min (s.judged.peak.getD (Config.restoredPeak s.judged.shift)) e) } := by
  have judged : ((s.setCfg cfg).setClock { s.clock with plans := plans }).judgeArea.ret =
      { s.judged with car := if cfg.roles.countPoint then s.judged.car else 0 } :=
    State.judgeArea_ret _
  have closed : ({ s.judged with car := if cfg.roles.countPoint then s.judged.car else 0 } :
      Retained).closeInterval = { s.judged.closeInterval with
        car := if cfg.roles.countPoint then s.judged.car else 0 } := by
    unfold Retained.closeInterval
    cases s.judged.interval <;> rfl
  obtain ⟨-, -, shift, serial, actual, peak, -⟩ := s.judged.closeInterval_value
  simp [State.leaving, State.restorePace, State.closeRetained, judged, closed, State.runningPlan, shift, peak,
    actual]
  split <;> simp

/-- The check word goes on agreeing through every step (R193). -/
theorem State.leaving_check (cfg : Cfg) (plans : PlanStore)
    (h : s.start.warm = true ∨ s.check = checkWordOf s.ret) :
    (s.leaving cfg plans).check = checkWordOf (s.leaving cfg plans).ret := by
  have judged := ((s.setCfg cfg).setClock { s.clock with plans := plans }).judgeArea_agrees h
  unfold State.leaving State.restorePace State.closeRetained
  simp only [State.setBus_check, State.setBus_ret, State.setRet_ret]
  refine State.setRet_agrees _ _ ?_
  simp only [State.setPace_check, State.setMode_check, State.setStart_check, State.setPace_ret,
    State.setMode_ret, State.setStart_ret, State.setRet_ret]
  refine State.setRet_agrees _ _ ?_
  simpa using judged

/-- The other blocks of a board that leaves LOADING. -/
theorem State.leaving_blocks (cfg : Cfg) (plans : PlanStore) :
    (s.leaving cfg plans).mode = (if s.judged.shift = 0 then .standby else .shift) ∧
    (s.leaving cfg plans).cfg = cfg ∧ (s.leaving cfg plans).clock = { s.clock with plans := plans } ∧
    (s.leaving cfg plans).calls = s.calls ∧ (s.leaving cfg plans).sec = s.sec ∧
    (s.leaving cfg plans).table = s.table ∧
    (s.leaving cfg plans).att = { s.att with carried := s.judged.interval.map (fun i => i.key) } ∧
    (s.leaving cfg plans).disp = s.disp ∧ (s.leaving cfg plans).out = s.out ∧
    (s.leaving cfg plans).start = { s.start with reading := false, halt := none } ∧
    (s.leaving cfg plans).bus = s.bus.begin_ (seedOf cfg.imageId cfg.zone) s.now ∧
    (s.leaving cfg plans).pace.period = s.pace.period ∧ (s.leaving cfg plans).now = s.now ∧
    (s.leaving cfg plans).pins = s.pins ∧ (s.leaving cfg plans).pending = s.pending := by
  have judged : ((s.setCfg cfg).setClock { s.clock with plans := plans }).judgeArea.ret =
      { s.judged with car := if cfg.roles.countPoint then s.judged.car else 0 } :=
    State.judgeArea_ret _
  have shift : ({ s.judged with car := if cfg.roles.countPoint then s.judged.car else 0 } :
      Retained).closeInterval.shift = s.judged.shift :=
    (Retained.closeInterval_value _).2.2.1
  simp [State.leaving, State.restorePace, State.closeRetained, judged, shift]

/-- Sampling begins with every tracker at rest but those of inputs already active (R3). -/
theorem State.beginTrackers_tracker (i : InputId) :
    s.beginTrackers.tracker i =
      if s.sampled i = true ∧ s.pins.level i = true then ⟨.qualifying (s.now + qualifyTime), none⟩ else .rest := by
  have begun (sampled level : Bool) : Tracker.begin_ sampled level s.now =
      if sampled = true ∧ level = true then ⟨.qualifying (s.now + qualifyTime), none⟩ else .rest := by
    cases sampled <;> cases level <;> rfl
  rw [← begun]
  cases i with
  | call n => simp [State.tracker, State.beginTrackers, Pins.level]
  | clr => rfl
  | shst => rfl
  | shend => rfl

theorem State.sampled_congr {s u : State} (hm : u.mode = s.mode) (hc : u.cfg = s.cfg) (i : InputId) :
    u.sampled i = s.sampled i := by
  unfold State.sampled
  rw [hm, hc, State.mirror_congr hc]

/-- A section that does not stand has no cause (R65). -/
theorem evaluate_of_motion (cfg : Cfg) {c : AttInputs} (h : c.motion ≠ .stopped) : evaluate cfg c = none :=
  if_pos (.inl h)

/-- The end of a command on a section whose motion is not known, with no interval open, leaves the retained
area and the carried key alone (R64, R84). -/
theorem State.handOn_ret_of_unknown (hi : s.ret.interval = none) (hv : s.handOn.ownMotion = .unknown) :
    s.handOn.ret = s.ret ∧ s.handOn.check = s.check ∧ s.handOn.att.cause = none ∧
    s.handOn.att.carried = s.att.carried := by
  have result : evaluate s.cfg s.handOn.attInputs = none :=
    evaluate_of_motion (c := s.handOn.attInputs) _ (by show s.handOn.ownMotion ≠ _; simp [hv])
  have cause : s.handOn.att.cause = none := by
    rw [s.handOn_cause, result]
    simp
  have ret : s.handOn.ret = s.ret := by simp [s.handOn_ret, cause, hi]
  have motion : s.monitored.ownMotion = .unknown := by
    rw [← hv]
    apply State.ownMotion_congr <;> simp [State.handOn_blocks]
  rw [s.handOn_attInputs] at result
  refine ⟨ret, s.handOn_check.1 ret, cause, ?_⟩
  simp [State.handOn_blocks, State.followCause_att, State.copyInputs_att, result, motion]

end Sys2Proof.Machine
end

section
namespace Sys2Proof.Machine

variable (s : State)

/-! ## A board that begins its work -/

/-- A hold output that is what is wanted, and times that are current, leave the section monitor alone. -/
theorem State.handOn_sec_still (ht : s.sec.times = s.currentTimes) (ho : s.out.hold = s.holdWanted) :
    s.handOn.sec = s.sec := by
  rw [s.handOn_sec_of_times (.inl ht), s.followHold_unchanged ho]

theorem State.takeUpWork_times : s.takeUpWork.sec.times = s.takeUpWork.currentTimes := by
  rw [State.currentTimes_congr (s := s) (u := s.takeUpWork) (by simp) (by simp) (by simp) (by simp),
    s.takeUpWork_value.1]
  rfl

/-- A board without a mirrored record that knows no motion of its own (R40, R48). -/
theorem State.ownMotion_unknown (hm : s.sec.motion = .unknown) (hn : s.table.mirrored = none) :
    s.ownMotion = .unknown := by
  unfold State.ownMotion
  rw [hm, hn]
  split <;> rfl

/-- Neither slot of a re-marking changes by being marked again while it is PENDING (R156). -/
theorem State.handOn_status (h : s.bus.status.state = .pending) : s.handOn.bus = s.bus := by
  have same : s.bus.status.mark = s.bus.status := s.bus.status.mark_value.2.2.1 h
  rw [s.handOn_bus, same, ite_self]

/-- A board at the end of its start: what it takes up stands as it is, since no call holds, no time changes
and no stop is known (R40, R192). -/
theorem State.begun_value (hr : s.running = true) (hl : s.calls.list = []) (ho : s.calls.overflow = none)
    (hh : s.out.hold = false) (hn : s.table.mirrored = none) (hi : s.ret.interval = none) :
    let u := s.takeUpWork.beginTrackers.finish
    u.ret = s.ret ∧ u.check = s.check ∧ u.att.carried = s.att.carried ∧ u.sec = s.takenUp.sec ∧
    u.table.restarted = s.table.restarted ∧ u.table.entries = s.table.entries ∧ u.calls.list = [] ∧
    u.disp.flash = true ∧ u.disp.page = 1 ∧ u.start.halt = s.start.halt ∧
    u.start.reading = s.start.reading := by
  intro u
  obtain ⟨sec, table, att, disp, start, -⟩ := s.takeUpWork_value
  have times : s.takeUpWork.beginTrackers.sec.times = s.takeUpWork.beginTrackers.currentTimes := by
    rw [s.takeUpWork.beginTrackers_frame.2.2.2.2.2.2.1]
    exact s.takeUpWork_times
  have hold : s.takeUpWork.beginTrackers.holdWanted = false :=
    State.holdWanted_of_empty _ (by simpa [State.beginTrackers] using hl)
      (by simpa [State.beginTrackers] using ho)
  have secU : s.takeUpWork.beginTrackers.handOn.sec = s.takenUp.sec := by
    rw [State.handOn_sec_still _ times (by simp [hold, hh])]
    simp [sec]
  have unknown : s.takeUpWork.beginTrackers.handOn.ownMotion = .unknown :=
    State.ownMotion_unknown _ (by rw [secU]; rfl) (by simpa [table, State.takenUp] using hn)
  obtain ⟨ret, check, -, carried⟩ :=
    s.takeUpWork.beginTrackers.handOn_ret_of_unknown (by simpa using hi) unknown
  have run : s.takeUpWork.beginTrackers.running = true := (State.running_congr (by simp)).trans hr
  refine ⟨by simp [u, ret], by simp [u, check], by simp [u, carried, att, State.takenUp], by simp [u, secU],
    by simp [u, State.handOn_table, table, State.takenUp], by simp [u, table, State.takenUp],
    by simp [u, State.beginTrackers, hl], by simp [u, disp, State.takenUp], ?_,
    by simp [u, start, State.takenUp], by simp [u, State.handOn_start, start, State.takenUp]⟩
  obtain ⟨one, first, -⟩ := s.takeUpWork.beginTrackers.finish_pages run
  by_cases pages : (u.stopLines.length + 2) / 3 ≤ 1
  · exact (one pages).1
  · exact (first (Nat.lt_of_not_le pages) (by simp [disp, State.takenUp])).1

/-- The slots of a board at the end of its start, its slots EMPTY before (R59, R124, R156). -/
theorem State.begun_bus (hr : s.running = true) (hst : s.bus.status = .clear) (hc : s.bus.count = .clear) :
    let u := s.takeUpWork.beginTrackers.finish
    (s.mirror = false → u.bus.status.state = .pending) ∧ (s.mirror = true → u.bus.status.state = .empty) ∧
    u.bus.count =
      (if s.marksCount = true ∧ s.mirror = false then ⟨.pending, 0, false⟩ else ⟨.empty, 0, false⟩) ∧
    u.bus.rng = s.bus.rng ∧ u.bus.idle = s.bus.idle ∧
    u.pace.period = (if s.marksCount then 0 else s.pace.period) := by
  intro u
  have bus := s.takeUpWork_bus hr
  obtain ⟨-, -, -, -, -, pace⟩ := s.takeUpWork_value
  have mirror : s.takeUpWork.beginTrackers.mirror = s.mirror := State.mirror_congr (by simp)
  have period : u.pace.period = (if s.marksCount then 0 else s.pace.period) := by
    simp [u, State.handOn_pace, pace]
  have clear : Slot.clear.mark = ⟨.pending, 0, false⟩ := rfl
  have empty : Slot.clear = ⟨.empty, 0, false⟩ := rfl
  cases hm : s.mirror with
  | true =>
    have kept : u.bus = s.bus := by
      simp [u, State.handOn_bus, mirror, hm, bus]
    simp [kept, hst, hc, period, empty]
  | false =>
    have kept : u.bus = { s.bus with
        status := ⟨.pending, 0, false⟩
        count := if s.marksCount then ⟨.pending, 0, false⟩ else .clear } := by
      have marked : s.takeUpWork.beginTrackers.bus = { s.bus with
          status := ⟨.pending, 0, false⟩
          count := if s.marksCount then ⟨.pending, 0, false⟩ else .clear } := by
        simp [bus, hm, hst, hc, clear]
      simp only [u, State.finish_blocks]
      rw [State.handOn_status _ (by rw [marked]), marked]
    simp [kept, period, empty]

end Sys2Proof.Machine
end

section
namespace Sys2Proof.Machine

variable (s : State)

/-- The trackers and the clock of a board at the end of its start (R3, R107). -/
theorem State.begun_inputs (i : InputId) :
    let u := s.takeUpWork.beginTrackers.finish
    u.tracker i = (if u.sampled i = true ∧ s.pins.level i = true then
      ⟨.qualifying (s.now + qualifyTime), none⟩ else .rest) ∧
    u.clock.s = s.clock.s ∧ u.clock.timeValid = s.clock.timeValid ∧ u.clock.source = s.clock.source ∧
    u.clock.authority = s.clock.authority ∧ u.clock.plans = s.clock.plans := by
  intro u
  have clock : u.clock = s.takeUpWork.beginTrackers.clock := by simp [u]
  have calls : u.calls = s.takeUpWork.beginTrackers.calls := by simp [u]
  have tracker : u.tracker i = s.takeUpWork.beginTrackers.tracker i := by
    cases i <;> simp only [State.tracker, clock, calls]
  have sampled : u.sampled i = s.takeUpWork.sampled i := State.sampled_congr (by simp [u]) (by simp [u]) i
  refine ⟨?_, ?_⟩
  · rw [tracker, sampled, s.takeUpWork.beginTrackers_tracker]
    simp
  · simp [clock, State.beginTrackers]

/-- What a board in LOADING holds that its start leaves or builds on (R26, R41, R60, R107, R126, R168). -/
theorem State.Ok.loading (h : s.Ok) (hm : s.mode = .loading) :
    s.calls.list = [] ∧ s.calls.overflow = none ∧ s.out.hold = false ∧ s.table.mirrored = none ∧
    s.table.entries = [] ∧ s.table.restarted = true ∧ s.bus = .initial ∧ s.pace = .initial ∧
    s.clock = .initial := by
  have rest : ¬ s.mode.awake = true := by rw [hm]; simp [Mode.awake]
  obtain ⟨-, calls, -, clock, pace, bus, -, table, -⟩ := h.atRest rest
  have list : s.calls.list = [] := by rw [calls]; rfl
  have overflow : s.calls.overflow = none := by rw [calls]; rfl
  exact ⟨list, overflow, by rw [h.holdFollows, s.holdWanted_of_empty list overflow],
    congrArg ZoneTable.mirrored table, congrArg ZoneTable.entries table, congrArg ZoneTable.restarted table,
    bus, pace, clock⟩

end Sys2Proof.Machine

open Sys2Proof Sys2Proof.Machine

/-- Settles O29: the steps of R192 bring the board to its work, and taking it up leaves what they set. -/
theorem goodImageStartsBoard : Obligations.GoodImageStartsBoard := by
  intro t mem s b area hb hm hr good
  have ran : exec (.configImageRead t mem) s = .next (b.leaveLoading (cfgOf mem) (plansOf mem)) :=
    congrArg Host.Outcome.next ((if_pos ⟨hm, hr⟩).trans (by rw [good]))
  have judged : b.judged = area := rfl
  clear_value area b
  obtain ⟨list0, overflow0, hold0, mirrored0, entries0, restarted0, bus0, pace0, clock0⟩ := hb.loading _ hm
  obtain ⟨mode, cfg, clock, calls, sec, table, att, disp, out, start, bus, period, now, pins, pending⟩ :=
    b.leaving_blocks (cfgOf mem) (plansOf mem)
  have ret := b.leaving_ret (cfgOf mem) (plansOf mem)
  have check := b.leaving_check (cfgOf mem) (plansOf mem)
  rw [b.leaveLoading_steps] at ran
  generalize b.leaving (cfgOf mem) (plansOf mem) = w at *
  rw [judged] at mode ret att
  obtain ⟨interval, last, shift, serial, -⟩ := area.closeInterval_value
  have run : w.running = true := by
    rw [State.running_iff, mode]
    by_cases z : area.shift = 0 <;> simp [z]
  obtain ⟨retU, checkU, carried, secU, restarted, entries, listU, flash, page, halt, reading⟩ :=
    w.begun_value run (by rw [calls, list0]) (by rw [calls, overflow0]) (by rw [out, hold0])
      (by rw [table, mirrored0]) (by rw [ret]; exact interval)
  obtain ⟨pend, empty, count, rng, idle, periodU⟩ :=
    w.begun_bus run (by rw [bus, bus0]; rfl) (by rw [bus, bus0]; rfl)
  have inputs := w.begun_inputs
  obtain ⟨-, second, valid, source, authority, plans⟩ := inputs .clr
  have cfgU : w.takeUpWork.beginTrackers.finish.cfg = cfgOf mem := by simp [cfg]
  have modeU : w.takeUpWork.beginTrackers.finish.mode = w.mode := by simp
  have nowU : w.takeUpWork.beginTrackers.finish.now = w.now := by simp
  have pinsU : w.takeUpWork.beginTrackers.finish.pins = b.pins := by simp [pins]
  have pendingU : w.takeUpWork.beginTrackers.finish.pending = b.pending := by simp [pending]
  have link := w.takeUpWork.beginTrackers.finish_linkFollows
  have shown : w.takeUpWork.beginTrackers.disp.picture = b.disp.picture ∧
      w.takeUpWork.beginTrackers.disp.link = b.disp.link := by
    simp [w.takeUpWork_value, State.takenUp, disp]
  have mirrorU : w.takeUpWork.beginTrackers.finish.mirror = w.mirror := State.mirror_congr (by simp)
  generalize w.takeUpWork.beginTrackers.finish = u at *
  refine ⟨u, ran, modeU.trans mode, cfgU, by rw [plans, clock], by rw [halt, start], by rw [reading, start],
    by rw [retU, ret]; exact shift, by rw [retU, ret]; exact serial, by rw [retU, ret]; exact last,
    by rw [retU, ret]; exact interval, by rw [retU, ret], by rw [carried, att], by rw [retU, ret, cfgU],
    by rw [retU, ret, cfgU], by rw [retU, ret], fun h => by rw [checkU, retU]; exact check h, fun i => ?_,
    by rw [second, clock, clock0]; rfl, by rw [valid, clock, clock0]; rfl,
    by rw [source, clock, clock0]; rfl, ?_, by rw [authority, clock, clock0]; rfl, by rw [secU]; rfl,
    by rw [secU]; rfl, fun hm => ?_, by rw [restarted, table, restarted0],
    by rw [entries, table, entries0], listU, fun hm => pend (by rw [← mirrorU, hm]),
    fun hm => empty (by rw [← mirrorU, hm]), ?_, ?_, ?_, by rw [rng, bus, cfgU]; rfl,
    by rw [idle, bus]; rfl, flash, page, pinsU, pendingU⟩
  · rw [(inputs i).1, now, pins]
    rfl
  · simp [Clock.isFree, source, clock, clock0, Clock.initial]
  · have sampled : w.advSampled = true := by
      rw [State.advSampled, run, ← mirrorU, hm]
      rfl
    rw [secU, nowU]
    exact if_pos sampled
  · rw [count]
    have marks : w.marksCount = true ↔ u.cfg.roles.countPoint = true ∧ area.serial ≠ none := by
      simp [State.marksCount, cfg, cfgU, ret, serial, Option.isSome_iff_ne_none]
    exact if_congr (by rw [marks, mirrorU, and_assoc, and_comm (a := area.serial ≠ none)]) rfl rfl
  · rw [periodU, period, pace0]
    split <;> rfl
  · unfold State.LinkFollows at link
    rwa [shown.1, shown.2] at link
end

section
namespace Sys2Proof.Machine

variable (s : State)

/-! ## A boundary by an own shift input (R93, R94) -/

/-- The board's own shift input crosses a boundary: time source with authority, and TIME marked. -/
def State.ownBoundary (shift serial : Nat) (s : State) : State :=
  ((s.setClock (s.clock.ownInput s.cfg.zone)).boundary shift serial).markTime

theorem State.shiftStart_steps (code : Nat) :
    s.shiftStart code = s.ownBoundary (if code = 0 then 1 else code) (nextSerial s.ret.serial) := rfl

/-- A shift end pulse under a serial: in shift 0 it sets the time valid and takes authority, otherwise it
ends the shift (R94). -/
theorem State.shiftEnd_steps {x : Nat} (h : s.ret.serial = some x) :
    s.shiftEnd = if s.ret.shift = 0 then
        s.setClock { s.clock with timeValid := true, s := 0, authority := true }
      else s.ownBoundary 0 ((x + 1) % 256) := by
  rw [State.shiftEnd, h]
  rfl

theorem State.shiftEnd_without_serial (h : s.ret.serial = none) : s.shiftEnd = s := by
  rw [State.shiftEnd, h]

theorem tEndOf_freshPeak (ps : PlanStore) (shift : Nat) :
    (if shift ≠ 0 ∧ (ps.get shift).any (fun x => x.usable) = true then
      (ps.get shift).map (fun x => targetAt x.entries 0) else (tEndOf (ps.get shift)).map (fun _ => 0)) =
      ps.freshPeak shift 0 := by
  have none0 : ps.get 0 = none := rfl
  unfold PlanStore.freshPeak
  cases h : ps.get shift with
  | none => simp [tEndOf]
  | some p =>
    have ne : shift ≠ 0 := by
      rintro rfl
      simp [none0] at h
    cases hu : p.usable <;> simp [tEndOf, hu, ne]

/-- TIME marked at once by a running board, never by a mirror. -/
theorem State.markTime_bus (hr : s.running = true) :
    s.markTime.bus = if s.mirror = true then s.bus else { s.bus with time := s.bus.time.mark } := by
  have run : (s.setClock { s.clock with markCount := 0 }).running = true := hr
  have mirror : (s.setClock { s.clock with markCount := 0 }).mirror = s.mirror := rfl
  rw [State.markTime, State.mark_value, run, mirror]
  cases s.mirror <;> rfl

/-- The blocks after a boundary by an own shift input (R25, R37, R49, R91 to R94, R124, R125). -/
theorem State.ownBoundary_value (shift serial : Nat) :
    let v := s.ownBoundary shift serial
    v.mode = (if shift = 0 then .standby else .shift) ∧ v.calls = s.calls.forgetTimes ∧
    v.clock = { s.clock.ownInput s.cfg.zone with markCount := 0 } ∧ v.sec = { s.sec with lastCar := none } ∧
    v.table = s.table.dropSilent ∧
    v.start = { s.start with
      dormantCount := if shift = 0 ∧ s.mode ≠ .standby then 0 else s.start.dormantCount } ∧
    v.bus = (if s.mirror = true then s.bus else { s.bus with
      time := s.bus.time.mark, count := if s.ret.car = 0 then s.bus.count else s.bus.count.mark }) ∧
    v.pace.source = none ∧ v.pace.period = (if s.ret.car = 0 then s.pace.period else 0) ∧
    v.ret = { s.ret.cross shift serial with
      car := 0, actual := 0, peak := s.clock.plans.freshPeak shift 0 } := by
  dsimp only
  have steps : s.ownBoundary shift serial =
    ((s.setClock (s.clock.ownInput s.cfg.zone)).boundary shift serial).markTime := rfl
  have kept : (s.setClock (s.clock.ownInput s.cfg.zone)).mirror = s.mirror := rfl
  have clock : (s.setClock (s.clock.ownInput s.cfg.zone)).clock = s.clock.ownInput s.cfg.zone := rfl
  have others : (s.setClock (s.clock.ownInput s.cfg.zone)).calls = s.calls ∧
      (s.setClock (s.clock.ownInput s.cfg.zone)).sec = s.sec ∧
      (s.setClock (s.clock.ownInput s.cfg.zone)).table = s.table ∧
      (s.setClock (s.clock.ownInput s.cfg.zone)).start = s.start ∧
      (s.setClock (s.clock.ownInput s.cfg.zone)).mode = s.mode ∧
      (s.setClock (s.clock.ownInput s.cfg.zone)).bus = s.bus ∧
      (s.setClock (s.clock.ownInput s.cfg.zone)).pace = s.pace ∧
      (s.setClock (s.clock.ownInput s.cfg.zone)).ret = s.ret := by simp
  obtain ⟨hcalls, hsec, htable, hstart, hmode, hbus, hpace, hret⟩ := others
  generalize s.setClock (s.clock.ownInput s.cfg.zone) = w at *
  obtain ⟨mode, calls, sec, table, -, start⟩ := w.boundary_blocks shift serial
  obtain ⟨bus, pace⟩ := w.boundary_pace shift serial
  have ret := w.boundary_ret shift serial
  have run := w.boundary_runs shift serial
  have mirror : (w.boundary shift serial).mirror = s.mirror := (State.mirror_congr (by simp)).trans kept
  have valid : (s.clock.ownInput s.cfg.zone).timeValid = true := rfl
  have zero : (s.clock.ownInput s.cfg.zone).s = 0 := rfl
  have plans : (s.clock.ownInput s.cfg.zone).plans = s.clock.plans := rfl
  have peak := tEndOf_freshPeak s.clock.plans shift
  have marked := (w.boundary shift serial).markTime_bus run
  rw [mirror, bus, kept, hret, hbus] at marked
  have others : (w.boundary shift serial).markTime.mode = (w.boundary shift serial).mode ∧
      (w.boundary shift serial).markTime.ret = (w.boundary shift serial).ret := by simp
  rw [steps]
  refine ⟨others.1.trans mode, by simp [calls, hcalls], by simp [State.markTime, clock], by simp [sec, hsec],
    by simp [table, htable], by simp [start, hstart, hmode], ?_, by simp [pace],
    by simp [pace, hpace, hret, eq_comm], ?_⟩
  · rw [marked]
    by_cases hm : s.mirror = true
    · simp [hm]
    · by_cases car : s.ret.car = 0 <;> simp [hm, car, eq_comm]
  · rw [others.2, ret, hret, clock, plans, zero, valid, ← peak]
    simp only [true_and]

end Sys2Proof.Machine
end

section
namespace Sys2Proof.Machine

variable (s : State)

/-- With no interval open the end of a command leaves of the retained area all but the interval (R71). -/
theorem State.finish_ret_of_no_interval (h : s.ret.interval = none) :
    s.finish.ret = { s.ret with interval := s.finish.ret.interval } := by
  have closed := s.ret.closeInterval_value.2.2.2.2.2.2.2.1 h
  simp only [State.finish_blocks, s.handOn_ret, closed]
  split <;> rfl

/-- What a boundary by an own shift input and the end of its command leave (R25, R37, R80, R91 to R94,
R124, R125). -/
theorem State.ownBoundary_finish (shift serial : Nat) :
    let u := (s.ownBoundary shift serial).finish
    u.mode = (if shift = 0 then .standby else .shift) ∧ u.calls = s.calls.forgetTimes ∧
    u.clock = { s.clock.ownInput s.cfg.zone with markCount := 0 } ∧
    u.table.entries = s.table.entries.filter (fun e => e.live) ∧
    (s.mirror = false → u.bus.time = s.bus.time.mark ∧ s.CounterReturns u) ∧ u.sec.lastCar = none ∧
    u.pace.source = none ∧
    u.ret = { s.ret.cross shift serial with
      car := 0, actual := 0, peak := s.clock.plans.freshPeak shift 0, interval := u.ret.interval } ∧
    (shift = 0 → s.mode ≠ .standby → u.start.dormantCount = 0) ∧
    (shift = 0 → u.ret.interval = none ∧ u.att.cause = none) ∧ s.LinkFollows u ∧
    u.disp.store = s.disp.store ∧ u.req = s.req ∧ u.cfg = s.cfg ∧ u.pins = s.pins := by
  intro u
  have disp : (s.ownBoundary shift serial).disp = s.disp := by simp [State.ownBoundary]
  have kept : (s.ownBoundary shift serial).req = s.req ∧ (s.ownBoundary shift serial).cfg = s.cfg ∧
      (s.ownBoundary shift serial).pins = s.pins := by simp [State.ownBoundary]
  obtain ⟨mode, calls, clock, sec, table, start, bus, source, period, ret⟩ :=
    s.ownBoundary_value shift serial
  have crossed := s.ret.cross_value shift serial
  have fin : u = (s.ownBoundary shift serial).finish := rfl
  clear_value u
  generalize s.ownBoundary shift serial = v at *
  obtain ⟨-, -, interval, -⟩ := crossed
  have none' : v.ret.interval = none := by rw [ret]; exact interval
  have retU := v.finish_ret_of_no_interval none'
  have link := v.finish_linkFollows
  rw [← fin] at retU link
  have lastCar : u.sec.lastCar = none := by rw [fin, v.finish_blocks.1, v.handOn_sec, sec]
  refine ⟨by simp [fin, mode], by simp [fin, calls], by simp [fin, clock], ?_, fun hm => ⟨?_, ?_, lastCar, ?_, ?_⟩,
    lastCar, ?_, ?_, fun hz hs => ?_, fun hz => ?_, ?_, by simp [fin, disp], by simp [fin, kept], by simp [fin, kept],
    by simp [fin, kept]⟩
  · simp [fin, table, ZoneTable.dropSilent]
  · simp [fin, v.handOn_bus, bus, hm]
  · rw [retU, ret]
  · simp [fin, v.handOn_bus, bus, hm]
  · simp [fin, v.handOn_pace, period]
  · simp [fin, v.handOn_pace, source]
  · conv_lhs => rw [retU, ret]
  · have zero : v.start.dormantCount = 0 := by simp [start, hz, hs]
    simp [fin, v.handOn_start, zero]
  · have noShift : v.mode ≠ .shift := by simp [mode, hz]
    have same := (v.finish_ret_of_no_shift noShift).1
    exact ⟨by rw [fin, same, none'], by rw [fin]; exact v.finish_cause.2 noShift⟩
  · unfold State.LinkFollows at link ⊢
    rwa [disp] at link

/-- The current and the last record after a boundary (R80, R81). -/
theorem State.Ok.cross_records {b : State} (h : b.Ok) (shift serial : Nat) :
    (shift ≠ 0 → (b.ret.cross shift serial).current.map
      (fun r => (r.shift, r.tally, r.total, r.version, r.changed)) = some (shift, [], 0, 0, false)) ∧
    (shift = 0 → (b.ret.cross shift serial).current = none) ∧
    (b.mode = .shift → (b.ret.cross shift serial).last.map (fun r => (r.shift, r.close, r.changed)) =
      some (b.ret.shift, some ⟨b.ret.actual, b.ret.peak⟩, true)) ∧
    (b.mode.awake = true → b.mode ≠ .shift → (b.ret.cross shift serial).last = b.ret.last) := by
  obtain ⟨-, -, -, current, absent, frozen, -⟩ := b.ret.cross_value shift serial
  obtain ⟨-, stands, bears, -, runs, -⟩ := h.shiftOk
  refine ⟨fun hs => by simp [current, hs, Record.begin_], fun hs => by rw [current, if_pos hs], fun m => ?_,
    fun ha m => absent ?_⟩
  · have some' : b.ret.current.isSome = true := stands.mpr ((runs (by rw [m]; rfl)).mp m)
    obtain ⟨c, hc⟩ := Option.isSome_iff_exists.mp some'
    obtain ⟨d, hd, hl⟩ := frozen c hc
    have shift : d.shift = b.ret.shift := by
      rw [← (bears c hc).1]
      have same := b.ret.closeInterval_bears
      simp only [hd, Option.mem_def.mp hc, Option.map_some, Option.some.injEq, Prod.mk.injEq] at same
      exact same.1
    simp [hl, Record.freeze, Record.advance, shift]
  · have zero : ¬ b.ret.shift ≠ 0 := fun k => by
      exact m ((runs ha).mpr k)
    have none' : ¬ b.ret.current.isSome = true := fun k => zero (stands.mp k)
    simpa using none'

/-- A reference board is no mirror (R189). -/
theorem State.Ok.mirror_of_reference {b : State} (h : b.Ok) (ha : b.mode.awake = true)
    (hr : b.cfg.roles.reference = true) : b.mirror = false := by
  obtain ⟨-, -, -, -, -, -, coherent, -⟩ := h.cfgOk ha
  unfold State.mirror
  simpa [Roles.coherent, hr] using coherent

end Sys2Proof.Machine
end

section
namespace Sys2Proof.Machine

variable {b : State}

theorem State.wakeIfDormant_counted (hr : b.running = true) (i : InputId) (x : Tracker) :
    (b.setTracker i x).wakeIfDormant = b.setTracker i x :=
  State.wakeIfDormant_of_running _ ((State.running_congr (by simp)).trans hr)

theorem State.reference_of_shst (h : b.sampled .shst = true) : b.cfg.roles.reference = true := by
  simp only [State.sampled, Bool.and_eq_true] at h
  exact h.2

theorem State.reference_of_shend (h : b.sampled .shend = true) : b.cfg.roles.reference = true := by
  simp only [State.sampled, Bool.and_eq_true] at h
  exact h.2

theorem nextSerial_value (x : Option Nat) :
    nextSerial x = (match x with | some x => (x + 1) % 256 | none => 1) := by
  cases x <;> rfl

/-- A shift end pulse in shift 0 changes the clock alone, and nothing without a serial (R94). -/
theorem State.shiftEnd_outside (s : State) (hz : s.ret.shift = 0) :
    ∃ c, s.shiftEnd = s.setClock c ∧ (s.ret.serial = none → c = s.clock) ∧
      (s.ret.serial ≠ none → c = { s.clock with timeValid := true, s := 0, authority := true }) := by
  cases hs : s.ret.serial with
  | none => exact ⟨s.clock, s.shiftEnd_without_serial hs, fun _ => rfl, fun k => absurd rfl k⟩
  | some x =>
    exact ⟨_, (s.shiftEnd_steps hs).trans (if_pos hz), fun k => absurd k (by simp), fun _ => rfl⟩

/-- A counted shift start pulse on a running board (R92, R93). -/
theorem exec_shst {t : Time} {c0 c1 : Bool} {s : State} (hr : (s.begin_ t).running = true)
    (hc : Counted (s.begin_ t) .shst) : exec (.qualifyTimeExpiry t .shst c0 c1) s =
      .next (((s.begin_ t).setTracker .shst ⟨.taken, some (s.begin_ t).now⟩).shiftStart
        (shiftCode c0 c1)).finish := by
  have counted := (s.begin_ t).qualify_counted (shiftCode c0 c1) hc
  rw [State.counted, State.wakeIfDormant_counted hr] at counted
  exact congrArg Host.Outcome.next counted

/-- A counted shift end pulse on a running board (R92, R94). -/
theorem exec_shend {t : Time} {c0 c1 : Bool} {s : State} (hr : (s.begin_ t).running = true)
    (hc : Counted (s.begin_ t) .shend) : exec (.qualifyTimeExpiry t .shend c0 c1) s =
      .next ((s.begin_ t).setTracker .shend ⟨.taken, some (s.begin_ t).now⟩).shiftEnd.finish := by
  have counted := (s.begin_ t).qualify_counted (shiftCode c0 c1) hc
  rw [State.counted, State.wakeIfDormant_counted hr] at counted
  exact congrArg Host.Outcome.next counted

end Sys2Proof.Machine

open Sys2Proof Sys2Proof.Machine

/-- Settles O36: each pulse is a boundary by an own input, or no boundary at all, and `finish`. -/
theorem shiftPulsesCrossBoundary : Obligations.ShiftPulsesCrossBoundary := by
  intro t c0 c1 s b code forgotten own hb hr
  have awake := State.awake_of_running hr
  refine ⟨fun hc => ?_, fun hc m => ?_, fun hc m => ?_⟩
  · have ran : exec (.qualifyTimeExpiry t .shst c0 c1) s =
        .next ((b.setTracker .shst ⟨.taken, some b.now⟩).shiftStart code).finish := exec_shst hr hc
    clear_value b code
    have hm : (b.setTracker .shst ⟨.taken, some b.now⟩).mirror = false :=
      hb.mirror_of_reference awake (State.reference_of_shst hc.2.1)
    have started : (if code = 0 then 1 else code) ≠ 0 := by split <;> simp_all
    have serial := nextSerial_value b.ret.serial
    obtain ⟨current, -, shift, standby⟩ :=
      hb.cross_records (if code = 0 then 1 else code) (nextSerial b.ret.serial)
    obtain ⟨num, ser, -⟩ := b.ret.cross_value (if code = 0 then 1 else code) (nextSerial b.ret.serial)
    rw [State.shiftStart_steps] at ran
    have facts :=
      (b.setTracker .shst ⟨.taken, some b.now⟩).ownBoundary_finish (if code = 0 then 1 else code) (nextSerial b.ret.serial)
    have kept : (b.setTracker .shst ⟨.taken, some b.now⟩).ret = b.ret := rfl
    rw [kept] at ran
    generalize (State.ownBoundary _ _ _).finish = u at ran facts
    obtain ⟨mode, calls, clock, entries, marks, -, source, ret, -, -, link, store, req, cfg, -⟩ := facts
    rw [kept] at ret
    obtain ⟨time, counter⟩ := marks hm
    refine ⟨u, ran, mode.trans (if_neg started), ?_, ?_, clock, ?_, time, counter, link, ?_, fun m => ?_,
      fun m => ?_, ?_, ?_, ?_, source, calls, entries, store, req, cfg⟩
    · rw [ret]
      exact num
    · rw [ret]
      exact ser.trans (congrArg some serial)
    · rw [clock]
      rfl
    · rw [ret]
      dsimp only
      rw [num]
      exact current started
    · rw [ret]
      exact shift m
    · rw [ret]
      exact standby awake (by simp [m])
    · rw [ret]
    · rw [ret]
    · rw [ret]
      dsimp only
      rw [num]
      rfl
  · have ran : exec (.qualifyTimeExpiry t .shend c0 c1) s =
        .next (b.setTracker .shend ⟨.taken, some b.now⟩).shiftEnd.finish := exec_shend hr hc
    clear_value b code
    have hm : (b.setTracker .shend ⟨.taken, some b.now⟩).mirror = false :=
      hb.mirror_of_reference awake (State.reference_of_shend hc.2.1)
    obtain ⟨x, hx⟩ := Option.ne_none_iff_exists'.mp (hb.shiftOk.serial m)
    have num0 : b.ret.shift ≠ 0 := (hb.shiftOk.2.2.2.2.1 awake).mp m
    have kept : (b.setTracker .shend ⟨.taken, some b.now⟩).ret = b.ret := rfl
    rw [State.shiftEnd_steps _ ((congrArg Retained.serial kept).trans hx), kept, if_neg num0] at ran
    obtain ⟨-, current, shift, -⟩ := hb.cross_records 0 ((x + 1) % 256)
    obtain ⟨num, ser, -⟩ := b.ret.cross_value 0 ((x + 1) % 256)
    have facts := (b.setTracker .shend ⟨.taken, some b.now⟩).ownBoundary_finish 0 ((x + 1) % 256)
    generalize (State.ownBoundary _ _ _).finish = u at ran facts
    obtain ⟨mode, calls, clock, entries, marks, -, source, ret, dormant, rest, link, store, req, cfg, -⟩ :=
      facts
    rw [kept] at ret
    obtain ⟨time, counter⟩ := marks hm
    refine ⟨u, ran, mode, ?_, ?_, clock, ?_, time, counter, link, ?_, (rest rfl).1, ?_, ?_, ?_, ?_, (rest rfl).2,
      source, dormant rfl (by simp [m]), calls, entries, store, req, cfg⟩
    · rw [ret]
      exact num
    · rw [ret, hx]
      exact ser
    · rw [clock]
      rfl
    · rw [ret]
      exact current rfl
    · rw [ret]
      exact shift m
    · rw [ret]
    · rw [ret]
    · rw [ret]
      rfl
  · have ran : exec (.qualifyTimeExpiry t .shend c0 c1) s =
        .next (b.setTracker .shend ⟨.taken, some b.now⟩).shiftEnd.finish := exec_shend hr hc
    clear_value b code
    have num0 : b.ret.shift = 0 := by
      by_contra k
      have shift := (hb.shiftOk.2.2.2.2.1 awake).mpr k
      simp [m] at shift
    obtain ⟨c, ended, without, under⟩ := (b.setTracker .shend ⟨.taken, some b.now⟩).shiftEnd_outside num0
    have replaced : (b.setTracker .shend ⟨.taken, some b.now⟩).setClock c = b.setClock c := rfl
    rw [ended, replaced] at ran
    refine ⟨_, ran, (State.finish_ret_of_no_shift _ (by simp [m])).1, by simpa using m, ?_, by simp, ?_, ?_, ?_⟩
    · simp [State.handOn_bus]
    · simp only [State.finish_frame, State.setClock_clock]
      exact without
    · simp only [State.finish_frame, State.setClock_clock]
      exact under
    · exact State.followedFrom_of_eq (by simp)
end

section
namespace Sys2Proof.Machine

variable (s : State)

/-! ## Waking from DORMANT (R196) -/

/-- The board in STANDBY again, before it takes up its work. -/
def State.roused (s : State) : State :=
  (s.setMode .standby).setBus { s.bus with wake := .off, activityReady := false, armed := false }

@[simp] theorem State.roused_frame :
    s.roused.pending = s.pending ∧ s.roused.now = s.now ∧ s.roused.mode = .standby ∧ s.roused.cfg = s.cfg ∧
    s.roused.pins = s.pins ∧ s.roused.out = s.out ∧ s.roused.calls = s.calls ∧ s.roused.sec = s.sec ∧
    s.roused.table = s.table ∧ s.roused.att = s.att ∧ s.roused.ret = s.ret ∧ s.roused.check = s.check ∧
    s.roused.clock = s.clock ∧ s.roused.pace = s.pace ∧ s.roused.disp = s.disp ∧ s.roused.req = s.req ∧
    s.roused.start = s.start := by
  simp [State.roused]

/-- The board as a wake leaves it before the blocks follow. -/
def State.waking (s : State) : State :=
  if s.roused.takeUpWork.clock.authority then s.roused.takeUpWork.markTime else s.roused.takeUpWork

theorem State.wake_steps : s.wake = s.waking.finish := rfl

/-- The clock of a board that wakes: with authority the mark count starts anew (R96, R108). -/
def Clock.woken (c : Clock) : Clock := { c with markCount := if c.authority then 0 else c.markCount }

/-- The bus controller of a board that wakes (R59, R96, R124, R168). -/
def State.wokenBus (s : State) : Bus :=
  { s.roused.bus with
    status := s.bus.status.mark
    count := if s.marksCount then s.bus.count.mark else s.bus.count
    time := if s.clock.authority then s.bus.time.mark else s.bus.time }

/-- Nothing is marked on a mirror; otherwise STATUS is, and COUNT and TIME where the board sends them. -/
theorem State.waking_bus : s.waking.bus = if s.mirror = true then s.roused.bus else s.wokenBus := by
  have work := s.roused.takeUpWork_bus rfl
  have run : s.roused.takeUpWork.running = true := (State.running_congr (s := s.roused) (by simp)).trans rfl
  have mirror : s.roused.takeUpWork.mirror = s.mirror := State.mirror_congr (by simp [State.roused])
  have clock : s.roused.takeUpWork.clock = s.clock := by simp
  have marked := s.roused.takeUpWork.markTime_bus run
  have counts : s.roused.marksCount = s.marksCount := rfl
  have same : s.roused.mirror = s.mirror := rfl
  unfold State.waking State.wokenBus
  rw [clock]
  rw [same, counts] at work
  rw [mirror] at marked
  have slots : s.roused.bus.status = s.bus.status ∧ s.roused.bus.count = s.bus.count ∧
      s.roused.bus.time = s.bus.time := ⟨rfl, rfl, rfl⟩
  cases hm : s.mirror <;> cases ha : s.clock.authority <;> simp [hm, marked, work, slots]

/-- The blocks of a board that wakes (R40, R59, R86, R108, R124, R152). -/
theorem State.waking_value :
    s.waking.mode = .standby ∧ s.waking.clock = s.clock.woken ∧ s.waking.ret = s.ret ∧
    s.waking.check = s.check ∧ s.waking.cfg = s.cfg ∧ s.waking.pins = s.pins ∧ s.waking.calls = s.calls ∧
    s.waking.req = s.req ∧ s.waking.now = s.now ∧ s.waking.out = s.out ∧
    s.waking.sec = s.roused.takenUp.sec ∧ s.waking.table = s.roused.takenUp.table ∧
    s.waking.disp = s.roused.takenUp.disp ∧ s.waking.start = { s.start with dormantCount := 0 } ∧
    s.waking.pace = { s.pace with period := if s.marksCount then 0 else s.pace.period } := by
  obtain ⟨sec, table, att, disp, start, pace⟩ := s.roused.takeUpWork_value
  have counts : s.roused.marksCount = s.marksCount := rfl
  have clock : s.roused.takeUpWork.clock = s.clock := by simp
  have woken : s.waking.clock = s.clock.woken := by
    unfold State.waking Clock.woken
    rw [clock]
    by_cases ha : s.clock.authority = true
    · rw [if_pos ha, if_pos ha]
      simp [State.markTime]
    · rw [if_neg ha, if_neg ha, clock]
  rw [counts] at pace
  refine ⟨?_, woken, ?_⟩
  · unfold State.waking
    split <;> simp
  · unfold State.waking
    split <;> simp [sec, table, disp, start, pace, State.takenUp]

end Sys2Proof.Machine
end

section
namespace Sys2Proof.Machine

variable (s : State)

/-- Outside SHIFT the derived times are those of the default takt (R27, R105). -/
theorem State.currentTimes_of_no_shift (m : s.mode ≠ .shift) :
    s.currentTimes = timesFor s.cfg.defaultTakt s.cfg.ppp s.cfg.stopMin := by
  simp [State.currentTimes, State.currentTakt, m]

theorem State.breakRemaining_of_no_shift (m : s.mode ≠ .shift) : s.breakRemaining = none := by
  simp [State.breakRemaining, State.breakEnds, State.knownSecond, m]

/-- What a wake leaves, whatever the board held (R196). -/
theorem State.wake_blocks :
    s.wake.clock = s.clock.woken ∧ s.wake.start = { s.start with dormantCount := 0 } ∧
    s.wake.disp.store = s.disp.store ∧ s.wake.sec.lastCar = s.sec.lastCar ∧
    s.wake.pace.period = (if s.marksCount then 0 else s.pace.period) ∧
    s.wake.bus = { (if s.mirror = true then s.roused.bus else s.wokenBus) with
      status := s.wake.bus.status } := by
  obtain ⟨-, clock, -, -, -, -, -, -, -, -, sec, -, disp, start, pace⟩ := s.waking_value
  rw [s.wake_steps]
  refine ⟨by simp [clock], ?_, by simp [disp, State.takenUp], ?_, by simp [State.handOn_pace, pace], ?_⟩
  · simp [State.handOn_start, start]
  · rw [s.waking.finish_blocks.1, State.handOn_sec, sec]
    simp [State.takenUp]
  · rw [← s.waking_bus]
    simp only [State.finish_blocks]
    rw [s.waking.handOn_bus]

/-- STATUS is marked by a wake of a board that is no mirror (R59). -/
theorem State.wake_status (hm : s.mirror = false) : s.wake.bus.status.state ≠ .empty := by
  have marked : s.waking.bus.status.state ≠ .empty := by
    rw [s.waking_bus, if_neg (by simp [hm])]
    exact s.bus.status.mark_value.1
  rw [s.wake_steps]
  simp only [State.finish_blocks]
  rw [s.waking.handOn_bus]
  dsimp only
  split
  · exact marked
  · exact s.waking.bus.status.mark_value.1

/-- A board without calls wakes to a motion not yet known, the stop-detect timer running, nothing held
(R40). -/
theorem State.wake_section (hm : s.mirror = false) (hl : s.calls.list = []) (ho : s.calls.overflow = none)
    (hh : s.out.hold = false) :
    s.wake.sec = { s.sec with
      times := s.wake.currentTimes, motion := .unknown, lastPulse := none, stopTimer := some s.now } ∧
    s.wake.out.hold = false ∧ s.wake.holdWanted = false := by
  obtain ⟨mode, clock, ret, -, cfg, -, calls, -, now, out, sec, -⟩ := s.waking_value
  have wanted : s.waking.holdWanted = false :=
    State.holdWanted_of_empty _ (by rw [calls]; exact hl) (by rw [calls]; exact ho)
  have sampled : s.roused.advSampled = true := by
    have mirror : s.roused.mirror = false := hm
    have run : s.roused.running = true := rfl
    simp [State.advSampled, mirror, run]
  have times : s.waking.currentTimes = s.roused.currentTimes := by
    rw [State.currentTimes_of_no_shift _ (by simp [mode]), State.currentTimes_of_no_shift _ (by simp), cfg,
      s.roused_frame.2.2.2.1]
  have still := s.waking.handOn_sec_still (by rw [sec, times]; rfl) (by rw [wanted, out]; exact hh)
  rw [s.wake_steps]
  refine ⟨?_, ?_, ?_⟩
  · rw [State.finish_currentTimes, s.waking.finish_blocks.1, still, times, sec]
    simp [State.takenUp, sampled]
  · simpa using wanted
  · rw [← wanted]
    apply State.holdWanted_congr <;> simp

/-- A board without calls wakes to a text line that takes up what the store holds (R140, R152). -/
theorem State.wake_text (hl : s.calls.list = []) (ho : s.calls.overflow = none) :
    s.wake.RunsNext none none := by
  obtain ⟨mode, -, -, -, -, -, calls, -, -, -, -, -, disp, -⟩ := s.waking_value
  have wanted : s.waking.holdWanted = false :=
    State.holdWanted_of_empty _ (by rw [calls]; exact hl) (by rw [calls]; exact ho)
  have run : s.waking.running = true := by rw [State.running, mode]; rfl
  have idle : s.waking.disp.running = none ∧ s.waking.disp.pending = none := by
    rw [disp]
    exact ⟨rfl, rfl⟩
  have text := (s.waking.finish_textFollows.2.2 run (by simp [wanted])).1 idle.1
  rw [idle.2] at text
  rw [s.wake_steps]
  exact text

/-- The figures of a board in DORMANT are dark, those of a board in STANDBY are dashes (R128). -/
theorem State.ShownFollows.actual (h : s.ShownFollows) :
    (s.mode = .dormant → s.disp.picture.actual = .dark) ∧
    (s.mode = .standby → s.disp.picture.actual = .dashes) := by
  rw [h.1]
  have mode : s.dispInputs.mode = s.mode := rfl
  constructor <;> intro m <;> simp [render, mode, m, fieldView]

/-- A wake puts the lit picture on the display link (R129). -/
theorem State.wake_link (dark : s.disp.picture.actual = .dark) :
    s.wake.disp.link.sending ≠ none ∧
    (s.wake.disp.link.sending = some s.wake.disp.picture ∨ s.wake.disp.link.again = true) := by
  obtain ⟨mode, -, -, -, -, -, -, -, -, -, -, -, disp, -⟩ := s.waking_value
  have follows := s.waking.finish_linkFollows
  have shown := (s.waking.finish_shown.actual _).2 (by simpa using mode)
  have link : s.waking.disp.link = s.disp.link := by rw [disp]; rfl
  have changed : s.waking.finish.disp.picture ≠ s.waking.disp.picture := by
    intro same
    have picture : s.waking.disp.picture = s.disp.picture := by rw [disp]; rfl
    rw [same, picture, dark] at shown
    exact absurd shown (by simp)
  have sent := follows.2 changed (by simp [mode])
  rw [s.wake_steps]
  by_cases free : s.waking.disp.link.sending = none
  · simp [sent.1 free]
  · simp [sent.2 free, free]

end Sys2Proof.Machine
end

section
namespace Sys2Proof.Machine

variable {w v : State}

/-! ## A local input applied to a board that has just woken (R3, R196) -/

/-- `v` is `w` after a local input was applied to it: what no pull, press or pulse touches. -/
structure State.AppliedTo (w v : State) : Prop where
  running : v.running = true
  kept : v.cfg = w.cfg ∧ v.pins = w.pins ∧ v.req = w.req ∧ v.start = w.start ∧ v.now = w.now
  disp : v.disp = { w.disp with running := v.disp.running }
  bus : v.bus.wake = w.bus.wake ∧ v.bus.reply = w.bus.reply ∧ v.bus.status = w.bus.status
  sec : v.sec.motion = w.sec.motion ∧ v.sec.stopTimer = w.sec.stopTimer ∧ v.sec.lastPulse = w.sec.lastPulse

/-- A stop-detect timer that has just started is not cut short by a change of takt (R28). -/
theorem State.handOn_sec_fresh (hr : v.running = true) (ht : v.sec.stopTimer = some v.now) :
    v.handOn.sec.motion = v.sec.motion ∧ v.handOn.sec.stopTimer = v.sec.stopTimer := by
  by_cases times : v.sec.times = v.currentTimes
  · rw [v.handOn_sec_of_times (.inl times)]
    simp
  · refine ((v.handOn_times hr).2 times).2 fun t h => ?_
    rw [ht, Option.mem_some_iff] at h
    rw [← h]
    exact Nat.le_add_right _ _

/-- What a wake and the input behind it leave beside the input's own effects. -/
theorem State.AppliedTo.finish_frame {s : State} (h : s.wake.AppliedTo v) :
    v.finish.bus.wake = .off ∧ v.finish.start = { s.start with dormantCount := 0 } ∧
    v.finish.pins = s.pins ∧ v.finish.cfg = s.cfg ∧ v.finish.req = s.req ∧
    v.finish.disp.store = s.disp.store := by
  obtain ⟨cfg, pins, req, start, -⟩ := h.kept
  obtain ⟨-, startW, storeW, -, -, busW⟩ := s.wake_blocks
  have off : s.wake.bus.wake = .off := by
    rw [busW]
    dsimp only
    split <;> rfl
  refine ⟨by simp [v.handOn_bus, h.bus, off], ?_, by simp [pins], by simp [cfg], by simp [req], ?_⟩
  · simp [v.handOn_start, start, startW]
  · have store : v.disp.store = s.wake.disp.store := by rw [h.disp]
    simp [store, storeW]

/-- What a wake of a sound board and the input behind it leave of section monitor, slots and display. -/
theorem State.AppliedTo.finish_fresh {s : State} (h : s.wake.AppliedTo v) (hm : s.mirror = false)
    (hl : s.calls.list = []) (ho : s.calls.overflow = none) (hh : s.out.hold = false)
    (dark : s.disp.picture.actual = .dark) :
    v.finish.bus.status.state ≠ .empty ∧ v.finish.bus.reply = s.bus.reply ∧
    v.finish.sec.motion = .unknown ∧ v.finish.sec.stopTimer = some s.now ∧ v.finish.sec.lastPulse = none ∧
    v.finish.HoldFollows ∧ v.finish.OwnFollows ∧ v.finish.ShownFollows ∧
    v.finish.disp.link.sending ≠ none ∧
    (v.finish.disp.link.sending = some v.finish.disp.picture ∨ v.finish.disp.link.again = true) := by
  obtain ⟨cfg, -, -, -, now⟩ := h.kept
  obtain ⟨-, reply, status⟩ := h.bus
  obtain ⟨motion, timer, pulse⟩ := h.sec
  obtain ⟨-, -, -, -, -, busW⟩ := s.wake_blocks
  obtain ⟨secW, -, -⟩ := s.wake_section hm hl ho hh
  rw [secW] at motion timer pulse
  have now : v.now = s.now := now.trans (by simp)
  have mirror : v.mirror = false := (State.mirror_congr (cfg.trans (by simp))).trans hm
  obtain ⟨still, runs⟩ := v.handOn_sec_fresh h.running (by rw [timer, now])
  have marked : v.finish.bus.status.state ≠ .empty := by
    have before : v.bus.status.state ≠ .empty := by rw [status]; exact s.wake_status hm
    simp only [State.finish_blocks]
    rw [v.handOn_bus]
    dsimp only
    split
    · exact before
    · exact v.bus.status.mark_value.1
  have replyU : v.finish.bus.reply = s.bus.reply := by
    have kept : s.wake.bus.reply = s.bus.reply := by
      rw [busW, if_neg (by simp [hm])]
      rfl
    simp [v.handOn_bus, reply, kept]
  have pulseU : v.finish.sec.lastPulse = none := by
    rw [v.finish_blocks.1, v.handOn_sec]
    exact pulse
  have link : v.finish.disp.link.sending ≠ none ∧
      (v.finish.disp.link.sending = some v.finish.disp.picture ∨ v.finish.disp.link.again = true) := by
    obtain ⟨sending, shown⟩ := s.wake_link dark
    have follows := v.finish_linkFollows
    have picture : v.disp.picture = s.wake.disp.picture := by rw [h.disp]
    have linkV : v.disp.link = s.wake.disp.link := by rw [h.disp]
    have awake : v.finish.mode ≠ .loading := by
      intro m
      have m : v.mode = .loading := by simpa using m
      have := h.running
      simp [State.running, m, Mode.runs] at this
    by_cases same : v.finish.disp.picture = v.disp.picture
    · rw [follows.1 (.inl same), same, picture, linkV]
      exact ⟨sending, shown⟩
    · have sent := (follows.2 same awake).2 (by rw [linkV]; exact sending)
      rw [sent, linkV]
      exact ⟨sending, .inr rfl⟩
  exact ⟨marked, replyU, by rw [v.finish_blocks.1, still, motion], by rw [v.finish_blocks.1, runs, timer],
    pulseU, v.finish_holdFollows, v.finish_ownFollows h.running mirror, v.finish_shown, link⟩

end Sys2Proof.Machine
end

section
namespace Sys2Proof.Machine

variable {w v : State}

/-- A pull changes of the display the running item alone (R144). -/
theorem State.pull_disp (s : State) (cord : Cord) :
    (s.pull cord).disp = { s.disp with running := (s.pull cord).disp.running } := by
  have alert (u : State) (k : CallKind) (hu : u.disp = s.disp) :
      (u.startAlert k).disp = { s.disp with running := (u.startAlert k).disp.running } := by
    rw [u.startAlert_value]
    split <;> simp [hu]
  have new : (s.pullNew cord).disp = { s.disp with running := (s.pullNew cord).disp.running } := by
    unfold State.pullNew
    split
    · rfl
    · split
      · simp
      · split
        · exact alert _ _ (by simp)
        · simp
  unfold State.pull
  split
  · rfl
  · split
    · exact new
    · split
      · rfl
      · split <;> rfl

theorem State.AppliedTo.pull (hr : w.running = true) (cord : Cord) : w.AppliedTo (w.pull cord) where
  running := (State.running_congr (by simp)).trans hr
  kept := by simp
  disp := w.pull_disp cord
  bus := by simp
  sec := by simp

theorem State.AppliedTo.clearZone (hr : w.running = true) : w.AppliedTo w.clearZone :=
  ⟨hr, ⟨rfl, rfl, rfl, rfl, rfl⟩, rfl, ⟨rfl, rfl, rfl⟩, ⟨rfl, rfl, rfl⟩⟩

theorem State.AppliedTo.setClock (hr : w.running = true) (c : Clock) : w.AppliedTo (w.setClock c) :=
  ⟨hr, ⟨rfl, rfl, rfl, rfl, rfl⟩, rfl, ⟨rfl, rfl, rfl⟩, ⟨rfl, rfl, rfl⟩⟩

/-- A boundary of a board whose dormant count is 0 (R91, R195). -/
theorem State.AppliedTo.ownBoundary (hd : w.start.dormantCount = 0) (shift serial : Nat) :
    w.AppliedTo (w.ownBoundary shift serial) := by
  have steps : w.ownBoundary shift serial =
    ((w.setClock (w.clock.ownInput w.cfg.zone)).boundary shift serial).markTime := rfl
  obtain ⟨-, -, sec, -, -, start⟩ := (w.setClock (w.clock.ownInput w.cfg.zone)).boundary_blocks shift serial
  obtain ⟨bus, -⟩ := (w.setClock (w.clock.ownInput w.cfg.zone)).boundary_pace shift serial
  have run := (w.setClock (w.clock.ownInput w.cfg.zone)).boundary_runs shift serial
  have same : ({ w.start with dormantCount := 0 } : StartUp) = w.start := by rw [← hd]
  have marked := State.markTime_bus _ run
  rw [steps]
  refine ⟨(State.running_congr (by simp)).trans run, ?_, by simp, ?_, by simp [sec]⟩
  · have kept : (w.setClock (w.clock.ownInput w.cfg.zone)).start = w.start := rfl
    rw [kept] at start
    simp [start, hd, same]
  · rw [marked]
    split <;> simp only [bus] <;> split <;> simp

theorem State.AppliedTo.shiftStart (hd : w.start.dormantCount = 0) (code : Nat) :
    w.AppliedTo (w.shiftStart code) :=
  .ownBoundary hd _ _

theorem State.AppliedTo.shiftEnd (hr : w.running = true) (hd : w.start.dormantCount = 0) :
    w.AppliedTo w.shiftEnd := by
  cases hs : w.ret.serial with
  | none =>
    rw [w.shiftEnd_without_serial hs]
    exact ⟨hr, ⟨rfl, rfl, rfl, rfl, rfl⟩, rfl, ⟨rfl, rfl, rfl⟩, ⟨rfl, rfl, rfl⟩⟩
  | some x =>
    rw [w.shiftEnd_steps hs]
    split
    · exact .setClock hr _
    · exact .ownBoundary hd _ _

/-! ## The text line of a board that has just woken -/

/-- With no stop attributed and no break running the rotation holds messages alone (R140). -/
theorem State.rotation_of_messages {s : State} (hc : s.att.cause = none) (hb : s.breakRemaining = none) :
    s.rotation = (keysOf s.disp.store).map .message := by
  rw [State.rotation, hc, hb]
  rfl

/-- The items a line that is idle takes up outside SHIFT are messages, which run on at the end of a command
(R140, R143). -/
theorem State.runsNext_again (text : v.TextFollows v.finish) (hw : w.RunsNext none none)
    (hr : v.running = true) (hh : v.holdWanted = false) (mw : w.mode ≠ .shift) (mv : v.mode ≠ .shift)
    (cause : w.att.cause = none) (hd : v.disp = w.disp) (hn : v.now = w.now) :
    v.finish.RunsNext none none := by
  have shown := text.2.2 hr (by simp [hh])
  have pending : w.disp.pending = none := (hw.2 (by simp)).1
  have store : v.finish.disp.store = w.disp.store := by simp [hd]
  have now : v.finish.now = w.now := by simp [hn]
  have causeU : v.finish.att.cause = none := v.finish_cause.2 mv
  have breaks : v.finish.breakRemaining = none := State.breakRemaining_of_no_shift _ (by simpa using mv)
  have breaksW : w.breakRemaining = none := State.breakRemaining_of_no_shift _ mw
  rw [hd, pending] at shown
  cases running : w.disp.running with
  | none => exact shown.1 running
  | some r =>
    have item := (hw.2 (by simp)).2
    rw [running] at item
    have runs := shown.2 r running
    have rotation : v.finish.rotation = w.rotation := by
      rw [State.rotation_of_messages causeU breaks, State.rotation_of_messages cause breaksW, store]
    refine ⟨by simp, fun _ => ?_⟩
    rw [rotation]
    rw [State.rotation_of_messages cause breaksW] at item ⊢
    cases keys : keysOf w.disp.store with
    | nil => simp [keys] at item
    | cons k rest =>
      simp only [keys, List.map_cons, List.head?_cons, Option.none_or] at item ⊢
      obtain ⟨m, found, run⟩ := item
      have isMessage : r.item = .message k := congrArg Running.item (Option.some.inj run)
      rw [isMessage] at runs
      obtain ⟨runningU, pendingU⟩ := runs
      refine ⟨pendingU, m, by rw [store]; exact found, ?_⟩
      rw [runningU, running, now]
      exact run

end Sys2Proof.Machine
end

section
namespace Sys2Proof.Machine

variable {b v : State}

/-- An input of a sound board that is sampled is one of a board that is no mirror (R1, R189). -/
theorem State.Ok.mirror_of_sampled (h : b.Ok) {i : InputId} (hs : b.sampled i = true) : b.mirror = false := by
  have awake := State.awake_of_sampled hs
  simp only [State.sampled, Bool.and_eq_true] at hs
  cases i with
  | call n =>
    dsimp only at hs
    simp only [Bool.and_eq_true, Bool.not_eq_true'] at hs
    exact hs.2.1
  | clr => simpa using hs.2
  | shst => exact h.mirror_of_reference awake hs.2
  | shend => exact h.mirror_of_reference awake hs.2

/-- A sound board in DORMANT holds no call, releases its hold output and shows dark figures (R25, R128). -/
theorem State.Ok.dormant (h : b.Ok) (m : b.mode = .dormant) :
    b.calls.list = [] ∧ b.calls.overflow = none ∧ b.out.hold = false ∧ b.disp.picture.actual = .dark := by
  obtain ⟨list, overflow⟩ := h.dormantOk.1 m
  exact ⟨list, overflow, by rw [h.holdFollows, b.holdWanted_of_empty list overflow],
    (h.shownFollows.actual _).1 m⟩

/-- Outside SHIFT nothing is counted (R24). -/
theorem State.charge_outside {s : State} (m : s.mode ≠ .shift) (f : Record → Record) : s.charge f = s :=
  if_neg m

/-- Outside SHIFT a pull leaves the retained area alone (R24). -/
theorem State.pull_ret (s : State) (cord : Cord) (m : s.mode ≠ .shift) :
    (s.pull cord).ret = s.ret ∧ (s.pull cord).check = s.check := by
  have new : (s.pullNew cord).ret = s.ret ∧ (s.pullNew cord).check = s.check := by
    have hold (u : State) (k : CallKind) (hu : u.mode ≠ .shift) :
        (u.enterHold k).ret = u.ret ∧ (u.enterHold k).check = u.check := by
      rw [State.enterHold, State.charge_outside hu]
      exact ⟨rfl, rfl⟩
    have append (x : Call) : (s.appendCall x).ret = s.ret ∧ (s.appendCall x).check = s.check := by
      rw [State.appendCall, State.charge_outside (by exact m)]
      exact ⟨rfl, rfl⟩
    unfold State.pullNew
    split
    · exact ⟨rfl, rfl⟩
    · split
      · exact hold (s.setCalls _) cord.kind m
      · split
        · have held (x : Call) := hold (s.appendCall x) .safety (by simpa using m)
          simp [State.raiseSafety, held, append]
        · exact append _
  unfold State.pull
  split
  · exact ⟨rfl, rfl⟩
  · split
    · exact new
    · split
      · exact ⟨rfl, rfl⟩
      · split <;> exact ⟨rfl, rfl⟩

/-- A wake and an input behind it that crosses no boundary (R24, R96, R124). -/
theorem State.wake_finish_quiet {s : State} (hm : s.mirror = false) (mode : v.mode = .standby)
    (ret : v.ret = s.wake.ret ∧ v.check = s.wake.check) (bus : v.bus = s.wake.bus)
    (pace : v.pace = s.wake.pace) (sec : v.sec.lastCar = s.wake.sec.lastCar) :
    v.finish.ret = s.ret ∧ v.finish.check = s.check ∧
    v.finish.bus.time = (if s.clock.authority then s.bus.time.mark else s.bus.time) ∧
    v.finish.bus.count = (if s.marksCount then s.bus.count.mark else s.bus.count) ∧
    v.finish.pace.period = (if s.marksCount then 0 else s.pace.period) ∧
    v.finish.sec.lastCar = s.sec.lastCar := by
  obtain ⟨-, -, -, lastCar, period, busW⟩ := s.wake_blocks
  rw [if_neg (by simp [hm])] at busW
  obtain ⟨-, retW, checkW⟩ := s.wake_value
  obtain ⟨retU, checkU⟩ := v.finish_ret_of_no_shift (by simp [mode])
  refine ⟨by rw [retU, ret.1, retW], by rw [checkU, ret.2, checkW], ?_, ?_, ?_, ?_⟩
  · simp only [State.finish_blocks]
    rw [v.handOn_bus, bus, busW]
    rfl
  · simp only [State.finish_blocks]
    rw [v.handOn_bus, bus, busW]
    rfl
  · simp [v.handOn_pace, pace, period]
  · rw [v.finish_blocks.1, v.handOn_sec]
    exact sec.trans lastCar

end Sys2Proof.Machine
end

section
namespace Sys2Proof.Machine

variable {b v : State}

/-- A counted input in DORMANT finds the board woken (R3, R4, R92). -/
theorem exec_counted {t : Time} {i : InputId} {c0 c1 : Bool} {s : State} (hc : Counted (s.begin_ t) i) :
    exec (.qualifyTimeExpiry t i c0 c1) s =
      .next (((s.begin_ t).setTracker i ⟨.taken, some (s.begin_ t).now⟩).counted i (shiftCode c0 c1)) :=
  congrArg Host.Outcome.next ((s.begin_ t).qualify_counted (shiftCode c0 c1) hc)

theorem State.wakeIfDormant_of_dormant {s : State} (m : s.mode = .dormant) : s.wakeIfDormant = s.wake :=
  if_pos m

/-- The board that a counted input wakes, its tracker TAKEN. -/
def State.wokenBy (b : State) (i : InputId) : State := (b.setTracker i ⟨.taken, some b.now⟩).wake

theorem State.wokenBy_value (b : State) (i : InputId) :
    (b.wokenBy i).running = true ∧ (b.wokenBy i).mode = .standby ∧
    (b.wokenBy i).start.dormantCount = 0 ∧
    (b.wokenBy i).calls = (b.setTracker i ⟨.taken, some b.now⟩).calls ∧
    (b.wokenBy i).clock = (b.setTracker i ⟨.taken, some b.now⟩).clock.woken ∧
    (b.wokenBy i).ret = b.ret ∧ (b.wokenBy i).cfg = b.cfg ∧ (b.wokenBy i).now = b.now := by
  unfold State.wokenBy
  generalize hw : b.setTracker i ⟨.taken, some b.now⟩ = w
  have kept : w.ret = b.ret ∧ w.cfg = b.cfg ∧ w.now = b.now := by simp [← hw]
  obtain ⟨mode, ret, -⟩ := w.wake_value
  obtain ⟨clock, start, -⟩ := w.wake_blocks
  exact ⟨by rw [State.running, mode]; rfl, mode, by rw [start], by simp, clock, ret.trans kept.1,
    by simp [kept], by simp [kept]⟩

/-- What a wake leaves whatever input brought it (R40, R59, R129, R196). -/
def State.WokenAs (b u : State) : Prop :=
  u.bus.wake = .off ∧ u.start = { b.start with dormantCount := 0 } ∧ u.pins = b.pins ∧ u.cfg = b.cfg ∧
  u.req = b.req ∧ u.disp.store = b.disp.store ∧
  (b.Ok → u.bus.status.state ≠ .empty ∧ u.bus.reply = b.bus.reply ∧
    u.sec.motion = .unknown ∧ u.sec.stopTimer = some b.now ∧ u.sec.lastPulse = none ∧
    u.HoldFollows ∧ u.OwnFollows ∧ u.ShownFollows ∧ u.disp.link.sending ≠ none ∧
    (u.disp.link.sending = some u.disp.picture ∨ u.disp.link.again = true))

/-- What a wake leaves of retained area and marks where its input crosses no boundary (R96, R124). -/
def State.SameShiftAs (b u : State) : Prop :=
  u.mode = .standby ∧ (b.Ok → u.ret = b.ret ∧ u.check = b.check ∧
    u.bus.time = (if b.clock.authority then b.bus.time.mark else b.bus.time) ∧
    u.bus.count = (if b.marksCount then b.bus.count.mark else b.bus.count) ∧
    u.pace.period = (if b.marksCount then 0 else b.pace.period) ∧ u.sec.lastCar = b.sec.lastCar)

/-- A sound board whose input wakes it, its tracker TAKEN. -/
theorem State.Ok.roused (h : b.Ok) (m : b.mode = .dormant) {i : InputId} (hs : b.sampled i = true)
    (x : Tracker) :
    (b.setTracker i x).mirror = false ∧ (b.setTracker i x).calls.list = [] ∧
    (b.setTracker i x).calls.overflow = none ∧ (b.setTracker i x).out.hold = false ∧
    (b.setTracker i x).disp.picture.actual = .dark := by
  obtain ⟨list, overflow, hold, dark⟩ := h.dormant m
  obtain ⟨list', overflow', -⟩ := b.setTracker_calls i x
  exact ⟨(State.mirror_congr (by simp)).trans (h.mirror_of_sampled hs), list'.trans list,
    overflow'.trans overflow, by simpa using hold, by simpa using dark⟩

theorem State.AppliedTo.woken {i : InputId} (h : (b.wokenBy i).AppliedTo v)
    (m : b.mode = .dormant) (hs : b.sampled i = true) : b.WokenAs v.finish := by
  unfold State.wokenBy at h
  obtain ⟨wake, start, pins, cfg, req, store⟩ := h.finish_frame
  refine ⟨wake, by simpa using start, by simpa using pins, by simpa using cfg, by simpa using req,
    by simpa using store, fun ok => ?_⟩
  obtain ⟨mirror, list, overflow, hold, dark⟩ := ok.roused m hs ⟨.taken, some b.now⟩
  have fresh := h.finish_fresh mirror list overflow hold dark
  have kept : (b.setTracker i ⟨.taken, some b.now⟩).bus = b.bus ∧
      (b.setTracker i ⟨.taken, some b.now⟩).now = b.now := by simp
  rwa [kept.1, kept.2] at fresh

/-- An input that keeps records, slots and the time of the last car-out edge of a board it wakes. -/
theorem State.sameShift_finish {i : InputId} (hs : b.sampled i = true) (mode : v.mode = .standby)
    (kept : b.Ok → v.ret = (b.wokenBy i).ret ∧ v.check = (b.wokenBy i).check ∧ v.bus = (b.wokenBy i).bus ∧
      v.pace = (b.wokenBy i).pace ∧ v.sec.lastCar = (b.wokenBy i).sec.lastCar) : b.SameShiftAs v.finish := by
  refine ⟨by simpa using mode, fun ok => ?_⟩
  have kept := kept ok
  unfold State.wokenBy at kept
  have frame : (b.setTracker i ⟨.taken, some b.now⟩).ret = b.ret ∧
      (b.setTracker i ⟨.taken, some b.now⟩).check = b.check ∧
      (b.setTracker i ⟨.taken, some b.now⟩).bus = b.bus ∧
      (b.setTracker i ⟨.taken, some b.now⟩).pace = b.pace ∧
      (b.setTracker i ⟨.taken, some b.now⟩).sec = b.sec ∧
      (b.setTracker i ⟨.taken, some b.now⟩).cfg = b.cfg := by simp
  have authority : (b.setTracker i ⟨.taken, some b.now⟩).clock.authority = b.clock.authority := by
    cases i <;> rfl
  obtain ⟨hret, hcheck, hbus, hpace, hsec, hcfg⟩ := frame
  generalize b.setTracker i ⟨.taken, some b.now⟩ = w at *
  obtain ⟨ret, check, bus, pace, sec⟩ := kept
  have mirror : w.mirror = false := (State.mirror_congr hcfg).trans (ok.mirror_of_sampled hs)
  have counts : w.marksCount = b.marksCount := by simp [State.marksCount, hcfg, hret]
  have quiet := State.wake_finish_quiet mirror mode ⟨ret, check⟩ bus pace sec
  rwa [authority, counts, hret, hcheck, hbus, hpace, hsec] at quiet

/-- The text line of a board that has just woken takes up what the store holds (R140, R152). -/
theorem State.Ok.woken_text (h : b.Ok) (m : b.mode = .dormant) {i : InputId} (hs : b.sampled i = true)
    (hr : v.running = true) (mv : v.mode = .standby) (hh : v.holdWanted = false)
    (hd : v.disp = (b.wokenBy i).disp) (hn : v.now = (b.wokenBy i).now) :
    v.finish.RunsNext none none := by
  obtain ⟨-, list, overflow, -⟩ := h.roused m hs ⟨.taken, some b.now⟩
  unfold State.wokenBy at hd hn
  generalize b.setTracker i ⟨.taken, some b.now⟩ = w at *
  have mode := w.wake_value.1
  have cause : w.wake.att.cause = none := by
    rw [State.wake_steps]
    exact (State.finish_cause _).2 (by simp [State.waking_value])
  exact State.runsNext_again v.finish_textFollows (State.wake_text _ list overflow) hr hh (by simp [mode])
    (by simp [mv]) cause hd hn

/-- A counted input on a board in DORMANT, woken first (R3, R4, R92). -/
theorem State.wakeIfDormant_wokenBy (m : b.mode = .dormant) (i : InputId) :
    (b.setTracker i ⟨.taken, some b.now⟩).wakeIfDormant = b.wokenBy i :=
  State.wakeIfDormant_of_dormant (by simpa using m)

/-- The clear key on a board it wakes (R4, R19). -/
theorem State.wokenBy_clear (m : b.mode = .dormant) (hs : b.sampled .clr = true) :
    let u := (b.wokenBy .clr).clearZone.finish
    b.WokenAs u ∧ b.SameShiftAs u ∧ u.clock = b.clock.woken ∧ (b.Ok → u.RunsNext none none) ∧
    u.calls = { b.calls with
      list := [], overflow := none, holdSound := none, chirp := none, clr := ⟨.taken, some b.now⟩ } := by
  obtain ⟨runs, mode, -, calls, clock, -⟩ := b.wokenBy_value .clr
  refine ⟨(State.AppliedTo.clearZone runs).woken m hs, ?_, ?_, fun ok => ?_, ?_⟩
  · exact State.sameShift_finish (i := .clr) hs (by simpa using mode) (by simp)
  · simp only [State.finish_frame, State.clearZone_frame, clock]
    rfl
  · exact ok.woken_text (i := .clr) m hs ((State.running_congr (by simp)).trans runs) (by simpa using mode)
      (State.holdWanted_of_empty _ (by simp [State.clearZone]) (by simp [State.clearZone])) (by simp) (by simp)
  · simp only [State.finish_frame, State.clearZone, State.setCalls_calls, calls]
    rfl

/-- A shift end pulse in STANDBY leaves STANDBY (R94). -/
theorem State.shiftEnd_standby (s : State) (m : s.mode = .standby) : s.shiftEnd.mode = .standby := by
  cases hx : s.ret.serial with
  | none => rw [s.shiftEnd_without_serial hx, m]
  | some x =>
    rw [s.shiftEnd_steps hx]
    split
    · exact m
    · exact (s.ownBoundary_value 0 ((x + 1) % 256)).1

/-- A shift end pulse on a board it wakes: in shift 0, as every sound board in DORMANT is, it changes the
clock alone (R94). -/
theorem State.wokenBy_end (m : b.mode = .dormant) (hs : b.sampled .shend = true) :
    let u := (b.wokenBy .shend).shiftEnd.finish
    b.WokenAs u ∧ b.SameShiftAs u ∧ (b.Ok → u.calls = b.calls ∧
      (b.ret.serial = none → u.clock = { b.clock.woken with shend := ⟨.taken, some b.now⟩ }) ∧
      (b.ret.serial ≠ none → u.clock = { b.clock.woken with
        shend := ⟨.taken, some b.now⟩, timeValid := true, s := 0, authority := true })) := by
  obtain ⟨runs, mode, start, calls, clock, ret, -⟩ := b.wokenBy_value .shend
  have standby := State.shiftEnd_standby _ mode
  have outside (ok : b.Ok) := (b.wokenBy .shend).shiftEnd_outside (by
    rw [ret]
    by_contra k
    have shift := (ok.shiftOk.2.2.2.2.1 (by rw [m]; rfl)).mpr k
    simp [m] at shift)
  refine ⟨(State.AppliedTo.shiftEnd runs start).woken m hs, ?_, fun ok => ?_⟩
  · refine State.sameShift_finish (i := .shend) hs standby (fun ok => ?_)
    obtain ⟨c, same, -⟩ := outside ok
    rw [same]
    simp
  · obtain ⟨c, same, without, under⟩ := outside ok
    rw [same]
    clear outside standby same
    generalize b.wokenBy .shend = w at *
    simp only [State.finish_frame, State.setClock_calls, State.setClock_clock]
    rw [calls]
    rw [clock, ret] at without under
    exact ⟨rfl, without, under⟩

theorem Slot.mark_mark (x : Slot) : x.mark.mark = x.mark := by
  obtain ⟨-, empty, pending, sending⟩ := x.mark_value
  cases h : x.state with
  | empty => rw [empty h]; rfl
  | pending => rw [pending h, pending h]
  | sending =>
    rw [sending h]
    exact ({ x with remark := true } : Slot).mark_value.2.2.2 h

/-- The slots of a sound board that an input wakes (R96, R124). -/
theorem State.Ok.wokenBy_bus (h : b.Ok) {i : InputId} (hs : b.sampled i = true) :
    (b.wokenBy i).mirror = false ∧
    (b.wokenBy i).bus.time = (if b.clock.authority then b.bus.time.mark else b.bus.time) ∧
    (b.wokenBy i).bus.count = (if b.marksCount then b.bus.count.mark else b.bus.count) ∧
    (b.wokenBy i).pace.period = (if b.marksCount then 0 else b.pace.period) := by
  unfold State.wokenBy
  have authority : (b.setTracker i ⟨.taken, some b.now⟩).clock.authority = b.clock.authority := by
    cases i <;> rfl
  have frame : (b.setTracker i ⟨.taken, some b.now⟩).bus = b.bus ∧
      (b.setTracker i ⟨.taken, some b.now⟩).pace = b.pace ∧
      (b.setTracker i ⟨.taken, some b.now⟩).ret = b.ret ∧
      (b.setTracker i ⟨.taken, some b.now⟩).cfg = b.cfg := by simp
  generalize b.setTracker i ⟨.taken, some b.now⟩ = w at *
  obtain ⟨hbus, hpace, hret, hcfg⟩ := frame
  have mirror : w.mirror = false := (State.mirror_congr hcfg).trans (h.mirror_of_sampled hs)
  have counts : w.marksCount = b.marksCount := by simp [State.marksCount, hcfg, hret]
  obtain ⟨-, -, -, -, period, bus⟩ := w.wake_blocks
  rw [if_neg (by simp [mirror])] at bus
  refine ⟨(State.mirror_congr (by simp)).trans mirror, ?_, ?_, by rw [period, counts, hpace]⟩
  · rw [bus, ← authority, ← hbus]
    rfl
  · rw [bus, ← counts, ← hbus]
    rfl

/-- A call unit without calls has no times to forget (R25). -/
theorem CallUnit.forgetTimes_of_empty {c : CallUnit} (hl : c.list = []) (ho : c.overflow = none) :
    c.forgetTimes = c := by
  unfold CallUnit.forgetTimes
  rw [hl, ho]
  cases c
  simp_all

/-- A shift start pulse on a board it wakes begins a shift (R37, R92, R93, R124). -/
theorem State.wokenBy_start (m : b.mode = .dormant) (hs : b.sampled .shst = true) (code : Nat) :
    let u := ((b.wokenBy .shst).shiftStart code).finish
    u.mode = .shift ∧ b.WokenAs u ∧ u.ret.shift = (if code = 0 then 1 else code) ∧
    u.ret.serial = some (nextSerial b.ret.serial) ∧
    u.clock = { b.clock.ownInput b.cfg.zone with markCount := 0, shst := ⟨.taken, some b.now⟩ } ∧
    u.sec.lastCar = none ∧ u.pace.source = none ∧
    (b.Ok → u.bus.time = b.bus.time.mark ∧
      u.bus.count = (if b.marksCount = true ∨ b.ret.car ≠ 0 then b.bus.count.mark else b.bus.count) ∧
      u.pace.period = (if b.marksCount = true ∨ b.ret.car ≠ 0 then 0 else b.pace.period) ∧
      u.calls = b.calls ∧
      u.ret.current.map (fun r => (r.shift, r.tally, r.total, r.version, r.changed))
        = some (u.ret.shift, [], 0, 0, false) ∧
      u.ret.last = b.ret.last ∧ u.ret.actual = 0 ∧ u.ret.car = 0 ∧
      u.ret.peak = b.clock.plans.freshPeak u.ret.shift 0) := by
  intro u
  obtain ⟨runs, mode, start, calls, clock, ret, cfg, -⟩ := b.wokenBy_value .shst
  have woken : b.WokenAs u := (State.AppliedTo.shiftStart start code).woken m hs
  have started : (if code = 0 then 1 else code) ≠ 0 := by split <;> simp_all
  have marks (ok : b.Ok) := ok.wokenBy_bus hs
  have facts := (b.wokenBy .shst).ownBoundary_finish (if code = 0 then 1 else code)
    (nextSerial (b.wokenBy .shst).ret.serial)
  have steps : u = ((b.wokenBy .shst).ownBoundary (if code = 0 then 1 else code)
    (nextSerial (b.wokenBy .shst).ret.serial)).finish := rfl
  rw [← steps] at facts
  clear_value u
  generalize b.wokenBy .shst = w at *
  obtain ⟨modeU, callsU, clockU, -, bus, lastCar, source, retU, -⟩ := facts
  rw [ret] at retU
  obtain ⟨num, ser, -⟩ := b.ret.cross_value (if code = 0 then 1 else code) (nextSerial b.ret.serial)
  have shift : u.ret.shift = if code = 0 then 1 else code := by rw [retU]; exact num
  refine ⟨modeU.trans (if_neg started), woken, shift, by rw [retU]; exact ser, ?_, lastCar, source,
    fun ok => ?_⟩
  · rw [clockU, clock, cfg]
    rfl
  · obtain ⟨mirror, time, count, period⟩ := marks ok
    obtain ⟨timeU, -, -, countU, periodU⟩ := bus mirror
    obtain ⟨current, -, -, last⟩ :=
      ok.cross_records (if code = 0 then 1 else code) (nextSerial b.ret.serial)
    obtain ⟨list, overflow, -⟩ := ok.dormant m
    refine ⟨?_, ?_, ?_, ?_, ?_, ?_, by rw [retU], by rw [retU], ?_⟩
    · rw [timeU, time]
      split
      · rw [Slot.mark_mark]
      · rfl
    · rw [countU, count, ret]
      by_cases car : b.ret.car = 0
      · simp [car]
      · by_cases c : b.marksCount = true <;> simp [car, c, Slot.mark_mark]
    · rw [periodU, period, ret]
      by_cases car : b.ret.car = 0 <;> simp [car]
    · rw [callsU, calls]
      exact CallUnit.forgetTimes_of_empty list overflow
    · rw [shift, retU]
      exact current started
    · rw [retU]
      exact last (by rw [m]; rfl) (by simp [m])
    · rw [shift, retU, clock]
      rfl

end Sys2Proof.Machine
end

section
namespace Sys2Proof.Machine

variable {b : State}

/-- A pull of a cord without a call, on a running board outside SHIFT with an empty list (R9, R10). -/
theorem State.pull_of_empty {s : State} {c : Cord} (hp : (s.cfg.policy c.kind).policy ≠ .off)
    (hr : s.running = true) (hm : s.mirror = false) (hs : s.mode ≠ .shift) (hl : s.calls.list = [])
    (ho : s.calls.overflow = none) :
    s.pull c = (s.setCalls (s.raisedCalls c)).setDisp { s.disp with
      running := if c.kind = .safety then some (alertRun s.cfg.zone .safety s.now) else s.disp.running } := by
  have none' : s.calls.find c = none := by simp [CallUnit.find, hl]
  rw [s.pull_new hp none', s.pullNew_raises hr hm ho (by simp [hl]),
    State.charge_outside (s := s.setCalls (s.raisedCalls c)) hs]

/-- The one call of a board whose list was empty, as a holder (R21). -/
theorem earliestHolder_single (x : Candidate) : earliestHolder [x] = some x := rfl

/-- What a pull that raises a call on an empty list makes of the hold output (R10, R20). -/
theorem State.raised_holds {s : State} {c : Cord} (hr : s.running = true) (hm : s.mirror = false)
    (hl : s.calls.list = []) (ho : s.calls.overflow = none) :
    (c.kind = .safety → (s.setCalls (s.raisedCalls c)).holdWanted = true ∧
      ∃ x, (s.setCalls (s.raisedCalls c)).ownHolder = some x ∧ x.kind = .safety) ∧
    (c.kind ≠ .safety → (s.setCalls (s.raisedCalls c)).holdWanted = false) := by
  have run : (s.setCalls (s.raisedCalls c)).running = true := hr
  have mirror : (s.setCalls (s.raisedCalls c)).mirror = false := hm
  refine ⟨fun k => ?_, fun k => ?_⟩
  · have wanted : (s.setCalls (s.raisedCalls c)).holdWanted = true := by
      refine (State.holdWanted_iff _).mpr ⟨run, mirror, .inl ⟨⟨c.station, .safety, .holding, s.knownSecond, 0, 0⟩,
        ?_, rfl⟩⟩
      simp [State.raisedCalls, k]
    refine ⟨wanted, ?_⟩
    rw [State.ownHolder, if_pos wanted]
    simp [CallUnit.holders, State.raisedCalls, k, hl, ho, earliestHolder_single]
  · simp [State.holdWanted, State.raisedCalls, k, hl, ho]

/-- A sound board that an input wakes stands idle: no call, no hold, no message pending, its motion not yet
known (R40, R196). -/
theorem State.Ok.wokenBy_idle (ok : b.Ok) (m : b.mode = .dormant) {i : InputId} (hs : b.sampled i = true) :
    (b.wokenBy i).calls.list = [] ∧ (b.wokenBy i).calls.overflow = none ∧ (b.wokenBy i).out.hold = false ∧
    (b.wokenBy i).disp.pending = none ∧ (b.wokenBy i).sec.times = (b.wokenBy i).currentTimes ∧
    (b.wokenBy i).sec.motion = .unknown ∧ (b.wokenBy i).sec.holdTimer = none := by
  obtain ⟨mirror, list, overflow, hold, -⟩ := ok.roused m hs ⟨.taken, some b.now⟩
  have timer : b.sec.holdTimer = none := (ok.sectionOk.2.2.2.2.2.2 (ok.dormant m).2.2.1).1
  have sec : (b.setTracker i ⟨.taken, some b.now⟩).sec = b.sec := by simp
  unfold State.wokenBy
  generalize b.setTracker i ⟨.taken, some b.now⟩ = w at *
  obtain ⟨secW, holdW, -⟩ := w.wake_section mirror list overflow hold
  have text := w.wake_text list overflow
  refine ⟨by simpa using list, by simpa using overflow, holdW, (text.2 (by simp)).1, ?_, ?_, ?_⟩
  · exact (congrArg SectionMonitor.times secW)
  · exact (congrArg SectionMonitor.motion secW)
  · rw [secW]
    simpa [sec] using timer

/-- The hold output, the alert and the hold check of a hold that begins on a section that does not stand
(R20, R34, R144). -/
theorem State.finish_hold_begins {v : State} (ht : v.sec.times = v.currentTimes)
    (hm : v.sec.motion ≠ .stopped) (ho : v.out.hold = false) (hw : v.holdWanted = true) {x : Candidate}
    (hx : v.ownHolder = some x) :
    v.finish.out.hold = true ∧ v.finish.disp.running = some (alertRun v.cfg.zone x.kind v.now) ∧
    v.finish.disp.pending = v.disp.pending ∧
    v.finish.sec.holdTimer = some (v.now + v.cfg.holdResponse * 1000000) := by
  obtain ⟨y, hy, running, pending⟩ := v.finish_textFollows.2.1 ⟨ho, hw⟩
  rw [hx, Option.mem_some_iff] at hy
  refine ⟨by simp [hw], by rw [running, hy], pending, ?_⟩
  rw [v.finish_blocks.1, v.handOn_sec_of_times (.inl ht), v.followHold_sec, hw, ho]
  simp [hm, seconds]

/-- A pull that raises a call on a board that stands idle (R10, R20, R34, R144). -/
theorem State.pull_of_idle {w : State} {c : Cord} (hp : (w.cfg.policy c.kind).policy ≠ .off)
    (hr : w.running = true) (hm : w.mirror = false) (hs : w.mode ≠ .shift) (hl : w.calls.list = [])
    (hf : w.calls.overflow = none) (ho : w.out.hold = false) (ht : w.sec.times = w.currentTimes)
    (hu : w.sec.motion = .unknown) :
    (c.kind = .safety → (w.pull c).finish.out.hold = true ∧
      (w.pull c).finish.disp.running = some (alertRun w.cfg.zone .safety w.now) ∧
      (w.pull c).finish.disp.pending = w.disp.pending ∧
      (w.pull c).finish.sec.holdTimer = some (w.now + w.cfg.holdResponse * 1000000)) ∧
    (c.kind ≠ .safety → (w.pull c).holdWanted = false ∧ (w.pull c).disp = w.disp ∧
      (w.pull c).finish.sec.holdTimer = w.sec.holdTimer) := by
  have raised := State.pull_of_empty hp hr hm hs hl hf
  obtain ⟨holds, free⟩ := State.raised_holds (c := c) hr hm hl hf
  generalize hv : w.pull c = v at *
  have cfg : v.cfg = w.cfg := by simp [← hv]
  have now : v.now = w.now := by simp [← hv]
  have times : v.sec.times = v.currentTimes := by rw [raised]; exact ht
  have out : v.out.hold = false := by rw [raised]; exact ho
  refine ⟨fun k => ?_, fun k => ?_⟩
  · obtain ⟨wanted, x, holder, kind⟩ := holds k
    have motion : v.sec.motion ≠ .stopped := by
      rw [raised, State.setDisp_sec, State.setCalls_sec, hu]
      simp
    have begins := State.finish_hold_begins times motion out (by rw [raised]; exact wanted)
      (by rw [raised]; exact holder)
    have pending : v.disp.pending = w.disp.pending := by rw [raised]; rfl
    rwa [cfg, now, pending, kind] at begins
  · have wanted : v.holdWanted = false := by rw [raised]; exact free k
    have still := v.handOn_sec_still times (by rw [wanted, out])
    refine ⟨wanted, ?_, ?_⟩
    · rw [raised, if_neg k]
      rfl
    · rw [v.finish_blocks.1, still, raised]
      rfl

/-- A pull on a board it wakes (R3, R9, R10, R22, R23, R34, R144). -/
theorem State.wokenBy_pull (m : b.mode = .dormant) {n : Fin 20} (hs : b.sampled (.call n) = true) {c : Cord}
    (hp : (b.cfg.policy c.kind).policy ≠ .off) :
    let u := ((b.wokenBy (.call n)).pull c).finish
    b.WokenAs u ∧ b.SameShiftAs u ∧ u.clock = b.clock.woken ∧
    (b.calls.list = [] → b.calls.overflow = none → u.calls = { b.calls with
      list := [if c.kind = .safety then ⟨c.station, .safety, .holding, none, 0, 0⟩
        else ⟨c.station, c.kind, .opened, none, b.cfg.holdPoint c.station, 0⟩]
      trackers := b.calls.trackers.set n ⟨.taken, some b.now⟩
      holdSound := if c.kind = .safety then some (b.now + 2000000) else b.calls.holdSound
      chirp := if b.cfg.chirpOn then some (b.now + 500000) else b.calls.chirp }) ∧
    (b.Ok → c.kind = .safety → u.out.hold = true ∧
      u.disp.running = some (alertRun b.cfg.zone .safety b.now) ∧ u.disp.pending = none ∧
      u.sec.holdTimer = some (b.now + b.cfg.holdResponse * 1000000)) ∧
    (b.Ok → c.kind ≠ .safety →
      u.out.hold = false ∧ u.RunsNext none none ∧ u.sec.holdTimer = none) := by
  intro u
  obtain ⟨runs, mode, start, calls, clock, ret, cfg, now⟩ := b.wokenBy_value (.call n)
  have mirror : (b.wokenBy (.call n)).mirror = false := (State.mirror_congr cfg).trans (b.mirror_of_sampled hs)
  have woken : b.WokenAs u := (State.AppliedTo.pull runs c).woken m hs
  have same : b.SameShiftAs u := by
    obtain ⟨retV, checkV⟩ := State.pull_ret (b.wokenBy (.call n)) c (by simp [mode])
    exact State.sameShift_finish (i := .call n) hs (by simpa using mode)
      (fun _ => ⟨retV, checkV, by simp, by simp, by simp⟩)
  refine ⟨woken, same, ?_, fun hl ho => ?_, fun ok k => ?_, fun ok k => ?_⟩
  · simp only [u, State.finish_frame, State.pull_frame, clock]
    rfl
  · have raised := State.pull_of_empty (s := b.wokenBy (.call n)) (c := c) (by rw [cfg]; exact hp) runs mirror
      (by simp [mode]) (by rw [calls]; exact hl) (by rw [calls]; exact ho)
    have second : (b.wokenBy (.call n)).knownSecond = none := by simp [State.knownSecond, mode]
    have took : (b.setTracker (.call n) ⟨.taken, some b.now⟩).calls =
      { b.calls with trackers := b.calls.trackers.set n ⟨.taken, some b.now⟩ } := rfl
    simp only [u, State.finish_frame, raised, State.setDisp_calls, State.setCalls_calls, State.raisedCalls,
      second, cfg, now, calls, took, hl, List.nil_append]
    rfl
  · obtain ⟨list, overflow, hold, pending, times, motion, -⟩ := ok.wokenBy_idle m hs
    have holds := (State.pull_of_idle (c := c) (by rw [cfg]; exact hp) runs mirror (by simp [mode]) list overflow
      hold times motion).1 k
    rwa [cfg, now, pending] at holds
  · obtain ⟨list, overflow, hold, -, times, motion, timer⟩ := ok.wokenBy_idle m hs
    obtain ⟨wanted, disp, timerU⟩ := (State.pull_of_idle (c := c) (by rw [cfg]; exact hp) runs mirror
      (by simp [mode]) list overflow hold times motion).2 k
    refine ⟨?_, ?_, timerU.trans timer⟩
    · simp [u, wanted]
    · exact ok.woken_text (i := .call n) m hs ((State.running_congr (by simp)).trans runs)
        (by simpa using mode) wanted disp (by simp)

end Sys2Proof.Machine
end

section
open Sys2Proof Sys2Proof.Machine

/-- Settles O35: the wake, then the input on the board it leaves, then `finish`. -/
theorem localInputWakesBoard : Obligations.LocalInputWakesBoard := by
  intro t i c0 c1 s b authority counts woken sameShift taken m hc
  have ran : exec (.qualifyTimeExpiry t i c0 c1) s =
    .next ((b.setTracker i ⟨.taken, some b.now⟩).counted i (shiftCode c0 c1)) := exec_counted hc
  clear_value b
  have hs := hc.2.1
  have awake := State.wakeIfDormant_wokenBy m i
  cases i with
  | call n =>
    obtain ⟨c, cord⟩ : ∃ c, b.cfg.cord n = some c := by
      have known : (b.cfg.cord n).isSome = true := by
        simp only [State.sampled, Bool.and_eq_true] at hs
        exact hs.2.2
      exact Option.isSome_iff_exists.mp known
    have same : (b.setTracker (.call n) ⟨.taken, some b.now⟩).cfg = b.cfg := by simp
    simp only [State.counted, same, cord, awake] at ran
    by_cases off : (b.cfg.policy c.kind).policy = .off
    · rw [if_pos off] at ran
      refine ⟨_, ran, fun x hx => ?_⟩
      obtain rfl : c = x := Option.some.inj (cord.symm.trans hx)
      exact ⟨fun _ => rfl, fun on => absurd off on⟩
    · rw [if_neg off] at ran
      refine ⟨_, ran, fun x hx => ?_⟩
      obtain rfl : c = x := Option.some.inj (cord.symm.trans hx)
      exact ⟨fun k => absurd k off, fun on => State.wokenBy_pull m hs on⟩
  | clr =>
    rw [State.counted, awake] at ran
    obtain ⟨wokenU, same, clock, text, calls⟩ := State.wokenBy_clear m hs
    exact ⟨_, ran, wokenU, same, clock, text, calls⟩
  | shst =>
    rw [State.counted, awake] at ran
    obtain ⟨mode, wokenU, shift, serial, clock, lastCar, source, sound⟩ :=
      State.wokenBy_start m hs (shiftCode c0 c1)
    refine ⟨_, ran, mode, wokenU, shift, ?_, ?_, ?_, lastCar, source, sound⟩
    · exact serial.trans (congrArg some (nextSerial_value _))
    · rw [clock]
      rfl
    · rw [clock]
      rfl
  | shend =>
    rw [State.counted, awake] at ran
    obtain ⟨wokenU, same, sound⟩ := State.wokenBy_end m hs
    exact ⟨_, ran, wokenU, same, sound⟩
end

section
namespace Sys2Proof.Machine

/-! ## The counts of a seconds expiry, one by one (R88) -/

variable (s : State)

theorem State.running_of_awake (h : s.mode.awake = true) : s.running = true ↔ s.mode ≠ .dormant := by
  unfold State.running
  cases m : s.mode <;> simp_all [Mode.awake, Mode.runs]

/-- The clock's own counts (R87, R88, R89). -/
theorem State.tickClock_clock :
    s.tickClock.clock = { s.clock with
      s := if s.mode = .shift ∧ s.clock.timeValid = true ∧ s.clock.pause = 0 then min 57599 (s.clock.s + 1)
        else s.clock.s
      pause := if s.mode = .shift ∧ s.clock.timeValid = true then s.clock.pause - 1 else s.clock.pause
      silence := if s.clock.source ≠ none ∧ s.clock.sourceOwn = false then min 30 (s.clock.silence + 1)
        else s.clock.silence } := by
  have other : s.sourceIsOther = true ↔ s.clock.source ≠ none ∧ s.clock.sourceOwn = false := by
    simp [State.sourceIsOther, Option.isSome_iff_ne_none]
  unfold State.tickClock
  simp only [other, State.setClock_clock]
  by_cases runs : s.mode = .shift ∧ s.clock.timeValid = true
  · obtain ⟨shift, valid⟩ := runs
    by_cases pause : s.clock.pause = 0
    · simp [shift, valid, pause, maxSecond]
    · simp [shift, valid, pause, Nat.pos_of_ne_zero pause]
  · have off : ¬ (s.mode = .shift ∧ s.clock.timeValid = true ∧ s.clock.pause = 0) :=
      fun h => runs ⟨h.1, h.2.1⟩
    rw [if_neg runs, if_neg off, if_neg runs]

/-- One second in the open interval (R72). -/
theorem State.countStopSecond_ret :
    s.countStopSecond.ret = { s.ret with
      interval := if s.mode = .shift then
        s.ret.interval.map (fun i => { i with seconds := addSeconds i.seconds 1 }) else s.ret.interval } := by
  unfold State.countStopSecond
  split <;> simp

/-- held-for (R14). -/
theorem State.tickCalls_calls :
    s.tickCalls.calls = { s.calls with list := s.calls.list.map (fun x =>
      if x.state = .holding ∧ s.running = true then { x with heldFor := min 65535 (x.heldFor + 1) } else x) } := by
  unfold State.tickCalls
  by_cases r : s.running = true <;> simp [r]

/-- Ages, clash count and refresh count (R47, R51, R53, R57). -/
theorem State.tickTable_table :
    s.tickTable.table = { s.table with
      entries := s.table.entries.map (fun e => { e with age := min 255 (e.age + 1) })
      mirrored := s.table.mirrored.map (fun e => { e with age := min 255 (e.age + 1) })
      clashCount := if s.table.clash = false then s.table.clashCount
        else if s.table.clashMet = some s.now then 0 else min 60 (s.table.clashCount + 1)
      clashMet := none
      refreshCount := if s.running = true then s.table.refreshCount + 1 else s.table.refreshCount } := by
  simp only [State.tickTable, State.setTable_table, ZoneTable.tickClash, Bool.not_eq_true']
  rfl

theorem State.setClock_if (p : Prop) [Decidable p] (c : Clock) :
    (if p then s.setClock c else s) = s.setClock (if p then c else s.clock) := by
  split <;> rfl

theorem State.setPace_if (p : Prop) [Decidable p] (x : Pace) :
    (if p then s.setPace x else s) = s.setPace (if p then x else s.pace) := by
  split <;> rfl

/-- Mark count, count silence and count period (R96, R116, R124). -/
theorem State.tickMarks_value :
    s.tickMarks.clock = { s.clock with markCount :=
      if s.running = true ∧ s.clock.authority = true then s.clock.markCount + 1 else s.clock.markCount } ∧
    s.tickMarks.pace = { s.pace with
      silence := if s.pace.source = none then s.pace.silence else min 30 (s.pace.silence + 1)
      period := if s.running = true ∧ s.cfg.roles.countPoint = true ∧ s.ret.serial ≠ none then s.pace.period + 1
        else s.pace.period } := by
  unfold State.tickMarks
  dsimp only
  simp only [State.setClock_if, State.setPace_if, Bool.and_eq_true]
  constructor
  · show (if _ then _ else _) = _
    split <;> rfl
  · have runs (c : Clock) (p : Pace) : ((s.setClock c).setPace p).running = s.running := rfl
    simp only [runs, State.setPace_pace, State.setClock_pace, State.setPace_cfg, State.setClock_cfg,
      State.setPace_ret, State.setClock_ret, and_assoc, Option.isSome_iff_ne_none]
    by_cases source : s.pace.source = none
    · rw [if_neg (not_not_intro source), if_pos source]
      split <;> rfl
    · rw [if_pos source, if_neg source]
      split <;> rfl

/-- Message durations (R150). -/
theorem State.tickMessages_disp :
    s.tickMessages.disp = { s.disp with
      store := s.disp.store.map (fun m => { m with remaining := m.remaining - 1 }) } := rfl

/-- The dormant count (R195). -/
theorem State.tickDormant_start :
    s.tickDormant.start = { s.start with dormantCount :=
      if s.mode = .standby ∧ s.cfg.dormantOn = true ∧ s.calls.list = [] ∧ s.calls.overflow = none then
        s.start.dormantCount + 1 else s.start.dormantCount } := by
  have empty : (s.mode = .standby && s.cfg.dormantOn && s.calls.list.isEmpty && s.calls.overflow.isNone) = true ↔
      s.mode = .standby ∧ s.cfg.dormantOn = true ∧ s.calls.list = [] ∧ s.calls.overflow = none := by
    simp [and_assoc]
  unfold State.tickDormant
  simp only [empty]
  split <;> simp

end Sys2Proof.Machine
end

section
namespace Sys2Proof.Machine

variable (s : State)

/-! ## What the counts do to the views of the zone (R21, R61) -/

/-- Two call lists that show the same holds: the same kinds, states and hold starts, call by call. -/
def SameHolds (l k : List Call) : Prop :=
  l.map (fun x => (x.kind, x.state, x.holdStart)) = k.map (fun x => (x.kind, x.state, x.holdStart))

theorem sameHolds_map {f : Call → Call} (hf : ∀ x, (f x).kind = x.kind ∧ (f x).state = x.state ∧
    (f x).holdStart = x.holdStart) (l : List Call) : SameHolds (l.map f) l := by
  simp [SameHolds, hf]

theorem SameHolds.any {l k : List Call} (h : SameHolds l k) :
    l.any (fun x => x.state = .holding) = k.any (fun x => x.state = .holding) := by
  have lists := congrArg (fun m => m.any (fun y => decide (y.2.1 = CallState.holding))) h
  simpa [List.any_map, Function.comp_def] using lists

theorem SameHolds.empty {l k : List Call} (h : SameHolds l k) : l.isEmpty = k.isEmpty := by
  have lengths := congrArg List.isEmpty h
  simpa using lengths

theorem SameHolds.holders {c d : CallUnit} (h : SameHolds c.list d.list) (ho : c.overflow = d.overflow)
    (zone : Nat) : c.holders zone = d.holders zone := by
  have lists := congrArg (fun m => (m.filter (fun y => decide (y.2.1 = CallState.holding))).map
    (fun y => (⟨zone, y.1, y.2.2⟩ : Candidate))) h
  simp only [List.filter_map, List.map_map, Function.comp_def] at lists
  unfold CallUnit.holders
  rw [lists, ho]

variable {s} {u : State}

/-- The own zone is shown alike under call lists that show the same holds (R21, R61). -/
theorem State.holds_congr (hm : u.mode = s.mode) (hc : u.cfg = s.cfg) (hl : SameHolds u.calls.list s.calls.list)
    (ho : u.calls.overflow = s.calls.overflow) :
    u.holdWanted = s.holdWanted ∧ u.zoneCondition = s.zoneCondition ∧ u.ownHolder = s.ownHolder := by
  have wanted : u.holdWanted = s.holdWanted := by
    unfold State.holdWanted
    rw [State.running_congr hm, State.mirror_congr hc, hl.any, ho]
  refine ⟨wanted, ?_, ?_⟩
  · unfold State.zoneCondition
    rw [wanted, hl.empty]
  · unfold State.ownHolder
    rw [wanted, hl.holders ho, hc]

/-- Entries that differ in their age alone are seen alike (R61). -/
theorem Retained.view_aged (r : Retained) (e : PeerEntry) (n : Nat) : r.view { e with age := n } = r.view e := rfl

end Sys2Proof.Machine
end

section
namespace Sys2Proof.Machine

variable (s : State)

/-! ## The counts of a seconds expiry together (R88) -/

/-- The board after every per-second count but the clock's own. -/
def State.tallied (s : State) : State :=
  s.countStopSecond.tickCalls.tickTable.tickMarks.evalPeak.tickMessages.tickDormant

theorem State.tick_steps : s.tick = s.tickClock.handOn.tallied.finish := rfl

@[simp] theorem State.tallied_frame :
    s.tallied.pending = s.pending ∧ s.tallied.now = s.now ∧ s.tallied.mode = s.mode ∧ s.tallied.cfg = s.cfg ∧
    s.tallied.pins = s.pins ∧ s.tallied.out = s.out ∧ s.tallied.sec = s.sec ∧ s.tallied.att = s.att ∧
    s.tallied.bus = s.bus ∧ s.tallied.req = s.req := by
  simp [State.tallied]

theorem State.tallied_calls :
    s.tallied.calls = { s.calls with list := s.calls.list.map (fun x =>
      if x.state = .holding ∧ s.running = true then { x with heldFor := min 65535 (x.heldFor + 1) } else x) } := by
  have run : s.countStopSecond.running = s.running := State.running_congr (by simp)
  simp [State.tallied, State.tickCalls_calls, run]

theorem State.tallied_table :
    s.tallied.table = { s.table with
      entries := s.table.entries.map (fun e => { e with age := min 255 (e.age + 1) })
      mirrored := s.table.mirrored.map (fun e => { e with age := min 255 (e.age + 1) })
      clashCount := if s.table.clash = false then s.table.clashCount
        else if s.table.clashMet = some s.now then 0 else min 60 (s.table.clashCount + 1)
      clashMet := none
      refreshCount := if s.running = true then s.table.refreshCount + 1 else s.table.refreshCount } := by
  have run : s.countStopSecond.tickCalls.running = s.running := State.running_congr (by simp)
  simp [State.tallied, State.tickTable_table, run]

theorem State.tallied_marks :
    s.tallied.clock = { s.clock with markCount :=
      if s.running = true ∧ s.clock.authority = true then s.clock.markCount + 1 else s.clock.markCount } ∧
    s.tallied.pace = { s.pace with
      silence := if s.pace.source = none then s.pace.silence else min 30 (s.pace.silence + 1)
      period := if s.running = true ∧ s.cfg.roles.countPoint = true ∧ s.ret.serial ≠ none then s.pace.period + 1
        else s.pace.period } := by
  have run : s.countStopSecond.tickCalls.tickTable.running = s.running := State.running_congr (by simp)
  have serial : s.countStopSecond.ret.serial = s.ret.serial := by rw [State.countStopSecond_ret]
  unfold State.tallied
  constructor
  · simp [State.tickMarks_value, run]
  · simp [State.tickMarks_value, run, serial]

theorem State.tallied_ret :
    s.tallied.ret = { s.ret with
      interval := if s.mode = .shift then
        s.ret.interval.map (fun i => { i with seconds := addSeconds i.seconds 1 }) else s.ret.interval
      peak := if s.mode = .shift ∧ s.clock.timeValid = true ∧ s.pace.plan.any (fun x => x.usable) = true then
        s.pace.plan.map (fun x => max (s.ret.peak.getD 0) (targetAt x.entries s.clock.s)) else s.ret.peak } := by
  have clock : s.countStopSecond.tickCalls.tickTable.tickMarks.clock.s = s.clock.s ∧
      s.countStopSecond.tickCalls.tickTable.tickMarks.clock.timeValid = s.clock.timeValid := by
    simp [State.tickMarks_value]
  have plan : s.countStopSecond.tickCalls.tickTable.tickMarks.pace.plan = s.pace.plan := by
    simp [State.tickMarks_value]
  unfold State.tallied
  simp [State.evalPeak_ret, clock, plan, State.countStopSecond_ret]

theorem State.tallied_disp :
    s.tallied.disp = { s.disp with
      store := s.disp.store.map (fun m => { m with remaining := m.remaining - 1 }) } := by
  simp [State.tallied, State.tickMessages_disp]

theorem State.tallied_start :
    s.tallied.start = { s.start with dormantCount :=
      if s.mode = .standby ∧ s.cfg.dormantOn = true ∧ s.calls.list = [] ∧ s.calls.overflow = none then
        s.start.dormantCount + 1 else s.start.dormantCount } := by
  simp [State.tallied, State.tickDormant_start, State.tickCalls_calls]

/-- The counts leave the zone's calls as they show and every entry as it is seen (R21, R61). -/
theorem State.tallied_holds :
    s.tallied.holdWanted = s.holdWanted ∧ s.tallied.zoneCondition = s.zoneCondition ∧
    s.tallied.ownHolder = s.ownHolder := by
  apply State.holds_congr (by simp) (by simp)
  · rw [s.tallied_calls]
    exact sameHolds_map (fun x => by split <;> simp) _
  · rw [s.tallied_calls]

theorem State.tallied_liveMirrored :
    s.tallied.liveMirrored = s.liveMirrored.map (fun e => { e with age := min 255 (e.age + 1) }) := by
  unfold State.liveMirrored
  rw [s.tallied_table]
  cases s.table.mirrored with
  | none => rfl
  | some e =>
    dsimp only [Option.map_some]
    split <;> rfl

theorem State.tallied_inBreak : s.tallied.inBreak = s.inBreak := by
  have known : s.tallied.knownSecond = s.knownSecond := by
    simp [State.knownSecond, s.tallied_marks]
  have plan : s.tallied.usablePlan = s.usablePlan := by
    simp [State.usablePlan, State.runningPlan, s.tallied_marks, s.tallied_ret]
  simp [State.inBreak, State.breakEnds, known, plan]

theorem State.tallied_currentTimes : s.tallied.currentTimes = s.currentTimes := by
  have mirror : s.tallied.mirror = s.mirror := State.mirror_congr (by simp)
  have plan : s.tallied.usablePlan = s.usablePlan := by
    simp [State.usablePlan, State.runningPlan, s.tallied_marks, s.tallied_ret]
  simp [State.currentTimes, State.currentTakt, mirror, plan, s.tallied_marks]

/-- No count changes what the attributor is handed (R61). -/
theorem State.tallied_attInputs : s.tallied.attInputs = s.attInputs := by
  have mirror : s.tallied.mirror = s.mirror := State.mirror_congr (by simp)
  obtain ⟨-, condition, holder⟩ := s.tallied_holds
  have mirrored := s.tallied_liveMirrored
  have comparable : s.tallied.ret.comparable = s.ret.comparable := by
    funext e
    simp [Retained.comparable, s.tallied_ret]
  have view : s.tallied.ret.view = s.ret.view := Retained.view_congr (by simp [s.tallied_ret])
    (by simp [s.tallied_ret])
  have own : s.tallied.ownView = s.ownView := by
    unfold State.ownView
    rw [mirror, mirrored, condition, holder, comparable]
    cases s.liveMirrored <;> rfl
  have motion : s.tallied.ownMotion = s.ownMotion := by
    unfold State.ownMotion
    rw [mirror, s.tallied_table, s.tallied_frame.2.2.2.2.2.2.1]
    cases s.table.mirrored <;> rfl
  have peers : s.tallied.table.entries.map s.ret.view = s.table.entries.map s.ret.view := by
    rw [s.tallied_table, List.map_map]
    rfl
  have flags : s.tallied.table.starved = s.table.starved ∧ s.tallied.table.blocked = s.table.blocked := by
    simp [s.tallied_table]
  unfold State.attInputs
  rw [mirror, mirrored, own, motion, view, peers, flags.1, flags.2, s.tallied_inBreak]
  simp only [State.tallied_frame, Option.map_map]
  rfl

end Sys2Proof.Machine
end

section
namespace Sys2Proof.Machine

variable (s : State)

/-! ## The open interval at a seconds expiry (R72, R89) -/

theorem State.tick_inBreak : s.tick.inBreak = s.tickClock.inBreak := by
  have ends : s.tick.inBreak = s.tickClock.handOn.tallied.inBreak := by
    rw [s.tick_steps]
    apply State.inBreak_congr <;> simp
  rw [ends, State.tallied_inBreak]
  apply State.inBreak_congr <;> simp

/-- The counts leave nothing for the section monitor to follow. -/
theorem State.tick_sec (hr : s.running = true) : s.tick.sec = s.tickClock.handOn.sec := by
  have run : s.tickClock.running = true := (State.running_congr (by simp)).trans hr
  have times : s.tickClock.handOn.sec.times = s.tickClock.handOn.tallied.currentTimes := by
    rw [(s.tickClock.handOn_times run).1, State.tallied_currentTimes]
    symm
    apply State.currentTimes_congr <;> simp
  have hold : s.tickClock.handOn.tallied.holdWanted = s.tickClock.holdWanted := by
    rw [(State.tallied_holds _).1, State.handOn_holdWanted]
  rw [s.tick_steps]
  rw [(State.finish_blocks _).1, State.handOn_sec_still _ (by simpa using times) (by simp [hold])]
  simp

/-- In SHIFT the attributor finds after the counts what it found before them, and the second stands in the
interval that the clock's change left open (R72). -/
theorem State.tick_interval (m : s.mode = .shift) :
    s.tick.attInputs = s.tickClock.handOn.attInputs ∧ s.tick.att.cause = s.tickClock.handOn.att.cause ∧
    s.tick.ret = s.tickClock.handOn.tallied.ret := by
  have hr : s.running = true := s.running_iff.mpr (.inr m)
  have sec := s.tick_sec hr
  rw [s.tick_steps] at sec ⊢
  generalize hv : s.tickClock.handOn.tallied = v at *
  have mode : v.mode = .shift := by simp [← hv, m]
  have secV : v.sec = s.tickClock.handOn.sec := by simp [← hv]
  have still : v.followHold.retime.sec.motion = v.sec.motion := by
    rw [← (v.handOn_blocks).2.1, ← v.finish_blocks.1, sec, secV]
  have inputs : v.finish.attInputs = s.tickClock.handOn.attInputs := by
    rw [v.finish_attInputs, v.handOn_attInputs, v.monitored_attInputs still, ← hv, State.tallied_attInputs]
  have cause : v.finish.att.cause = s.tickClock.handOn.att.cause := by
    rw [(v.finish_cause.1 mode).1, inputs, State.handOn_cause, if_pos (by simpa using m)]
    simp [← hv]
  refine ⟨inputs, cause, ?_⟩
  have key : v.ret.interval.map (fun i => i.key) = v.handOn.att.cause := by
    have before := s.tickClock.handOn_key (by simpa using m)
    rw [v.finish_blocks.2.2.1] at cause
    rw [cause, ← before, ← hv, State.tallied_ret, if_pos (by simpa using m), Option.map_map]
    rfl
  rw [v.finish_blocks.2.2.2.1, v.handOn_ret, if_neg (by simp [key])]

/-- A change of the clock changes break membership alone of what the attributor is handed (R61). -/
theorem State.setClock_attInputs (c : Clock) :
    (s.setClock c).attInputs = { s.attInputs with inBreak := (s.setClock c).inBreak } := rfl

theorem State.tickClock_attInputs : s.tickClock.attInputs = { s.attInputs with inBreak := s.tickClock.inBreak } :=
  rfl

/-- An evaluation on a section that stands outside a break names a cause (R65). -/
theorem evaluate_isSome {cfg : Cfg} {c : AttInputs} (hm : c.motion = .stopped) (hb : c.inBreak = false) :
    ∃ k, evaluate cfg c = some k := by
  unfold evaluate
  rw [if_neg (by simp [hm, hb])]
  repeat' split
  all_goals exact ⟨_, rfl⟩

theorem evaluate_of_break {cfg : Cfg} {c : AttInputs} (hb : c.inBreak = true) : evaluate cfg c = none :=
  if_pos (.inr hb)

/-- A section that stands goes on standing at the end of a command. -/
theorem State.handOn_stopped (hr : s.running = true) (hm : s.sec.motion = .stopped)
    (ht : s.sec.stopTimer = none) : s.handOn.sec.motion = .stopped := by
  by_cases times : s.sec.times = s.currentTimes
  · rw [s.handOn_sec_of_times (.inl times), s.followHold_motion.1, hm]
  · rw [(((s.handOn_times hr).2 times).2 (by simp [ht])).1, hm]

/-- The inputs after the clock's change, its section monitor unmoved (R64). -/
theorem State.tickClock_handOn_attInputs (hv : s.tickClock.handOn.sec.motion = s.sec.motion) :
    s.tickClock.handOn.attInputs = { s.attInputs with inBreak := s.tickClock.inBreak } := by
  rw [State.handOn_attInputs, State.monitored_attInputs, s.tickClock_attInputs]
  rw [← (State.handOn_blocks _).2.1]
  simpa using hv

/-- One second in an interval that stays open (R72). -/
theorem State.tick_counts (follows : s.CauseFollows) (m : s.mode = .shift) (hb : s.tick.inBreak = s.inBreak)
    (hv : s.tick.sec.motion = s.sec.motion) :
    ∀ i ∈ s.ret.interval, s.tick.ret.interval = some { i with seconds := addSeconds i.seconds 1 } := by
  intro i hi
  obtain ⟨cause, key⟩ := follows.1 m
  rw [s.tick_sec (s.running_iff.mpr (.inr m))] at hv
  have inputs := s.tickClock_handOn_attInputs hv
  rw [← s.tick_inBreak, hb] at inputs
  have same : s.tickClock.handOn.att.cause = s.att.cause := by
    rw [State.handOn_cause, if_pos (by simpa using m), inputs, cause]
    simp only [State.tickClock_frame]
    rfl
  have kept : s.tickClock.handOn.ret = s.ret := by
    rw [State.handOn_ret, if_neg (by simp [same, key])]
    simp
  rw [(s.tick_interval m).2.2, State.tallied_ret, kept, Option.mem_def.mp hi, if_pos (by simpa using m)]
  rfl

/-- The second that lies in a break closes the open interval (R71, R72). -/
theorem State.tick_into_break (m : s.mode = .shift) (hb : s.tick.inBreak = true) :
    s.tick.ret.interval = none ∧ s.tick.ret.current = s.ret.closeInterval.current := by
  have shift : s.tickClock.handOn.mode = .shift := by simpa using m
  have inBreak : s.tickClock.handOn.attInputs.inBreak = true := by
    rw [← hb, s.tick_inBreak]
    show s.tickClock.handOn.inBreak = _
    apply State.inBreak_congr <;> simp
  have cause : s.tickClock.handOn.att.cause = none := by
    rw [State.handOn_cause, if_pos (by simpa using m), evaluate_of_break inBreak]
  have closed : s.tickClock.handOn.ret.interval = none ∧
      s.tickClock.handOn.ret.current = s.ret.closeInterval.current := by
    rw [State.handOn_ret, cause]
    simp only [State.tickClock_frame, m, true_and]
    cases h : s.ret.interval with
    | none => simp [h, (s.ret.closeInterval_current).2 h]
    | some i => simp
  rw [(s.tick_interval m).2.2, State.tallied_ret, closed.1, closed.2, if_pos shift]
  exact ⟨rfl, rfl⟩

/-- The second that ends a break opens the interval of a section that stands (R71, R72, R84). -/
theorem State.tick_out_of_break (ok : s.Ok) (m : s.mode = .shift) (hb : s.inBreak = true)
    (hu : s.tick.inBreak = false) (hv : s.ownMotion = .stopped) :
    ∃ k, evaluate s.tick.cfg s.tick.attInputs = some k ∧ s.tick.att.cause = some k ∧
      s.tick.ret.interval = some ⟨k, 1, s.att.carried == some k⟩ ∧ s.tick.ret.current = s.ret.current := by
  obtain ⟨cause, key⟩ := ok.causeFollows.1 m
  have inBreak : s.attInputs.inBreak = true := hb
  rw [evaluate_of_break inBreak] at cause
  rw [cause, Option.map_eq_none_iff] at key
  have hr : s.running = true := s.running_iff.mpr (.inr m)
  have motion : s.tickClock.handOn.ownMotion = .stopped := by
    rw [← hv]
    unfold State.ownMotion at hv ⊢
    have mirror : s.tickClock.handOn.mirror = s.mirror := State.mirror_congr (by simp)
    by_cases hm : s.mirror = true
    · simp [mirror, hm]
    · rw [mirror, if_neg hm, if_neg hm]
      rw [if_neg hm] at hv
      have run : s.tickClock.running = true := (State.running_congr (by simp)).trans hr
      rw [State.handOn_stopped _ run (by simpa using hv) (by simpa using (ok.sectionOk.2.2.2.1 hv).1), hv]
  have outside : s.tickClock.handOn.attInputs.inBreak = false := by
    rw [← hu, s.tick_inBreak]
    show s.tickClock.handOn.inBreak = _
    apply State.inBreak_congr <;> simp
  obtain ⟨k, found⟩ := evaluate_isSome (cfg := s.cfg) (c := s.tickClock.handOn.attInputs) motion outside
  have causeH : s.tickClock.handOn.att.cause = some k := by
    rw [State.handOn_cause, if_pos (by simpa using m)]
    simpa using found
  obtain ⟨inputs, causeU, ret⟩ := s.tick_interval m
  have opened : s.tickClock.handOn.ret.interval = some ⟨k, 0, s.att.carried == some k⟩ ∧
      s.tickClock.handOn.ret.current = s.ret.current := by
    rw [State.handOn_ret, causeH]
    simp [m, key, (s.ret.closeInterval_current).2 key]
  refine ⟨k, ?_, causeU.trans causeH, ?_, ?_⟩
  · rw [inputs, ← found]
    simp
  · rw [ret, State.tallied_ret, opened.1, if_pos (by simpa using m)]
    rfl
  · rw [ret, State.tallied_ret]
    exact opened.2

end Sys2Proof.Machine
end

section
namespace Sys2Proof.Machine

variable (s : State)

/-- What a seconds expiry leaves of every block but motion, record and text line (R14, R47, R51, R57, R88, R89,
R96, R116, R124, R150, R195). -/
theorem State.tick_blocks :
    s.tick.clock = s.tickClock.handOn.tallied.clock ∧ s.tick.calls = s.tickClock.handOn.tallied.calls ∧
    s.tick.table = { s.tickClock.handOn.tallied.table with own := s.tick.table.own } ∧
    s.tick.pace = { s.tickClock.handOn.tallied.pace with downtime := s.tick.pace.downtime } ∧
    s.tick.disp.store = s.tickClock.handOn.tallied.disp.store ∧
    s.tick.disp.flash = s.tickClock.handOn.tallied.disp.flash ∧
    s.tick.bus = { s.bus with status := s.tick.bus.status } ∧
    s.tick.ret = { s.tickClock.handOn.tallied.ret with
      interval := s.tick.ret.interval, current := s.tick.ret.current } := by
  obtain ⟨-, -, -, -, -, calls, clock, -, -, -, table, bus, -, ret, -, -, -, -, pace, store, flash, -⟩ :=
    s.tickClock.handOn.tallied.followedFrom_finish
  rw [s.tick_steps]
  refine ⟨clock, calls, table, pace, store, flash, ?_, ret⟩
  rw [bus]
  simp [State.handOn_bus]

/-- The usable plan is the pace unit's plan, where that is usable. -/
theorem State.Ok.plan {s : State} (h : s.Ok) (ha : s.mode.awake = true) :
    s.pace.plan = s.runningPlan ∧ s.usablePlan = s.pace.plan.filter (fun p => p.usable) := by
  have plan := (h.paceOk.2.2.2 ha).1
  refine ⟨plan, ?_⟩
  unfold State.usablePlan
  rw [plan]
  cases s.runningPlan with
  | none => rfl
  | some p => cases u : p.usable <;> simp [u, Option.filter]

/-- The target peak after a seconds expiry (R112). -/
theorem State.Ok.tick_peak {s : State} (h : s.Ok) (ha : s.mode.awake = true) :
    (∀ p ∈ s.usablePlan, s.mode = .shift → s.clock.timeValid = true →
      s.tick.ret.peak = some (max (s.ret.peak.getD 0) (targetAt p.entries s.tick.clock.s))) ∧
    (s.usablePlan = none ∨ s.mode ≠ .shift ∨ s.clock.timeValid = false → s.tick.ret.peak = s.ret.peak) := by
  obtain ⟨clock, -, -, -, -, -, -, ret⟩ := s.tick_blocks
  have plan : s.tickClock.handOn.pace.plan = s.pace.plan := by simp [State.handOn_pace]
  have second : s.tick.clock.s = s.tickClock.clock.s := by
    rw [clock, (State.tallied_marks _).1]
    simp
  have valid : s.tickClock.clock.timeValid = s.clock.timeValid := by rw [s.tickClock_clock]
  have peak : s.tick.ret.peak = if s.mode = .shift ∧ s.clock.timeValid = true ∧
      s.pace.plan.any (fun x => x.usable) = true then
      s.pace.plan.map (fun x => max (s.ret.peak.getD 0) (targetAt x.entries s.tick.clock.s))
      else s.ret.peak := by
    rw [ret, State.tallied_ret, second]
    simp [plan, valid]
  rw [peak, (h.plan ha).2]
  cases hp : s.pace.plan with
  | none => simp
  | some x =>
    cases hu : x.usable
    · simp [hu, Option.filter]
    · simp only [Option.filter, hu, if_true, Option.any_some, Option.map_some, and_true]
      refine ⟨fun p hx m v => ?_, fun out => ?_⟩
      · obtain rfl : x = p := Option.some.inj hx
        rw [if_pos ⟨m, v⟩]
      · refine if_neg (fun on => ?_)
        rcases out with out | out | out
        · exact absurd out (by simp)
        · exact out on.1
        · exact absurd on.2 (by simp [out])

end Sys2Proof.Machine

open Sys2Proof Sys2Proof.Machine

/-- Settles O42: every count on its own, then the open interval with break membership unchanged, at the start
and at the end of a break. -/
theorem secondsExpiryCounts : Obligations.SecondsExpiryCounts := by
  intro t s b ok awake
  have ran : exec (.secondsExpiry t) s = .next b.tick := congrArg Host.Outcome.next (if_pos awake)
  clear_value b
  have runs := b.running_of_awake awake
  have runsH : b.tickClock.handOn.running = b.running := State.running_congr (by simp)
  obtain ⟨clock, calls, table, pace, store, flash, bus, ret⟩ := b.tick_blocks
  obtain ⟨marks, silence⟩ := b.tickClock.handOn.tallied_marks
  have clockH : b.tickClock.handOn.clock = b.tickClock.clock := by simp
  have retH : b.tickClock.handOn.ret.last = b.ret.last ∧ b.tickClock.handOn.ret.shift = b.ret.shift ∧
    b.tickClock.handOn.ret.serial = b.ret.serial ∧ b.tickClock.handOn.ret.actual = b.ret.actual ∧
    b.tickClock.handOn.ret.peak = b.ret.peak ∧ b.tickClock.handOn.ret.car = b.ret.car := by simp
  rw [clockH, runsH] at marks
  rw [marks, b.tickClock_clock] at clock
  rw [State.tallied_calls, runsH] at calls
  rw [State.tallied_table, runsH] at table
  rw [silence, runsH] at pace
  rw [State.tallied_disp] at store flash
  rw [State.tallied_ret] at ret
  obtain ⟨peak, noPeak⟩ := ok.tick_peak awake
  simp only [runs] at clock calls table pace
  have start : b.mode = .standby → b.cfg.dormantOn = true → b.calls.list = [] → b.calls.overflow = none →
      b.tick.start.dormantCount = b.start.dormantCount + 1 := by
    intro m on list overflow
    rw [b.tick_steps]
    simp [State.handOn_start, State.tallied_start, State.tallied_calls, m, on, list, overflow]
  have link : b.LinkFollows b.tick := by
    have follows := b.tickClock.handOn.tallied.finish_linkFollows
    simpa [State.LinkFollows, b.tick_steps, State.tallied_disp, State.handOn_link] using follows
  refine ⟨b.tick, ran, by rw [clock], by rw [clock], by rw [clock], by rw [clock], ?_, ?_, ?_, ?_, ?_, ?_, ?_, ?_,
    ?_, peak, noPeak, ?_, start, ?_, ?_, ?_, by simp, by simp, by simp, ?_, ?_, ?_, ?_, ?_, by simp, by rw [bus],
    by rw [bus], by rw [bus], by rw [bus], ?_, link⟩
  · rw [calls]
    simp
  · rw [table]
    simp [State.handOn_table]
  · rw [table]
    simp [State.handOn_table]
  · rw [table]
    simp [State.handOn_table]
  · rw [table]
  · rw [table]
    simp [State.handOn_table]
  · rw [table]
    simp [State.handOn_table]
  · rw [pace]
    simp [State.handOn_pace]
  · rw [pace]
    simp [State.handOn_pace]
  · rw [store]
    simp
  · exact fun m same i hi motion => b.tick_counts ok.causeFollows m same motion i hi
  · intro m _ into
    obtain ⟨closed, current⟩ := b.tick_into_break m into
    exact ⟨closed, by rw [current]⟩
  · exact fun m within out stands => b.tick_out_of_break ok m within out stands
  · rw [ret]
    exact retH.2.1
  · rw [ret]
    exact retH.2.2.1
  · rw [ret]
    exact retH.2.2.2.1
  · rw [ret]
    exact retH.2.2.2.2.2
  · rw [ret]
    exact retH.1
  · rw [flash]
    simp
end

section
namespace Sys2Proof.Machine

variable (s : State)

/-! ## The calls that an accepted pulse counts down (R13, R23, R24) -/

/-- Whether a call reaches its hold point at an accepted pulse under a policy that holds (R13). -/
def Cfg.atHold (c : Cfg) (x : Call) : Bool :=
  (x.state = .opened || x.state = .answered) && x.remaining ≤ 1 && (c.policy x.kind).policy ≠ .signal

/-- A call at an accepted pulse, by its state, its distance and the policy of its kind (R13). -/
theorem Call.advance_value (cfg : Cfg) (second : Option Nat) (x : Call) :
    x.advance cfg second =
      if x.state = .holding ∨ x.state = .overdue then x
      else if 1 < x.remaining then { x with remaining := x.remaining - 1 }
      else if (cfg.policy x.kind).policy = .signal then { x with remaining := 0, state := .overdue }
      else { x with remaining := 0, state := .holding, holdStart := second, heldFor := 0 } := by
  unfold Call.advance
  cases h : x.state with
  | holding => simp
  | overdue => simp
  | opened => cases p : (cfg.policy x.kind).policy <;> simp
  | answered => cases p : (cfg.policy x.kind).policy <;> simp

/-- A call that reaches its hold point holds from there on, and no other call begins to (R13). -/
theorem Call.advance_holding (cfg : Cfg) (second : Option Nat) (x : Call) :
    (x.advance cfg second).state = .holding ↔ x.state = .holding ∨ cfg.atHold x = true := by
  rw [Call.advance_value]
  cases h : x.state <;> by_cases far : 1 < x.remaining <;>
    by_cases signal : (cfg.policy x.kind).policy = .signal <;>
    simp [Cfg.atHold, h, far, signal] <;> omega

theorem Call.enters_eq (cfg : Cfg) (x : Call) : x.enters cfg = cfg.atHold x := by
  rw [Bool.eq_iff_iff]
  unfold Call.enters
  simp only [Bool.and_eq_true, decide_eq_true_eq, Call.advance_holding]
  cases h : x.state <;> simp [Cfg.atHold, h]

/-- The holds of a list of calls counted one after the other (R24). -/
def Record.countHolds (l : List Call) (r : Record) : Record := l.foldl (fun r x => r.countHold x.kind) r

theorem Record.countHold_kept (r : Record) (k : CallKind) :
    (r.countHold k).tally = r.tally ∧ (r.countHold k).raised = r.raised := by
  unfold Record.countHold
  split <;> exact ⟨rfl, rfl⟩

theorem Record.countHolds_kept (l : List Call) (r : Record) :
    (r.countHolds l).tally = r.tally ∧ (r.countHolds l).raised = r.raised := by
  induction l generalizing r with
  | nil => exact ⟨rfl, rfl⟩
  | cons x rest ih =>
    obtain ⟨tally, raised⟩ := ih (r.countHold x.kind)
    exact ⟨tally.trans (r.countHold_kept x.kind).1, raised.trans (r.countHold_kept x.kind).2⟩

theorem PerKind.get_set (p : PerKind) (j k : CallKind) (n : Nat) :
    (p.set j n).get k = if j = k then n else p.get k := by
  cases j <;> cases k <;> rfl

/-- Every hold of a kind counts once, up to the end of the count (R24). -/
theorem Record.countHolds_holds (l : List Call) (r : Record) (h : ∀ k, r.holds.get k ≤ 255) (k : CallKind) :
    (r.countHolds l).holds.get k = min 255 (r.holds.get k + (l.filter (fun x => x.kind = k)).length) := by
  induction l generalizing r with
  | nil => simp [Record.countHolds, Nat.min_eq_right (h k)]
  | cons x rest ih =>
    obtain ⟨holds, -⟩ := r.countHold_counts x.kind (h x.kind)
    have bound (j : CallKind) : (r.countHold x.kind).holds.get j ≤ 255 := by
      rw [holds, PerKind.get_set]
      split
      · exact Nat.min_le_left _ _
      · exact h j
    have step := ih (r.countHold x.kind) bound
    rw [holds, PerKind.get_set] at step
    show ((r.countHold x.kind).countHolds rest).holds.get k = _
    rw [step]
    by_cases same : x.kind = k
    · simp [same]
      omega
    · simp [same]

/-- Several entries into a hold: the sound started afresh, each hold counted (R23, R24). -/
theorem State.enterHolds_value (l : List Call) :
    (l.foldl (fun s x => s.enterHold x.kind) s).calls = { s.calls with
      holdSound := if l = [] then s.calls.holdSound else some (s.now + 2000000) } ∧
    (l.foldl (fun s x => s.enterHold x.kind) s).ret = { s.ret with
      current := if s.mode = .shift then s.ret.current.map (Record.countHolds l) else s.ret.current } := by
  induction l generalizing s with
  | nil =>
    refine ⟨rfl, ?_⟩
    have id : s.ret.current.map (Record.countHolds []) = s.ret.current := by
      cases s.ret.current <;> rfl
    simp [id]
  | cons x rest ih =>
    obtain ⟨calls, ret⟩ := ih (s.enterHold x.kind)
    have kept : (s.enterHold x.kind).calls = { s.calls with holdSound := some (s.now + 2000000) } ∧
        (s.enterHold x.kind).now = s.now ∧ (s.enterHold x.kind).mode = s.mode ∧
        (s.enterHold x.kind).ret = { s.ret with
          current := if s.mode = .shift then s.ret.current.map (fun r => r.countHold x.kind)
            else s.ret.current } := by
      rw [s.enterHold_value]
      unfold State.charge
      refine ⟨?_, ?_, ?_, ?_⟩ <;> split <;> simp_all [holdSoundTime, seconds]
    obtain ⟨callsX, now, mode, retX⟩ := kept
    rw [callsX, now] at calls
    rw [retX, mode] at ret
    refine ⟨?_, ?_⟩
    · show (rest.foldl _ (s.enterHold x.kind)).calls = _
      rw [calls]
      simp
    · show (rest.foldl _ (s.enterHold x.kind)).ret = _
      rw [ret]
      by_cases m : s.mode = .shift
      · simp only [m, if_true, Option.map_map]
        rfl
      · simp only [m, if_false]

/-- The call list and the record after the countdown (R13, R23, R24). -/
theorem State.countDown_value :
    s.countDown.calls = { s.calls with
      holdSound := if s.calls.list.any s.cfg.atHold then some (s.now + 2000000) else s.calls.holdSound
      list := s.calls.list.map (fun x => x.advance s.cfg s.knownSecond) } ∧
    s.countDown.ret = { s.ret with
      current := if s.mode = .shift then s.ret.current.map (Record.countHolds (s.calls.list.filter s.cfg.atHold))
        else s.ret.current } := by
  have enters : (fun x : Call => x.enters s.cfg) = s.cfg.atHold := by
    funext x
    exact x.enters_eq s.cfg
  obtain ⟨calls, ret⟩ := (s.setCalls { s.calls with
    list := s.calls.list.map (fun x => x.advance s.cfg s.knownSecond) }).enterHolds_value
    (s.calls.list.filter s.cfg.atHold)
  have none' : s.calls.list.filter s.cfg.atHold = [] ↔ ¬ s.calls.list.any s.cfg.atHold = true := by
    simp [List.filter_eq_nil_iff]
  unfold State.countDown
  rw [enters]
  refine ⟨?_, ret⟩
  rw [calls]
  by_cases h : s.calls.list.any s.cfg.atHold = true
  · rw [if_neg (fun e => none'.mp e h), if_pos h]
    rfl
  · rw [if_pos (none'.mpr h), if_neg h]
    rfl

end Sys2Proof.Machine
end

section
namespace Sys2Proof.Machine

variable {s : State}

/-! ## What falls together with a pulse (log 27, 31) -/

theorem State.together_of_later (h : ∀ c ∈ s.pending.head?, s.now < momentOf c) : s.together = [] := by
  unfold State.together
  cases p : s.pending with
  | nil => rfl
  | cons c rest =>
    have later : s.now < momentOf c := h c (by simp [p])
    exact List.takeWhile_cons_of_neg (by simpa using later)

theorem State.together_of_one {c : Instr} {rest : List Instr} (hp : s.pending = c :: rest)
    (hc : momentOf c ≤ s.now) (hr : ∀ d ∈ rest.head?, s.now < momentOf d) : s.together = [c] := by
  have tail := State.together_of_later (s := s.setPending rest) hr
  unfold State.together at tail ⊢
  rw [hp, List.takeWhile_cons_of_pos (by simpa using hc)]
  exact congrArg (List.cons c) tail

theorem State.takeTaktChange_of {c : Instr} {v : State}
    (hc : (∃ t, c = .secondsExpiry t) ∨ (∃ t, c = .overtimeLimit t) ∨ (∃ t f, c = .timeMark t f) ∨
      (∃ t x y, c = .qualifyTimeExpiry t .shst x y) ∨ (∃ t x y, c = .qualifyTimeExpiry t .shend x y))
    (ran : exec c s = .next v) : s.takeTaktChange c = v := by
  rcases hc with ⟨t, rfl⟩ | ⟨t, rfl⟩ | ⟨t, f, rfl⟩ | ⟨t, x, y, rfl⟩ | ⟨t, x, y, rfl⟩
  all_goals exact congrArg s.orNext ran

/-- The gap of a pulse with nothing waiting at its moment (R28, R30). -/
theorem State.pulseGap_alone (h : ∀ c ∈ s.pending.head?, s.now < momentOf c) :
    (∀ old, s.sec.gapChange = some (s.now, old) → s.pulseGap = old) ∧
    ((∀ old, s.sec.gapChange ≠ some (s.now, old)) → s.pulseGap = s.sec.times.minGap) := by
  rw [State.pulseGap_value _ (State.together_of_later h)]
  unfold SectionMonitor.gapAt
  refine ⟨fun old change => by simp [change], fun none' => ?_⟩
  cases change : s.sec.gapChange with
  | none => rfl
  | some p =>
    have other : p.1 ≠ s.now := fun e => none' p.2 (by rw [change, ← e])
    simp [other]

/-- The gap of a pulse that a change of takt falls together with (R28, log 31). -/
theorem State.pulseGap_of_change {c : Instr} {rest : List Instr} {v : State} (hp : s.pending = c :: rest)
    (hc : momentOf c ≤ s.now) (hr : ∀ d ∈ rest.head?, s.now < momentOf d) (took : s.takeTaktChange c = v)
    (changed : v.sec.times ≠ s.sec.times) : s.pulseGap = v.sec.times.minGap := by
  simp [State.pulseGap, State.together_of_one hp hc hr, took, changed]

/-! ## A pulse judged (R30, R31) -/

theorem pushOutcome_value (w : List Bool) (x : Bool) :
    pushOutcome w x = (w ++ [x]).drop (w.length + 1 - 16) := by
  unfold pushOutcome
  split
  · next short => simp [Nat.sub_eq_zero_of_le (show w.length + 1 ≤ 16 from short)]
  · rfl

theorem SectionMonitor.tooSoon_iff (m : SectionMonitor) (gap : Nat) (now : Time) :
    m.tooSoon gap now = true ↔ ∃ l ∈ m.lastPulse, now < l + gap * 1000 := by
  unfold SectionMonitor.tooSoon
  cases m.lastPulse with
  | none => simp
  | some l =>
    simp only [Option.mem_def, Option.some.injEq, exists_eq_left', msec]
    exact decide_eq_true_iff

/-- A pulse sooner than the gap is rejected (R30, R31). -/
theorem State.pulse_rejected {gap : Nat} (ht : s.sec.times = s.currentTimes)
    (soon : ∃ l ∈ s.sec.lastPulse, s.now < l + gap * 1000) :
    let u := s.pulse gap
    u.sec.lastPulse = s.sec.lastPulse ∧ u.sec.stopTimer = s.sec.stopTimer ∧ u.sec.motion = s.sec.motion ∧
    u.sec.run = 0 ∧ u.sec.window = (s.sec.window ++ [true]).drop (s.sec.window.length + 1 - 16) ∧
    (u.sec.encFault = true ↔
      s.sec.encFault = true ∨ 4 ≤ (u.sec.window.filter (fun x => x)).length) ∧
    (s.setSec { s.sec with run := 0, window := u.sec.window, encFault := u.sec.encFault }).FollowedFrom u := by
  intro u
  have step : u = (s.setSec s.sec.reject).finish := if_pos ((s.sec.tooSoon_iff gap s.now).mpr soon)
  have monitor : u.sec = (s.setSec s.sec.reject).followHold.sec := by
    rw [step, (State.finish_blocks _).1, State.handOn_sec_of_times]
    exact .inl ht
  have kept : u.sec.lastPulse = s.sec.lastPulse ∧ u.sec.stopTimer = s.sec.stopTimer ∧
      u.sec.motion = s.sec.motion ∧ u.sec.run = 0 ∧ u.sec.window = pushOutcome s.sec.window true ∧
      u.sec.encFault = (s.sec.encFault || 4 ≤ rejectedIn (pushOutcome s.sec.window true)) := by
    rw [monitor, State.followHold_sec]
    refine ⟨?_, ?_, ?_, ?_, ?_, ?_⟩ <;> (repeat' split) <;> rfl
  obtain ⟨last, timer, motion, run, window, fault⟩ := kept
  refine ⟨last, timer, motion, run, window.trans (pushOutcome_value _ _), ?_, ?_⟩
  · rw [fault, window, Bool.or_eq_true]
    exact or_congr_right decide_eq_true_iff
  · rw [window, fault]
    have follows := (s.setSec s.sec.reject).followedFrom_finish
    rw [← step] at follows
    exact follows

end Sys2Proof.Machine
end

section
namespace Sys2Proof.Machine

variable (s : State)

/-! ## What a stop that is re-keyed leaves of the retained area (R24, R73) -/

/-- `y` is `x` but for the open interval and the current record, whose counts stand. -/
def Retained.KeptBy (x y : Retained) : Prop :=
  y = { x with interval := y.interval, current := y.current } ∧
  y.current.map (fun r => (r.raised, r.holds)) = x.current.map (fun r => (r.raised, r.holds))

theorem Retained.KeptBy.refl (x : Retained) : x.KeptBy x := ⟨rfl, rfl⟩

theorem Retained.KeptBy.trans {x y z : Retained} (h : x.KeptBy y) (k : y.KeptBy z) : x.KeptBy z := by
  obtain ⟨fields, counts⟩ := h
  obtain ⟨fieldsZ, countsZ⟩ := k
  exact ⟨by rw [fieldsZ, fields], countsZ.trans counts⟩

theorem State.rekey_keeps (r : Option CauseKey) : s.ret.KeptBy (s.rekey r).ret := by
  rw [(s.rekey_ret r).1]
  split
  · exact .refl _
  · exact ⟨by rw [s.ret.closeInterval_frame], s.ret.closeInterval_counts⟩

theorem State.handOn_keeps : s.ret.KeptBy s.handOn.ret := by
  obtain ⟨-, -, -, -, -, -, -, -, -, -, -, -, -, fields, -, counts, -⟩ := s.followedFrom_finish
  have same : s.finish.ret = s.handOn.ret := by simp
  rw [same] at fields counts
  exact ⟨fields, counts⟩

theorem foldl_rekeyAfter_keeps (l : List Instr) (p : State × State) :
    p.2.ret.KeptBy (l.foldl rekeyAfter p).2.ret := by
  induction l generalizing p with
  | nil => exact .refl _
  | cons c rest ih =>
    have one : p.2.ret.KeptBy (rekeyAfter p c).2.ret := by
      unfold rekeyAfter
      dsimp only
      split
      · exact p.2.rekey_keeps _
      · exact .refl _
    exact one.trans (ih (rekeyAfter p c))

theorem State.rekeyTogether_keeps : s.ret.KeptBy s.rekeyTogether.ret := by
  unfold State.rekeyTogether
  split
  · exact foldl_rekeyAfter_keeps s.together (s, s)
  · exact .refl _

/-! ## An accepted pulse, step by step (R13, R30, R34, R73) -/

/-- The board after an accepted pulse has entered the section monitor and the call list. -/
def State.paced (s : State) : State := (s.setSec (s.sec.accept s.now)).countDown

/-- The board after the calls of an accepted pulse have re-keyed the stop, and what resolves them at the same
moment has re-keyed it back (R73, log 10, 36). -/
def State.rekeyed (s : State) : State :=
  if s.paced.handOn.att.cause = s.att.cause then s.paced.handOn else s.paced.handOn.rekeyTogether

theorem State.pulse_accepted {gap : Nat} (h : ∀ l ∈ s.sec.lastPulse, l + gap * 1000 ≤ s.now) :
    s.pulse gap = (s.rekeyed.setMotion .moving).finish := by
  refine if_neg (fun soon => ?_)
  obtain ⟨l, hl, early⟩ := (s.sec.tooSoon_iff gap s.now).mp soon
  exact absurd (h l hl) (Nat.not_le.mpr early)

@[simp] theorem State.paced_frame :
    s.paced.pending = s.pending ∧ s.paced.now = s.now ∧ s.paced.mode = s.mode ∧ s.paced.cfg = s.cfg ∧
    s.paced.pins = s.pins ∧ s.paced.out = s.out ∧ s.paced.sec = s.sec.accept s.now ∧ s.paced.table = s.table ∧
    s.paced.att = s.att ∧ s.paced.clock = s.clock ∧ s.paced.pace = s.pace ∧ s.paced.disp = s.disp ∧
    s.paced.bus = s.bus ∧ s.paced.req = s.req ∧ s.paced.start = s.start := by
  simp [State.paced]

theorem State.paced_calls :
    s.paced.calls = { s.calls with
      holdSound := if s.calls.list.any s.cfg.atHold then some (s.now + 2000000) else s.calls.holdSound
      list := s.calls.list.map (fun x => x.advance s.cfg s.knownSecond) } := by
  rw [State.paced, (State.countDown_value _).1]
  rfl

theorem State.paced_ret :
    s.paced.ret = { s.ret with
      current := if s.mode = .shift then s.ret.current.map (Record.countHolds (s.calls.list.filter s.cfg.atHold))
        else s.ret.current } := by
  rw [State.paced, (State.countDown_value _).2]
  rfl

@[simp] theorem State.rekeyed_frame :
    s.rekeyed.pending = s.pending ∧ s.rekeyed.now = s.now ∧ s.rekeyed.mode = s.mode ∧ s.rekeyed.cfg = s.cfg ∧
    s.rekeyed.pins = s.pins ∧ s.rekeyed.out = s.paced.handOn.out ∧ s.rekeyed.calls = s.paced.calls ∧
    s.rekeyed.sec = s.paced.handOn.sec ∧ s.rekeyed.table = s.paced.handOn.table ∧
    s.rekeyed.clock = s.clock ∧ s.rekeyed.pace = s.paced.handOn.pace ∧
    s.rekeyed.disp = s.paced.handOn.disp ∧ s.rekeyed.bus = s.paced.handOn.bus ∧ s.rekeyed.req = s.req ∧
    s.rekeyed.start = s.paced.handOn.start := by
  unfold State.rekeyed
  split <;> simp

theorem State.paced_currentTimes : s.paced.currentTimes = s.currentTimes := by
  apply State.currentTimes_congr <;> simp [s.paced_ret]

theorem State.rekeyed_keeps : s.paced.ret.KeptBy s.rekeyed.ret := by
  unfold State.rekeyed
  split
  · exact s.paced.handOn_keeps
  · exact s.paced.handOn_keeps.trans s.paced.handOn.rekeyTogether_keeps

/-- Outside SHIFT nothing is re-keyed (R73). -/
theorem State.rekeyed_outside (m : s.mode ≠ .shift) : s.rekeyed = s.paced.handOn := by
  have still : s.paced.handOn.rekeyTogether = s.paced.handOn := if_neg (by simpa using m)
  unfold State.rekeyed
  rw [still, ite_self]

theorem State.setMotion_moving :
    (s.setMotion .moving).sec = { s.sec with
      motion := .moving
      holdTimer := if s.sec.motion = .stopped ∧ s.out.hold = true then
        some (s.now + s.cfg.holdResponse * 1000000) else s.sec.holdTimer } := by
  unfold State.setMotion
  by_cases moving : s.sec.motion = .moving
  · have off : ¬ (s.sec.motion = .stopped ∧ s.out.hold = true) := by simp [moving]
    rw [if_pos moving, if_neg off, ← moving]
  · by_cases restarted : s.sec.motion = .stopped ∧ s.out.hold = true
    · simp [restarted, State.startHoldTimer, seconds]
    · simp [moving, restarted]

variable {s}

/-- What the hand-over of the calls leaves of the section monitor. -/
theorem State.paced_sec (ht : s.sec.times = s.currentTimes) :
    s.paced.handOn.sec = s.paced.followHold.sec ∧ s.paced.handOn.sec.motion = s.sec.motion ∧
    s.paced.handOn.sec.times = s.sec.times ∧
    s.paced.handOn.sec = { s.sec.accept s.now with
      holdTimer := s.paced.handOn.sec.holdTimer, holdFail := s.paced.handOn.sec.holdFail } := by
  have monitor : s.paced.sec = s.sec.accept s.now := by simp
  have times : s.paced.sec.times = s.paced.currentTimes := by
    rw [s.paced_currentTimes, monitor]
    exact ht
  have hand := s.paced.handOn_sec_of_times (.inl times)
  have value : s.paced.followHold.sec = { s.sec.accept s.now with
      holdTimer := s.paced.followHold.sec.holdTimer, holdFail := s.paced.followHold.sec.holdFail } := by
    rw [s.paced.followHold_sec]
    simp only [State.paced_frame]
    repeat' split
    all_goals rfl
  refine ⟨hand, ?_, ?_, by rw [hand]; exact value⟩
  · rw [hand, value]
    rfl
  · rw [hand, value]
    rfl

/-- The section monitor after an accepted pulse (R30 to R32, R34). -/
theorem State.pulse_sec {gap : Nat} (ht : s.sec.times = s.currentTimes)
    (h : ∀ l ∈ s.sec.lastPulse, l + gap * 1000 ≤ s.now) :
    (s.pulse gap).sec = { s.sec.accept s.now with
      motion := .moving
      holdFail := s.paced.followHold.sec.holdFail
      holdTimer := if s.sec.motion = .stopped ∧ s.paced.holdWanted = true then
        some (s.now + s.cfg.holdResponse * 1000000) else s.paced.followHold.sec.holdTimer } := by
  obtain ⟨hand, motion, times, value⟩ := State.paced_sec ht
  have moving := s.rekeyed.setMotion_moving
  simp only [State.rekeyed_frame, motion, State.handOn_kept] at moving
  rw [value] at moving
  have shift : s.rekeyed.ret.shift = s.ret.shift := by
    rw [s.rekeyed_keeps.1, s.paced_ret]
  have still : (s.rekeyed.setMotion .moving).handOn.sec = (s.rekeyed.setMotion .moving).sec := by
    apply State.handOn_sec_still
    · have current : (s.rekeyed.setMotion .moving).currentTimes = s.currentTimes := by
        apply State.currentTimes_congr <;> simp [shift]
      rw [current, moving, ← ht]
      rfl
    · have wanted : (s.rekeyed.setMotion .moving).holdWanted = s.paced.holdWanted := by
        apply State.holdWanted_congr <;> simp
      rw [wanted]
      simp
  rw [s.pulse_accepted h, (State.finish_blocks _).1, still, moving, hand]

end Sys2Proof.Machine
end

section
namespace Sys2Proof.Machine

variable {s : State} {gap : Nat}

/-! ## An accepted pulse as a whole (R13, R23, R24, R30 to R34) -/

/-- A zone that holds goes on holding when its calls count down (R13, R20). -/
theorem State.paced_holds (h : s.holdWanted = true) : s.paced.holdWanted = true := by
  obtain ⟨run, mirror, holder⟩ := s.holdWanted_iff.mp h
  refine s.paced.holdWanted_iff.mpr
    ⟨(State.running_congr (by simp)).trans run, (State.mirror_congr (by simp)).trans mirror, ?_⟩
  rw [s.paced_calls]
  rcases holder with ⟨x, hx, held⟩ | overflow
  · exact .inl ⟨x.advance s.cfg s.knownSecond, List.mem_map_of_mem hx, (Call.advance_holding ..).mpr (.inl held)⟩
  · exact .inr overflow

/-- The hold check of an accepted pulse: started by a hold that begins, and by a section that stood while it
held (R34). -/
theorem State.pulse_holdCheck (ht : s.sec.times = s.currentTimes)
    (h : ∀ l ∈ s.sec.lastPulse, l + gap * 1000 ≤ s.now) (ho : s.out.hold = s.holdWanted) :
    (s.pulse gap).sec.holdFail = s.sec.holdFail ∧
    (s.pulse gap).sec.holdTimer = if s.paced.holdWanted = true ∧ (s.out.hold = false ∨ s.sec.motion = .stopped) then
      some (s.now + s.cfg.holdResponse * 1000000) else s.sec.holdTimer := by
  have kept : s.out.hold = true → s.paced.holdWanted = true := by
    rw [ho]
    exact State.paced_holds
  have monitor : s.paced.followHold.sec = if s.paced.holdWanted = true ∧ s.out.hold = false ∧
      s.sec.motion ≠ .stopped then
        { s.sec.accept s.now with holdTimer := some (s.now + s.cfg.holdResponse * 1000000) }
      else s.sec.accept s.now := by
    have motion : (s.sec.accept s.now).motion = s.sec.motion := rfl
    rw [s.paced.followHold_sec]
    simp only [State.paced_frame, motion, seconds]
    cases wanted : s.paced.holdWanted <;> cases out : s.out.hold <;>
      by_cases stopped : s.sec.motion = .stopped <;> simp_all
  have accepted : (s.sec.accept s.now).holdTimer = s.sec.holdTimer ∧
      (s.sec.accept s.now).holdFail = s.sec.holdFail := ⟨rfl, rfl⟩
  rw [State.pulse_sec ht h, monitor]
  cases wanted : s.paced.holdWanted with
  | false => simp [accepted]
  | true =>
    by_cases stopped : s.sec.motion = .stopped
    · simp [accepted, stopped]
    · cases out : s.out.hold <;> simp [accepted, stopped]

theorem State.pulse_calls (h : ∀ l ∈ s.sec.lastPulse, l + gap * 1000 ≤ s.now) :
    (s.pulse gap).calls = s.paced.calls := by
  rw [s.pulse_accepted h]
  simp

/-- The retained area after an accepted pulse: record and interval alone, and outside SHIFT nothing (R24). -/
theorem State.pulse_ret (h : ∀ l ∈ s.sec.lastPulse, l + gap * 1000 ≤ s.now) :
    s.paced.ret.KeptBy (s.pulse gap).ret ∧ (s.mode ≠ .shift → (s.pulse gap).ret = s.ret) := by
  rw [s.pulse_accepted h]
  constructor
  · have last := (s.rekeyed.setMotion .moving).handOn_keeps
    simp only [State.setMotion_frame] at last
    rw [(State.finish_blocks _).2.2.2.1]
    exact s.rekeyed_keeps.trans last
  · intro m
    have paced : s.paced.ret = s.ret := by rw [s.paced_ret, if_neg m]
    have last : (s.rekeyed.setMotion .moving).ret = s.paced.handOn.ret := by
      rw [s.rekeyed_outside m]
      simp
    rw [(State.finish_ret_of_no_shift _ (by simpa using m)).1, last, State.handOn_ret, if_neg (by simp [m]), paced]

end Sys2Proof.Machine
end

section
namespace Sys2Proof.Machine

variable {s : State} {gap : Nat}

/-- What an accepted pulse leaves of the blocks that only follow it (R55, R56, R74, R129, R195). -/
theorem State.pulse_blocks (h : ∀ l ∈ s.sec.lastPulse, l + gap * 1000 ≤ s.now) :
    let u := s.pulse gap
    u.table = { s.table with own := u.table.own } ∧ u.bus = { s.bus with status := u.bus.status } ∧
    u.pace = { s.pace with downtime := u.pace.downtime } ∧
    u.start = { s.start with dormantCount := u.start.dormantCount } ∧
    u.disp.store = s.disp.store ∧ u.disp.flash = s.disp.flash ∧ s.LinkFollows u ∧
    u.out.hold = s.paced.holdWanted := by
  intro u
  have step : u = (s.rekeyed.setMotion .moving).finish := s.pulse_accepted h
  have wanted : (s.rekeyed.setMotion .moving).holdWanted = s.paced.holdWanted := by
    apply State.holdWanted_congr <;> simp
  have link := (s.rekeyed.setMotion .moving).finish_linkFollows
  rw [step]
  refine ⟨?_, ?_, ?_, ?_, by simp, by simp, ?_, by simp [wanted]⟩
  · simp [State.handOn_table]
  · simp [State.handOn_bus]
  · simp [State.handOn_pace]
  · simp [State.handOn_start]
  · simpa [State.LinkFollows, State.handOn_link] using link

/-- A hold that begins with an accepted pulse starts its alert (R22, R144). -/
theorem State.pulse_alert (h : ∀ l ∈ s.sec.lastPulse, l + gap * 1000 ≤ s.now) (ho : s.out.hold = false)
    (hw : s.paced.holdWanted = true) :
    ∃ x ∈ (s.pulse gap).ownHolder, (s.pulse gap).disp.running = some (alertRun s.cfg.zone x.kind s.now) := by
  obtain ⟨x, hx, begun, -⟩ := s.paced.finish_textFollows.2.1 ⟨by simpa using ho, hw⟩
  have holder : (s.pulse gap).ownHolder = s.paced.ownHolder := by
    rw [s.pulse_accepted h]
    apply State.ownHolder_congr <;> simp
  have running : (s.rekeyed.setMotion .moving).disp.running = some (alertRun s.cfg.zone x.kind s.now) := by
    simpa using begun
  have wanted : (s.rekeyed.setMotion .moving).holdWanted = true := by
    rw [← hw]
    apply State.holdWanted_congr <;> simp
  have run := ((State.holdWanted_iff _).mp wanted).1
  have on := (s.rekeyed.setMotion .moving).finish_textFollows.2.2 run (by simp [hw]) |>.2 _ running
  refine ⟨x, by rw [holder]; exact hx, ?_⟩
  rw [s.pulse_accepted h, ← running]
  exact on.1

/-- An accepted pulse marks STATUS where the own zone record comes out another one (R56). -/
theorem State.pulse_status (ha : s.advSampled = true) (ht : s.sec.times = s.currentTimes)
    (h : ∀ l ∈ s.sec.lastPulse, l + gap * 1000 ≤ s.now) :
    let u := s.pulse gap
    u.OwnFollows ∧ (s.OwnFollows →
      u.bus.status = if u.table.own = s.table.own then s.bus.status else s.bus.status.mark) := by
  intro u
  obtain ⟨run, mirror⟩ : s.running = true ∧ s.mirror = false := by simpa [State.advSampled] using ha
  have awake := State.awake_of_running run
  have step : u = (s.rekeyed.setMotion .moving).finish := s.pulse_accepted h
  have runV : (s.rekeyed.setMotion .moving).running = true := (State.running_congr (by simp)).trans run
  have mirrorV : (s.rekeyed.setMotion .moving).mirror = false := (State.mirror_congr (by simp)).trans mirror
  have follows : u.OwnFollows := by
    rw [step]
    exact State.finish_ownFollows _ runV mirrorV
  refine ⟨follows, fun own => ?_⟩
  have sec := State.pulse_sec ht h
  have ownU : u.table.own = u.ownRecord :=
    follows.1 (by simpa [u] using awake) ((State.mirror_congr (by simp [u])).trans mirror)
  have ownH : s.paced.handOn.table.own = s.paced.handOn.ownRecord := by
    have mirrorP : s.paced.mirror = false := (State.mirror_congr (by simp)).trans mirror
    rw [State.handOn_table]
    simp [awake, mirrorP]
  have first : s.paced.handOn.bus.status = if s.paced.handOn.table.own = s.table.own then s.bus.status
      else s.bus.status.mark := by
    have runP : s.paced.running = true := (State.running_congr (by simp)).trans run
    have mirrorP : s.paced.mirror = false := (State.mirror_congr (by simp)).trans mirror
    rw [State.handOn_bus]
    simp [runP, mirrorP]
  have second : u.bus.status = if u.table.own = s.paced.handOn.table.own then s.paced.handOn.bus.status
      else s.paced.handOn.bus.status.mark := by
    rw [step]
    simp only [State.finish_blocks]
    rw [State.handOn_bus]
    simp [runV, mirrorV]
  by_cases moving : s.sec.motion = .moving
  · have same : u.table.own = s.paced.handOn.table.own := by
      obtain ⟨hand, motion, -, value⟩ := State.paced_sec ht
      have fault : s.paced.handOn.sec.encFault = (s.sec.accept s.now).encFault := by
        rw [value]
      have area := (State.pulse_ret h).1.1
      have calls : u.calls = s.paced.calls := State.pulse_calls h
      rw [ownU, ownH]
      apply State.ownRecord_congr (by simp [u]) (by simp [u]) (by simp [calls]) (by simp [calls])
        (by rw [sec, motion, moving]) (by rw [sec, fault]) (by rw [sec, hand]) (by simp [step]) (by simp [step])
        (by simp [u]) (by simp [step]) (by rw [area]; simp) (by rw [area]; simp)
    rw [second, if_pos same, first, same]
  · have other : u.table.own ≠ s.table.own := by
      intro e
      rw [ownU, own.1 awake mirror] at e
      have motion : u.sec.motion = s.sec.motion := congrArg OwnRecord.motion e
      rw [sec] at motion
      exact moving motion.symm
    rw [second, if_neg other, first]
    split <;> split <;> simp_all [Slot.mark_mark]

end Sys2Proof.Machine
end

section
namespace Sys2Proof.Machine

variable {s : State} {gap : Nat}

/-! ## The stop re-keyed by an accepted pulse (R15, R16, R73) -/

/-- With the derived times standing the attributor finds at the end of a command what the command left. -/
theorem State.handOn_attInputs_still (ht : s.sec.times = s.currentTimes) : s.handOn.attInputs = s.attInputs := by
  rw [State.handOn_attInputs, State.monitored_attInputs]
  rw [← (State.handOn_blocks _).2.1, s.handOn_sec_of_times (.inl ht)]
  simp

theorem Retained.closeInterval_of {x : Retained} {i : Interval} {r : Record} (hi : x.interval = some i)
    (hr : x.current = some r) : x.closeInterval.current = some (r.close_ i) := by
  rw [x.closeInterval_current.1 i hi, hr]
  rfl

/-- What an interval is charged depends of the record on its tally alone (R77). -/
theorem Record.close_tally_congr {r q : Record} (h : r.tally = q.tally) (i : Interval) :
    (r.close_ i).tally = (q.close_ i).tally := by
  rw [(r.close_frame i).2.2.2.2.2.1, (q.close_frame i).2.2.2.2.2.1, h]

/-- The motion that an accepted pulse brings closes the open interval (R71, R73). -/
theorem State.pulse_closes (hm : s.mirror = false) (m : s.mode = .shift)
    (h : ∀ l ∈ s.sec.lastPulse, l + gap * 1000 ≤ s.now) (ht : s.sec.times = s.currentTimes) :
    (s.pulse gap).ret.interval = none ∧ (s.pulse gap).att.cause = none ∧
    (s.pulse gap).ret.current = s.rekeyed.ret.closeInterval.current := by
  have sec := State.pulse_sec ht h
  rw [s.pulse_accepted h] at sec ⊢
  generalize hv : s.rekeyed.setMotion .moving = v at *
  have mode : v.mode = .shift := by simp [← hv, m]
  have ret : v.ret = s.rekeyed.ret := by simp [← hv]
  have mirror : v.finish.mirror = false := (State.mirror_congr (by simp [← hv])).trans hm
  have motion : v.finish.attInputs.motion ≠ .stopped := by
    show v.finish.ownMotion ≠ .stopped
    rw [State.ownMotion, if_neg (by simp [mirror]), sec]
    simp
  obtain ⟨cause, key⟩ := v.finish_cause.1 mode
  rw [evaluate, if_pos (.inl motion)] at cause
  rw [cause, Option.map_eq_none_iff] at key
  refine ⟨key, cause, ?_⟩
  have causeH : v.handOn.att.cause = none := by simpa using cause
  rw [(State.finish_blocks _).2.2.2.1, v.handOn_ret, causeH, ret]
  split
  · rfl
  · next same =>
    have none' : s.rekeyed.ret.interval = none := by simpa [mode] using same
    rw [s.rekeyed.ret.closeInterval_current.2 none']

/-- What the attributor makes of the calls that an accepted pulse counts down. -/
theorem State.paced_attInputs (ht : s.sec.times = s.currentTimes) :
    s.paced.handOn.attInputs = (s.setCalls s.paced.calls).attInputs := by
  have monitor : s.paced.sec = s.sec.accept s.now := by simp
  have times : s.paced.sec.times = s.paced.currentTimes := by
    rw [s.paced_currentTimes, monitor]
    exact ht
  rw [State.handOn_attInputs_still times]
  apply State.attInputs_congr <;> simp [s.paced_ret]
  rfl

theorem State.paced_cause (ht : s.sec.times = s.currentTimes) (m : s.mode = .shift) :
    s.paced.handOn.att.cause = evaluate s.cfg (s.setCalls s.paced.calls).attInputs := by
  rw [State.handOn_cause, if_pos (by simpa using m), State.paced_attInputs ht]
  simp

/-- The record that a pulse in SHIFT finds, its holds counted (R24). -/
theorem State.paced_current (m : s.mode = .shift) {r : Record} (hr : s.ret.current = some r) :
    ∃ q, s.paced.ret.current = some q ∧ q.tally = r.tally := by
  refine ⟨_, ?_, (r.countHolds_kept (s.calls.list.filter s.cfg.atHold)).1⟩
  rw [s.paced_ret, hr, if_pos m]
  rfl

/-- The calls leave the key of the stop as it is (R73). -/
theorem State.rekeyed_same (follows : s.CauseFollows) (ht : s.sec.times = s.currentTimes) (m : s.mode = .shift)
    {i : Interval} (hi : s.ret.interval = some i)
    (hk : evaluate s.cfg (s.setCalls s.paced.calls).attInputs = some i.key) : s.rekeyed.ret = s.paced.ret := by
  obtain ⟨-, key⟩ := follows.1 m
  rw [hi, Option.map_some] at key
  have cause := State.paced_cause ht m
  rw [hk] at cause
  have interval : s.paced.ret.interval = some i := by rw [s.paced_ret, ← hi]
  unfold State.rekeyed
  rw [if_pos (by rw [cause, key]), State.handOn_ret, if_neg (by simp [cause, interval])]

/-- The calls re-key the stop to another key (R15, R73, R84). -/
theorem State.rekeyed_other (follows : s.CauseFollows) (ht : s.sec.times = s.currentTimes) (m : s.mode = .shift)
    {i : Interval} (hi : s.ret.interval = some i) {k : CauseKey}
    (hk : evaluate s.cfg (s.setCalls s.paced.calls).attInputs = some k) (other : k ≠ i.key) :
    s.rekeyed = s.paced.handOn.rekeyTogether ∧
    s.paced.handOn.ret = { s.paced.ret.closeInterval with interval := some ⟨k, 0, s.att.carried == some k⟩ } ∧
    s.paced.handOn.att.carried = none := by
  obtain ⟨-, key⟩ := follows.1 m
  rw [hi, Option.map_some] at key
  have cause := State.paced_cause ht m
  rw [hk] at cause
  have interval : s.paced.ret.interval = some i := by rw [s.paced_ret, ← hi]
  have shift : s.paced.mode = .shift := by simpa using m
  have changed : s.paced.ret.interval.map (fun i => i.key) ≠ s.paced.handOn.att.cause := by
    rw [cause, interval]
    simpa using other.symm
  refine ⟨if_neg ?_, ?_, State.handOn_carried _ |>.2.1 shift changed (by simp [cause])⟩
  · rw [cause, ← key]
    simpa using other
  · rw [State.handOn_ret, if_pos ⟨shift, changed⟩, cause]
    simp

end Sys2Proof.Machine
end

section
namespace Sys2Proof.Machine

variable {s : State}

/-! ## A pull or a clear key press at the moment of a pulse (R16, R19, R73, log 36) -/

/-- A call at an accepted pulse stays the call of its cord (R7, R13). -/
theorem Call.advance_frame (cfg : Cfg) (second : Option Nat) (x : Call) :
    (x.advance cfg second).station = x.station ∧ (x.advance cfg second).kind = x.kind := by
  rw [Call.advance_value]
  repeat' split
  all_goals exact ⟨rfl, rfl⟩

/-- The hold limit of a kind that has one (R189). -/
theorem Cfg.Ok.limit {cfg : Cfg} (ok : cfg.Ok) {k : CallKind} (h : k ≠ .safety) : 10 ≤ (cfg.policy k).limit := by
  obtain ⟨-, -, -, -, -, -, -, -, -, -, -, limits, -⟩ := ok
  cases k with
  | quality => exact (limits cfg.quality (by simp)).1
  | material => exact (limits cfg.material (by simp)).1
  | equipment => exact (limits cfg.equipment (by simp)).1
  | safety => exact absurd rfl h

/-- A call that begins to hold is not at its hold limit (R14). -/
theorem Call.advance_timedOut {cfg : Cfg} (ok : cfg.Ok) (second : Option Nat) {x : Call}
    (h : cfg.timedOut x = false) : cfg.timedOut (x.advance cfg second) = false := by
  rw [Call.advance_value]
  split
  · exact h
  · next standing =>
    rw [Bool.eq_false_iff, Ne, Cfg.timedOut_iff]
    rintro ⟨holding, kind, -, limit⟩
    split at holding
    · exact standing (.inl holding)
    · next near =>
      split at holding
      · exact absurd holding (by simp)
      · next signal =>
        rw [if_neg near, if_neg signal] at kind limit
        exact absurd (Nat.le_trans (ok.limit kind) limit) (by simp)

/-- A quiet board in SHIFT is quiet after the calls of a pulse have been handed on. -/
theorem State.paced_quiet (ok : s.Ok) (m : s.mode = .shift) (h : s.Quiet) : s.paced.handOn.Quiet := by
  obtain ⟨holds, entries, mirrored, clash, refresh, mark, period, silence, count, store, overtime, -⟩ := h
  have awake : s.mode.awake = true := by rw [m]; rfl
  have run : s.running = true := s.running_iff.mpr (.inr m)
  have plan : s.paced.handOn.runningPlan = s.runningPlan := by
    simp [State.runningPlan, s.paced_ret]
  refine ⟨fun _ x hx => ?_, fun _ => ?_, fun _ => ?_, fun _ => ?_, fun _ => ?_, fun _ => ?_, fun _ => ?_, fun _ => ?_,
    fun _ => ?_, fun _ => ?_, ?_, ?_⟩
  · simp only [State.handOn_frame, State.paced_frame, s.paced_calls, List.mem_map] at hx ⊢
    obtain ⟨y, hy, rfl⟩ := hx
    exact y.advance_timedOut (ok.cfgOk awake) _ (holds run y hy)
  · simpa using entries awake
  · simpa using mirrored awake
  · simpa [State.handOn_table] using clash awake
  · simpa [State.handOn_table] using refresh run
  · simpa using mark run
  · simpa [State.handOn_pace, s.paced_ret] using period run
  · simpa [State.sourceIsOther] using silence awake
  · simpa [State.handOn_pace] using count awake
  · simpa using store awake
  · have clock : s.paced.handOn.clock = s.clock ∧ s.paced.handOn.mode = s.mode := by simp
    unfold State.overtimeReached State.overtimeLimit at overtime ⊢
    rw [plan, clock.1, clock.2]
    exact overtime
  · simp [State.dormantReached, m]

/-- A board with nothing outstanding finds a command of its own moment as it stands (log 3). -/
theorem State.Quiet.begin {t : Time} (h : s.Quiet) (ht : t ≤ s.now) : s.begin_ t = s := by
  rw [State.begin_, h.settle]
  show s.setNow (max s.now t) = s
  rw [Nat.max_eq_left ht]
  rfl

theorem State.paced_counted {n : InputId} (hn : n = .clr ∨ ∃ x, n = .call x) (h : Counted s n) :
    Counted s.paced.handOn n := by
  have trackers : s.paced.calls.trackers = s.calls.trackers ∧ s.paced.calls.clr = s.calls.clr := by
    simp [s.paced_calls]
  have mirror : s.paced.handOn.mirror = s.mirror := State.mirror_congr (by simp)
  rcases hn with rfl | ⟨x, rfl⟩
  · simpa [Counted, State.sampled, State.tracker, trackers, mirror] using h
  · simpa [Counted, State.sampled, State.tracker, trackers, mirror] using h

/-- What the attributor makes of a list event at the moment of a pulse, the event taken by itself. -/
theorem State.paced_event {v w : State} (ht : s.sec.times = s.currentTimes) (hv : v = w.finish)
    (kept : w.mode = s.mode ∧ w.cfg = s.cfg ∧ w.sec = s.paced.handOn.sec ∧ w.table = s.paced.handOn.table ∧
      w.att = s.paced.handOn.att ∧ w.clock = s.clock ∧ w.ret = s.paced.handOn.ret) {c : CallUnit}
    (hl : w.calls.list = c.list) (ho : w.calls.overflow = c.overflow) :
    v.calls.list = c.list ∧ v.cfg = s.cfg ∧ v.attInputs = (s.setCalls c).attInputs := by
  obtain ⟨mode, cfg, sec, table, att, clock, ret⟩ := kept
  obtain ⟨-, motion, stands, -⟩ := State.paced_sec ht
  have shift : w.ret.shift = s.ret.shift ∧ w.ret.serial = s.ret.serial := by
    rw [ret]
    simp [s.paced_ret]
  have times : w.sec.times = w.currentTimes := by
    rw [State.currentTimes_congr mode cfg clock shift.1, sec, stands, ht]
  subst hv
  refine ⟨by simpa using hl, by simpa using cfg, ?_⟩
  rw [State.finish_attInputs, State.handOn_attInputs_still times]
  apply State.attInputs_congr (s := s.setCalls c) mode cfg hl ho
  · rw [sec, motion]
    rfl
  · simp [table]
  · simp [table]
  · simp [table]
  · simp [table]
  · simp [att]
  · exact clock
  · exact shift.1
  · exact shift.2

end Sys2Proof.Machine
end

section
namespace Sys2Proof.Machine

variable {s : State}

/-- A counted input that waits at the moment of a pulse, taken by the board the pulse leaves (log 36). -/
theorem State.paced_takes (ok : s.Ok) (m : s.mode = .shift) (quiet : s.Quiet) {t : Time} (ht : t ≤ s.now)
    {n : InputId} (hn : n = .clr ∨ ∃ x, n = .call x) (hc : Counted s n) (x y : Bool) :
    s.paced.handOn.takeListEvent (.qualifyTimeExpiry t n x y) =
      (s.paced.handOn.setTracker n ⟨.taken, some s.now⟩).counted n (shiftCode x y) := by
  have found : s.paced.handOn.begin_ t = s.paced.handOn :=
    (State.paced_quiet ok m quiet).begin (by simpa using ht)
  have counted : Counted (s.paced.handOn.begin_ t) n := by
    rw [found]
    exact State.paced_counted hn hc
  have ran := exec_counted (c0 := x) (c1 := y) counted
  have now : s.paced.handOn.now = s.now := by simp
  rw [found, now] at ran
  rcases hn with rfl | ⟨k, rfl⟩
  all_goals exact congrArg s.paced.handOn.orNext ran

/-- What the tracker of a call input or of the clear key leaves of the board a pulse leaves. -/
theorem State.paced_tracker {n : InputId} (hn : n = .clr ∨ ∃ x, n = .call x) (x : Tracker) :
    let w := s.paced.handOn.setTracker n x
    w.calls.list = s.paced.calls.list ∧ w.calls.overflow = s.paced.calls.overflow ∧ w.cfg = s.cfg ∧
    w.mode = s.mode ∧ w.sec = s.paced.handOn.sec ∧ w.table = s.paced.handOn.table ∧
    w.att = s.paced.handOn.att ∧ w.clock = s.clock ∧ w.ret = s.paced.handOn.ret := by
  have clock : (s.paced.handOn.setTracker n x).clock = s.paced.handOn.clock := by
    rcases hn with rfl | ⟨k, rfl⟩
    all_goals rfl
  obtain ⟨list, overflow, -⟩ := s.paced.handOn.setTracker_calls n x
  refine ⟨by simp [list], by simp [overflow], by simp, by simp, by simp, by simp, by simp, by simp [clock], by simp⟩

/-- A pull that resolves a call which has just reached its hold point (R12, R16). -/
theorem State.paced_pull (ok : s.Ok) (m : s.mode = .shift) (quiet : s.Quiet) {t : Time} (ht : t ≤ s.now)
    {n : Fin 20} (hc : Counted s (.call n)) {cord : Cord} (hn : s.cfg.cord n = some cord) {z : Call}
    (hz : s.calls.find cord = some z) (reaches : s.cfg.atHold z = true)
    (hp : (s.cfg.policy cord.kind).policy ≠ .off) (x y : Bool) :
    let v := s.paced.handOn.takeListEvent (.qualifyTimeExpiry t (.call n) x y)
    let calls := { s.paced.calls with list := s.paced.calls.list.filter (fun w =>
      ¬ (w.station = cord.station ∧ w.kind = cord.kind)) }
    v.calls.list.length < s.paced.calls.list.length ∧ v.cfg = s.cfg ∧
    v.attInputs = (s.setCalls calls).attInputs := by
  intro v calls
  have run : s.running = true := s.running_iff.mpr (.inr m)
  have awake : s.mode.awake = true := State.awake_of_running run
  have search : s.calls.list.find? (fun x => x.isOf cord) = some z := hz
  have member : z ∈ s.calls.list := List.mem_of_find?_eq_some search
  have matched := List.find?_some search
  obtain ⟨station, kind⟩ := (z.isOf_iff cord).mp matched
  have notSafety : cord.kind ≠ .safety := by
    intro safety
    have holds := (ok.callsOk.2.2.1 z member).2.2.2.2.2.2 (kind.trans safety)
    simp [Cfg.atHold, holds] at reaches
  have listP : s.paced.calls.list = s.calls.list.map (fun x => x.advance s.cfg s.knownSecond) := by
    rw [s.paced_calls]
  have isOf (x : Call) : (x.advance s.cfg s.knownSecond).isOf cord = x.isOf cord := by
    simp [Call.isOf, Call.advance_frame]
  have standing : s.paced.calls.find cord = some (z.advance s.cfg s.knownSecond) := by
    unfold CallUnit.find at hz ⊢
    rw [listP, List.find?_map]
    simp only [Function.comp_def, isOf, hz, Option.map_some]
  have holding : (z.advance s.cfg s.knownSecond).state = .holding := (Call.advance_holding ..).mpr (.inr reaches)
  have took := State.paced_takes ok m quiet ht (.inr ⟨n, rfl⟩) hc x y
  generalize hw : s.paced.handOn.setTracker (.call n) ⟨.taken, some s.now⟩ = w at took
  have frame := s.paced_tracker (n := .call n) (.inr ⟨n, rfl⟩) ⟨.taken, some s.now⟩
  rw [hw] at frame
  obtain ⟨list, overflow, cfg, mode, sec, table, att, clock, ret⟩ := frame
  have awakeW : w.wakeIfDormant = w := State.wakeIfDormant_of_running _ ((State.running_congr mode).trans run)
  have find : w.calls.find cord = some (z.advance s.cfg s.knownSecond) := by
    unfold CallUnit.find at standing ⊢
    rw [list]
    exact standing
  have acts : v = (w.setCalls { w.calls with list := w.calls.actedOn cord (z.advance s.cfg s.knownSecond) }).finish := by
    have cordW : w.cfg.cord n = some cord := by rw [cfg]; exact hn
    have on : ¬ (w.cfg.policy cord.kind).policy = .off := by rw [cfg]; exact hp
    simp only [v, took, State.counted, cordW, if_neg on, awakeW, w.pull_acts on find]
  have acted : w.calls.actedOn cord (z.advance s.cfg s.knownSecond) = calls.list := by
    rw [CallUnit.actedOn, if_neg notSafety, if_neg (by simp [holding]), list]
  have times : s.sec.times = s.currentTimes := ok.sectionOk.2.2.2.2.2.1 run
  obtain ⟨left, cfgV, inputs⟩ := State.paced_event (c := calls) times acts
    ⟨mode, cfg, sec, table, att, clock, ret⟩ acted overflow
  refine ⟨?_, cfgV, inputs⟩
  rw [left, List.length_filter_lt_length_iff_exists]
  refine ⟨z.advance s.cfg s.knownSecond, by rw [listP]; exact List.mem_map_of_mem member, ?_⟩
  simp [Call.advance_frame, station, kind]

/-- A clear key press at the moment of a pulse (R19, R73). -/
theorem State.paced_clear (ok : s.Ok) (m : s.mode = .shift) (quiet : s.Quiet) {t : Time} (ht : t ≤ s.now)
    (hc : Counted s .clr) (hl : s.calls.list ≠ []) (x y : Bool) :
    let v := s.paced.handOn.takeListEvent (.qualifyTimeExpiry t .clr x y)
    v.calls.list.length < s.paced.calls.list.length ∧ v.cfg = s.cfg ∧
    v.attInputs = (s.setCalls { s.paced.calls with list := [], overflow := none }).attInputs := by
  intro v
  have run : s.running = true := s.running_iff.mpr (.inr m)
  have took := State.paced_takes ok m quiet ht (.inl rfl) hc x y
  have frame := s.paced_tracker (n := .clr) (.inl rfl) ⟨.taken, some s.now⟩
  generalize s.paced.handOn.setTracker .clr ⟨.taken, some s.now⟩ = w at took frame
  obtain ⟨-, -, cfg, mode, sec, table, att, clock, ret⟩ := frame
  have awakeW : w.wakeIfDormant = w := State.wakeIfDormant_of_running _ ((State.running_congr mode).trans run)
  have acts : v = w.clearZone.finish := by simp only [v, took, State.counted, awakeW]
  have times : s.sec.times = s.currentTimes := ok.sectionOk.2.2.2.2.2.1 run
  obtain ⟨left, cfgV, inputs⟩ := State.paced_event (c := { s.paced.calls with list := [], overflow := none }) times
    acts (by simp [mode, cfg, sec, table, att, clock, ret]) (by simp [State.clearZone]) (by simp [State.clearZone])
  refine ⟨?_, cfgV, inputs⟩
  rw [left, s.paced_calls]
  simpa [List.length_pos_iff] using hl

end Sys2Proof.Machine
end

section
namespace Sys2Proof.Machine

variable {s : State} {gap : Nat}

/-- A stop that is re-keyed once more before it ends, under a key that no restart carried (R71, R84). -/
theorem State.rekey_closes {own : Interval} (hi : s.ret.interval = some own) {q : Record}
    (hq : s.ret.current = some q) (hc : s.att.carried = none) (k : CauseKey) :
    (s.rekey (some k)).ret.closeInterval.current =
      some (if k = own.key then q.close_ own else (q.close_ own).close_ ⟨k, 0, false⟩) := by
  rw [(s.rekey_ret (some k)).1, hi]
  by_cases same : k = own.key
  · rw [if_pos (by simp [same]), if_pos same]
    exact Retained.closeInterval_of hi hq
  · have other : ¬ Option.map (fun i : Interval => i.key) (some own) = some k := by simpa using Ne.symm same
    rw [if_neg other, if_neg same]
    exact Retained.closeInterval_of (by simp [hc]) (Retained.closeInterval_of hi hq)

/-- The record of an accepted pulse in SHIFT where the calls leave the key of the stop as it is (R73). -/
theorem State.pulse_same_key (ha : s.advSampled = true) (ok : s.Ok) (m : s.mode = .shift)
    (h : ∀ l ∈ s.sec.lastPulse, l + gap * 1000 ≤ s.now) {i : Interval} (hi : s.ret.interval = some i)
    (hk : evaluate s.cfg (s.setCalls s.paced.calls).attInputs = some i.key) {r : Record}
    (hr : s.ret.current = some r) :
    ∃ q : Record, (s.pulse gap).ret.current = some q ∧ q.tally = (r.close_ i).tally := by
  obtain ⟨run, mirror⟩ : s.running = true ∧ s.mirror = false := by simpa [State.advSampled] using ha
  have times : s.sec.times = s.currentTimes := ok.sectionOk.2.2.2.2.2.1 run
  obtain ⟨q, current, tally⟩ := s.paced_current m hr
  have interval : s.paced.ret.interval = some i := by rw [s.paced_ret, ← hi]
  refine ⟨q.close_ i, ?_, Record.close_tally_congr tally i⟩
  rw [(State.pulse_closes mirror m h times).2.2, State.rekeyed_same ok.causeFollows times m hi hk]
  exact Retained.closeInterval_of interval current

/-- The record of an accepted pulse in SHIFT whose calls re-key the stop, and what list events at its moment
make of it (R15, R16, R73). -/
theorem State.pulse_other_key (ha : s.advSampled = true) (ok : s.Ok) (m : s.mode = .shift)
    (h : ∀ l ∈ s.sec.lastPulse, l + gap * 1000 ≤ s.now) {i : Interval} (hi : s.ret.interval = some i)
    {k : CauseKey} (hk : evaluate s.cfg (s.setCalls s.paced.calls).attInputs = some k) (other : k ≠ i.key)
    {r : Record} (hr : s.ret.current = some r) :
    ∃ q : Record, q.tally = (r.close_ i).tally ∧
      (s.together = [] →
        (s.pulse gap).ret.current = some (q.close_ ⟨k, 0, s.att.carried == some k⟩)) ∧
      (∀ c k', s.together = [c] →
        (s.paced.handOn.takeListEvent c).calls.list.length < s.paced.calls.list.length →
        evaluate (s.paced.handOn.takeListEvent c).cfg (s.paced.handOn.takeListEvent c).attInputs = some k' →
        (s.pulse gap).ret.current = some (if k' = k then q.close_ ⟨k, 0, s.att.carried == some k⟩
          else (q.close_ ⟨k, 0, s.att.carried == some k⟩).close_ ⟨k', 0, false⟩)) := by
  obtain ⟨run, mirror⟩ : s.running = true ∧ s.mirror = false := by simpa [State.advSampled] using ha
  have times : s.sec.times = s.currentTimes := ok.sectionOk.2.2.2.2.2.1 run
  obtain ⟨q, current, tally⟩ := s.paced_current m hr
  have interval : s.paced.ret.interval = some i := by rw [s.paced_ret, ← hi]
  obtain ⟨rekeyed, opened, carried⟩ := State.rekeyed_other ok.causeFollows times m hi hk other
  have currentH : s.paced.handOn.ret.current = some (q.close_ i) := by
    rw [opened]
    exact Retained.closeInterval_of interval current
  have intervalH : s.paced.handOn.ret.interval = some ⟨k, 0, s.att.carried == some k⟩ := by rw [opened]
  have together : s.paced.handOn.together = s.together := by simp [State.together]
  have shift : s.paced.handOn.mode = .shift := by simpa using m
  refine ⟨q.close_ i, Record.close_tally_congr tally i, fun alone => ?_, fun c k' one fewer key => ?_⟩
  · rw [(State.pulse_closes mirror m h times).2.2, rekeyed,
      State.rekeyTogether_alone _ (together.trans alone)]
    exact Retained.closeInterval_of intervalH currentH
  · have calls : s.paced.handOn.calls = s.paced.calls := by simp
    rw [(State.pulse_closes mirror m h times).2.2, rekeyed,
      State.rekeyTogether_one _ c (together.trans one) shift, calls, if_pos fewer, key]
    exact State.rekey_closes intervalH currentH carried k'

/-- The counts of the record after an accepted pulse in SHIFT: each call that begins to hold is counted (R24). -/
theorem State.pulse_counts (m : s.mode = .shift) (h : ∀ l ∈ s.sec.lastPulse, l + gap * 1000 ≤ s.now) {r : Record}
    (hr : s.ret.current = some r) :
    ∃ q, (s.pulse gap).ret.current = some q ∧ q.raised = r.raised ∧
      ((∀ k, r.holds.get k ≤ 255) → ∀ k, q.holds.get k = min 255 (r.holds.get k +
        (s.calls.list.filter (fun x => s.cfg.atHold x && x.kind = k)).length)) := by
  have kept := (State.pulse_ret h).1.2
  rw [s.paced_ret, hr, if_pos m] at kept
  obtain ⟨q, current, counts⟩ := Option.map_eq_some_iff.mp kept
  obtain ⟨raised, holds⟩ := Prod.mk.inj counts
  refine ⟨q, current, raised.trans (r.countHolds_kept _).2, fun bound k => ?_⟩
  rw [holds, Record.countHolds_holds _ r bound k, List.filter_filter]
  simp only [Bool.and_comm]

/-- The stop that the calls of an accepted pulse re-key, and that list events at its moment re-key back, as
R73 gives the record (R15, R16, R73). -/
theorem State.pulse_tally (ha : s.advSampled = true) (ok : s.Ok) (m : s.mode = .shift)
    (h : ∀ l ∈ s.sec.lastPulse, l + gap * 1000 ≤ s.now) {i : Interval} (hi : s.ret.interval = some i)
    {k : CauseKey} (hk : evaluate s.cfg (s.setCalls s.paced.calls).attInputs = some k) {r : Record}
    (hr : s.ret.current = some r) :
    ∃ q : Record, (s.pulse gap).ret.current = some q ∧
      (k = i.key → q.tally = (r.close_ i).tally) ∧
      (s.together = [] → k ≠ i.key →
        q.tally = ((r.close_ i).close_ ⟨k, 0, s.att.carried == some k⟩).tally) ∧
      (∀ c k', s.together = [c] → k ≠ i.key →
        (s.paced.handOn.takeListEvent c).calls.list.length < s.paced.calls.list.length →
        evaluate (s.paced.handOn.takeListEvent c).cfg (s.paced.handOn.takeListEvent c).attInputs = some k' →
        (k' = k → q.tally = ((r.close_ i).close_ ⟨k, 0, s.att.carried == some k⟩).tally) ∧
        (k' ≠ k → q.tally =
          (((r.close_ i).close_ ⟨k, 0, s.att.carried == some k⟩).close_ ⟨k', 0, false⟩).tally)) := by
  obtain ⟨q, current, -⟩ := State.pulse_counts m h hr
  by_cases same : k = i.key
  · obtain ⟨p, currentP, tally⟩ := State.pulse_same_key ha ok m h hi (by rw [hk, same]) hr
    obtain rfl : p = q := Option.some.inj (currentP.symm.trans current)
    exact ⟨p, current, fun _ => tally, fun _ other => absurd same other, fun _ _ _ other => absurd same other⟩
  · obtain ⟨p, tally, alone, event⟩ := State.pulse_other_key ha ok m h hi hk same hr
    have tallyOwn := Record.close_tally_congr tally ⟨k, 0, s.att.carried == some k⟩
    refine ⟨q, current, fun e => absurd e same, fun none' _ => ?_, fun c k' one _ fewer key => ?_⟩
    · obtain rfl := Option.some.inj ((alone none').symm.trans current)
      exact tallyOwn
    · obtain rfl := Option.some.inj ((event c k' one fewer key).symm.trans current)
      refine ⟨fun e => ?_, fun e => ?_⟩
      · rw [if_pos e]
        exact tallyOwn
      · rw [if_neg e]
        exact Record.close_tally_congr tallyOwn ⟨k', 0, false⟩

/-- A pull or a clear key press at the moment of a pulse, where it resolves calls (R12, R16, R19). -/
theorem State.paced_resolves (ok : s.Ok) (m : s.mode = .shift) (quiet : s.Quiet) {c : Instr} {calls : CallUnit}
    (hc : momentOf c ≤ s.now)
    (h : (∃ t n x y cord, ∃ z : Call, c = .qualifyTimeExpiry t (.call n) x y ∧
        Counted s (.call n) ∧ s.cfg.cord n = some cord ∧ s.calls.find cord = some z ∧
        s.cfg.atHold z = true ∧ (s.cfg.policy cord.kind).policy ≠ .off ∧
        calls = { s.paced.calls with list := s.paced.calls.list.filter (fun w =>
          ¬ (w.station = cord.station ∧ w.kind = cord.kind)) }) ∨
      (∃ t x y, c = .qualifyTimeExpiry t .clr x y ∧ Counted s .clr ∧ s.calls.list ≠ [] ∧
        calls = { s.paced.calls with list := [], overflow := none })) :
    let v := s.paced.handOn.takeListEvent c
    v.calls.list.length < s.paced.calls.list.length ∧ v.cfg = s.cfg ∧
    v.attInputs = (s.setCalls calls).attInputs := by
  rcases h with ⟨t, n, x, y, cord, z, rfl, counted, hn, hz, reaches, on, rfl⟩ |
    ⟨t, x, y, rfl, counted, nonempty, rfl⟩
  · exact State.paced_pull ok m quiet hc counted hn hz reaches on x y
  · exact State.paced_clear ok m quiet hc counted nonempty x y

/-- The section monitor after an accepted pulse, field by field (R30, R31, R32). -/
theorem State.pulse_monitor (ht : s.sec.times = s.currentTimes)
    (h : ∀ l ∈ s.sec.lastPulse, l + gap * 1000 ≤ s.now) :
    let u := s.pulse gap
    u.sec.lastPulse = some s.now ∧ u.sec.stopTimer = some s.now ∧ u.sec.motion = .moving ∧
    u.sec.run = min 64 (s.sec.run + 1) ∧
    u.sec.window = (s.sec.window ++ [false]).drop (s.sec.window.length + 1 - 16) ∧
    u.sec.encFault = (s.sec.encFault && u.sec.run ≠ 64) ∧
    u.sec.times = s.sec.times ∧ u.sec.gapChange = s.sec.gapChange ∧ u.sec.lastCar = s.sec.lastCar := by
  intro u
  have sec : u.sec = _ := State.pulse_sec ht h
  rw [sec]
  exact ⟨rfl, rfl, rfl, rfl, pushOutcome_value _ _, rfl, rfl, rfl, rfl⟩

/-- The call list after an accepted pulse (R13, R23). -/
theorem State.paced_calls_value :
    s.paced.calls = { s.calls with
      holdSound := if s.calls.list.any s.cfg.atHold then some (s.now + 2000000) else s.calls.holdSound
      list := s.calls.list.map (fun x =>
        if x.state = .holding ∨ x.state = .overdue then x
        else if 1 < x.remaining then { x with remaining := x.remaining - 1 }
        else if (s.cfg.policy x.kind).policy = .signal then { x with remaining := 0, state := .overdue }
        else { x with remaining := 0, state := .holding, holdStart := s.knownSecond, heldFor := 0 }) } := by
  rw [s.paced_calls]
  simp only [Call.advance_value]

end Sys2Proof.Machine

open Sys2Proof Sys2Proof.Machine

/-- Settles O38: the gap by the commands that fall together, then an accepted pulse block by block, then a
rejected one. -/
theorem advancePulseIsJudged : Obligations.AdvancePulseIsJudged := by
  intro t s b gap atHold sampled times
  have ran : exec (.advancePulse t) s = .next (b.pulse gap) := congrArg Host.Outcome.next (if_pos sampled)
  have holds : atHold = b.cfg.atHold := rfl
  clear_value atHold
  subst holds
  have gapIs : gap = b.pulseGap := rfl
  clear_value gap b
  refine ⟨?_, ?_, fun accepted => ?_, fun soon => ?_⟩
  · rw [gapIs]
    exact State.pulseGap_alone
  · intro c rest v hp hc hr kinds took changed
    rw [gapIs]
    exact State.pulseGap_of_change hp hc hr (State.takeTaktChange_of kinds took) changed
  · obtain ⟨run, mirror⟩ : b.running = true ∧ b.mirror = false := by simpa [State.advSampled] using sampled
    obtain ⟨last, stopTimer, motion, runs, window, fault, timesU, change, car⟩ :=
      State.pulse_monitor times accepted
    obtain ⟨table, bus, pace, start, store, flash, link, hold⟩ := State.pulse_blocks accepted
    obtain ⟨own, status⟩ := State.pulse_status sampled times accepted
    have callsU : (b.pulse gap).calls = b.paced.calls := State.pulse_calls accepted
    obtain ⟨⟨area, -⟩, outside⟩ := State.pulse_ret accepted
    have follows : (b.pulse gap).HoldFollows := by
      rw [b.pulse_accepted accepted]
      exact State.finish_holdFollows _
    refine ⟨b.pulse gap, ran, last, stopTimer, motion, runs, window, fault, timesU, change, car, fun out => ?_,
      callsU.trans State.paced_calls_value, fun m records r hr => ?_, outside, fun ok m _ i hi k hk r hr => ?_,
      fun out begun => ?_, follows, own, link, ?_, table, bus, status, pace, start, by simp, store, flash,
      by simp, by simp, by simp, by simp, by simp⟩
    · rw [hold]
      exact State.pulse_holdCheck times accepted out
    · obtain ⟨q, current, raised, counts⟩ := State.pulse_counts m accepted hr
      exact ⟨q, current, raised, counts (fun k => ((records.1 r hr).1.counts k).2)⟩
    · rw [callsU] at hk
      obtain ⟨q, current, same, alone, event⟩ := State.pulse_tally sampled ok m accepted hi hk hr
      obtain ⟨closed, cause, -⟩ := State.pulse_closes mirror m accepted times
      refine ⟨q, current, closed, cause, same, fun later => alone (State.together_of_later later),
        fun c rest calls hp hc hd quiet resolves other k' hk' => ?_⟩
      have took := State.paced_resolves ok m quiet hc (by rw [callsU] at resolves; exact resolves)
      exact event c k' (State.together_of_one hp hc hd) other took.1 (by rw [took.2.1, took.2.2]; exact hk')
    · exact State.pulse_alert accepted out (hold.symm.trans begun)
    · rw [area, b.paced_ret]
  · exact ⟨_, ran, State.pulse_rejected times soon⟩
end

section
namespace Sys2Proof.Machine

/-! ## What a command must leave of section monitor and mirror -/

/-- The bus controller of a board that neither sends nor has anything to send (R156, R166). -/
def Bus.Silent (x : Bus) : Prop :=
  x.tx = none ∧ x.jam = none ∧ x.backoff = none ∧ x.trouble = false ∧
  x.reply.state = .empty ∧ x.status.state = .empty ∧ x.count.state = .empty ∧ x.time.state = .empty

/-- The call unit of a board that neither calls nor sounds (R23, R166). -/
def CallUnit.Silent (c : CallUnit) : Prop :=
  c.list = [] ∧ c.overflow = none ∧ c.holdSound = none ∧ c.chirp = none

/-- The laws of the section monitor and of a mirror board together. -/
structure State.MotionSide (s : State) : Prop where
  sectionOk : s.SectionOk
  mirrorQuiet : s.MirrorQuiet

/-- What the end of a command needs to leave these laws. -/
structure State.MotionReady (s : State) : Prop where
  section_ : s.SectionReady
  mirror : s.MirrorReady

section Rules

variable {s u : State}

theorem State.Ok.motionSide (h : s.Ok) : s.MotionSide := ⟨h.sectionOk, h.mirrorQuiet⟩

/-- Where the laws hold, the next command finds what it needs. -/
theorem State.MotionSide.ready (h : s.MotionSide) : s.MotionReady where
  section_ := by
    obtain ⟨h1, h2, h3, h4, h5, -, h7⟩ := h.sectionOk
    exact ⟨h1, h2, h3, h4, h5, h7⟩
  mirror := by
    intro hm
    obtain ⟨-, -, -, -, -, times, -⟩ := h.sectionOk
    obtain ⟨b1, b2, b3, b4, b5, b6, b7, b8, b9, c1, c2, c3, c4, -, -, m1, m2, m3, m4, z, o, a⟩ :=
      h.mirrorQuiet hm
    exact ⟨⟨b1, b2, b3, b4, b5, b6, b7, b8, b9⟩, ⟨c1, c2, c3, c4⟩, ⟨m1, m2, m3, m4⟩, z, o, a, times⟩

theorem State.MotionReady.finish (h : s.MotionReady) : s.finish.MotionSide :=
  ⟨State.Ready.finish_sectionOk h.section_, h.mirror.finish⟩

/-- The section monitor's laws depend on these fields alone. -/
theorem State.SectionReady.of_fields (h : s.SectionReady) (hs : u.sec = s.sec) (ho : u.out.hold = s.out.hold)
    (hr : u.running = s.running) (hc : u.cfg = s.cfg) : u.SectionReady := by
  have adv : u.advSampled = s.advSampled := by
    simp only [State.advSampled, hr, State.mirror_congr hc]
  unfold State.SectionReady
  rwa [hs, ho, adv]

/-- On a board that is no mirror the section monitor is all there is to keep. -/
theorem State.MotionReady.of_section (h : s.SectionReady) (hm : s.mirror = false) : s.MotionReady :=
  ⟨h, fun k => absurd (hm.symm.trans k) (by simp)⟩

/-- Both depend on these fields alone: the derived times of a mirror are those of the default takt (R39). -/
theorem State.MotionReady.congr (h : s.MotionReady) (hr : u.running = s.running) (hc : u.cfg = s.cfg)
    (hs : u.sec = s.sec) (ho : u.out.hold = s.out.hold) (hl : s.calls.Silent → u.calls.Silent)
    (hb : s.bus.Silent → u.bus.Silent) (hw : u.req.waiting = s.req.waiting)
    (hz : u.table.clash = s.table.clash) (hn : u.table.own = s.table.own)
    (ha : u.clock.authority = s.clock.authority) : u.MotionReady where
  section_ := h.section_.of_fields hs ho hr hc
  mirror := by
    intro hm
    have mirror : s.mirror = true := (State.mirror_congr hc).symm.trans hm
    obtain ⟨⟨b1, b2, b3, b4, b5, b6, b7, b8, b9⟩, calls, rest⟩ := h.mirror mirror
    obtain ⟨c1, c2, c3, c4, c5, c6, c7, c8⟩ := hb ⟨b1, b2, b3, b4, b5, b6, b7, b8⟩
    rw [hs, hw, hz, hn, ha, hr, State.currentTimes_of_mirror hc mirror]
    exact ⟨⟨c1, c2, c3, c4, c5, c6, c7, c8, b9⟩, hl calls, rest⟩

/-- The same of the laws themselves, with the outputs and the derived times. -/
theorem State.MotionSide.congr (h : s.MotionSide) (hr : u.running = s.running) (hc : u.cfg = s.cfg)
    (ht : u.currentTimes = s.currentTimes) (hs : u.sec = s.sec) (ho : u.out = s.out)
    (hl : s.calls.Silent → u.calls.Silent) (hb : s.bus.Silent → u.bus.Silent)
    (hw : u.req.waiting = s.req.waiting) (hz : u.table.clash = s.table.clash)
    (hn : u.table.own = s.table.own) (ha : u.clock.authority = s.clock.authority) : u.MotionSide where
  sectionOk := by
    obtain ⟨h1, h2, h3, h4, h5, h6, h7⟩ := h.sectionOk
    obtain ⟨g1, g2, g3, g4, g5, g7⟩ :=
      State.SectionReady.of_fields (s := s) (u := u) ⟨h1, h2, h3, h4, h5, h7⟩ hs (by rw [ho]) hr hc
    exact ⟨g1, g2, g3, g4, g5, by rwa [hr, hs, ht], g7⟩
  mirrorQuiet := by
    intro hm
    obtain ⟨b1, b2, b3, b4, b5, b6, b7, b8, b9, c1, c2, c3, c4, rest⟩ :=
      h.mirrorQuiet ((State.mirror_congr hc).symm.trans hm)
    obtain ⟨d1, d2, d3, d4, d5, d6, d7, d8⟩ := hb ⟨b1, b2, b3, b4, b5, b6, b7, b8⟩
    obtain ⟨e1, e2, e3, e4⟩ := hl ⟨c1, c2, c3, c4⟩
    rw [hs, hw, hz, hn, ha, ho]
    exact ⟨d1, d2, d3, d4, d5, d6, d7, d8, b9, e1, e2, e3, e4, rest⟩

/-- A mark leaves a mirror alone, and every other board's section monitor (R156). -/
theorem State.MotionReady.mark (h : s.MotionReady) (i : SlotId) : (s.mark i).MotionReady := by
  cases hm : s.mirror with
  | true =>
    have still : s.mark i = s := by simp [s.mark_value i, hm]
    rwa [still]
  | false =>
    refine .of_section (h.section_.congr ?_ ?_ ?_ ?_) ((State.mirror_congr ?_).trans hm) <;> simp

theorem State.MotionReady.markTime (h : s.MotionReady) : s.markTime.MotionReady := by
  have counted : (s.setClock { s.clock with markCount := 0 }).MotionReady :=
    h.congr rfl rfl rfl rfl id id rfl rfl rfl rfl
  exact counted.mark .time

/-- Handing on keeps what it needs itself: the redraw behind it moves nothing of it. -/
theorem State.MotionReady.handOn (h : s.MotionReady) : s.handOn.MotionReady := by
  have run : s.handOn.running = s.finish.running := State.running_congr (by simp)
  apply h.finish.ready.congr run <;> simp

/-- A redraw leaves the laws as they were: nothing sounds on a mirror (R23). -/
theorem State.MotionSide.redraw (h : s.MotionSide) : s.redraw.MotionSide where
  sectionOk := by
    obtain ⟨h1, h2, h3, h4, h5, h6, h7⟩ := h.sectionOk
    have times : s.redraw.currentTimes = s.currentTimes := by apply State.currentTimes_congr <;> simp
    have run : s.redraw.running = s.running := State.running_congr (by simp)
    obtain ⟨g1, g2, g3, g4, g5, g7⟩ :=
      State.SectionReady.of_fields (s := s) (u := s.redraw) ⟨h1, h2, h3, h4, h5, h7⟩ (by simp) (by simp) run
        (by simp)
    exact ⟨g1, g2, g3, g4, g5, by simpa [run, times] using h6, g7⟩
  mirrorQuiet := by
    intro hm
    obtain ⟨b1, b2, b3, b4, b5, b6, b7, b8, b9, c1, c2, c3, c4, hold, -, rest⟩ :=
      h.mirrorQuiet ((State.mirror_congr (by simp)).symm.trans hm)
    have horn : s.redraw.out.horn = false := by
      rw [s.redraw_value.2.2]
      simp [State.dispInputs, CallUnit.hornRequested, c1, c2, c3, c4]
    simp only [State.redraw_frame, State.redraw_kept]
    exact ⟨b1, b2, b3, b4, b5, b6, b7, b8, b9, c1, c2, c3, c4, hold, horn, rest⟩

end Rules

end Sys2Proof.Machine
end

section
namespace Sys2Proof.Machine

variable {s : State}

/-! ## Boundaries -/

/-- A boundary forgets car-out edge and recorded times, and marks COUNT of no mirror (R25, R37). -/
theorem State.MotionReady.boundary (h : s.MotionReady) (hr : s.running = true) (shift serial : Nat) :
    (s.boundary shift serial).MotionReady := by
  obtain ⟨-, calls, sec, table, -, -⟩ := s.boundary_blocks shift serial
  have run : (s.boundary shift serial).running = s.running := by rw [hr]; exact s.boundary_runs shift serial
  have cfg : (s.boundary shift serial).cfg = s.cfg := by simp
  have forgotten : (s.setSec { s.sec with lastCar := none }).SectionReady := h.section_
  refine ⟨forgotten.of_fields sec (by simp) run cfg, fun hm => ?_⟩
  have mirror : s.mirror = true := (State.mirror_congr cfg).symm.trans hm
  obtain ⟨bus, ⟨c1, c2, c3, c4⟩, rest⟩ := h.mirror mirror
  have clock : (s.boundary shift serial).clock = s.clock := by simp
  have req : (s.boundary shift serial).req = s.req := by simp
  rw [(s.boundary_pace shift serial).1, if_pos (.inr mirror), calls, sec, table, run,
    State.currentTimes_of_mirror cfg mirror, clock, req]
  exact ⟨bus, ⟨by simp [CallUnit.forgetTimes, c1], by simp [CallUnit.forgetTimes, c2], c3, c4⟩, rest⟩

/-- A running board with a checked configuration, its section monitor and mirror laws kept. -/
structure State.Steady (s : State) : Prop where
  runs : s.running = true
  cfgOk : s.cfg.Ok
  ready : s.MotionReady

theorem State.Steady.boundary (h : s.Steady) (shift serial : Nat) : (s.boundary shift serial).Steady :=
  ⟨s.boundary_runs shift serial, by simpa using h.cfgOk, h.ready.boundary h.runs shift serial⟩

/-- A change of the clock that gives no authority. -/
theorem State.Steady.setClock (h : s.Steady) {c : Clock} (hc : c.authority = s.clock.authority) :
    (s.setClock c).Steady :=
  ⟨h.runs, h.cfgOk, h.ready.congr rfl rfl rfl rfl id id rfl rfl rfl hc⟩

/-- A board with the reference role is no mirror, so authority disturbs nothing (R189). -/
theorem State.Steady.setClock_reference (h : s.Steady) (c : Clock) (hr : s.cfg.roles.reference = true) :
    (s.setClock c).Steady := by
  obtain ⟨-, -, -, -, -, -, coherent, -⟩ := h.cfgOk
  exact ⟨h.runs, h.cfgOk, .of_section (h.ready.section_.congr rfl rfl rfl rfl)
    (by simpa [Roles.coherent, hr, State.mirror] using coherent)⟩

theorem State.Steady.markTime (h : s.Steady) : s.markTime.Steady :=
  ⟨(State.running_congr (by simp)).trans h.runs, by simpa using h.cfgOk, h.ready.markTime⟩

theorem State.Steady.evalPeak (h : s.Steady) : s.evalPeak.Steady := by
  have run : s.evalPeak.running = s.running := State.running_congr (by simp)
  exact ⟨run.trans h.runs, by simpa using h.cfgOk, by apply h.ready.congr run <;> simp⟩

theorem State.Steady.handOn (h : s.Steady) : s.handOn.Steady :=
  ⟨(State.running_congr (by simp)).trans h.runs, by simpa using h.cfgOk, h.ready.handOn⟩

theorem State.Steady.endOvertime (h : s.Steady) : s.endOvertime.Steady := by
  have crossed := (h.setClock (c := { s.clock with s := 0, pause := 0 }) rfl).boundary 0
    (nextSerial s.ret.serial)
  unfold State.endOvertime
  dsimp only
  split
  · exact crossed.markTime
  · exact crossed

theorem State.Steady.checkOvertime (h : s.Steady) : s.checkOvertime.Steady := by
  unfold State.checkOvertime
  split
  · exact h.handOn.endOvertime
  · exact h

theorem State.Steady.gainAuthority (h : s.Steady) : s.gainAuthority.Steady := by
  unfold State.gainAuthority
  split
  · next hg => exact h.setClock_reference _ hg.1
  · exact h

theorem Clock.follow_authority (c : Clock) (m : Nat) : (c.follow m).authority = c.authority := by
  unfold Clock.follow
  repeat' split
  all_goals rfl

/-- Whatever a TIME MARK brings (R97 to R100). -/
theorem State.Steady.judgeMark (h : s.Steady) (sender shift serial second : Nat) :
    (s.judgeMark sender shift serial second).Steady := by
  have cross : (s.adoptBoundary sender shift serial second).Steady :=
    ((h.setClock (by rfl)).gainAuthority.boundary shift serial).checkOvertime
  have same : (s.adoptSame sender second).Steady := by
    have adopted (m : Nat) : (s.setClock ((s.clock.follow m).heed sender)).gainAuthority.Steady :=
      (h.setClock (c := (s.clock.follow m).heed sender) (s.clock.follow_authority m)).gainAuthority
    unfold State.adoptSame
    dsimp only
    generalize (if s.ret.shift = 0 then 0 else second) = m
    refine State.Steady.checkOvertime ?_
    split
    · exact (adopted m).evalPeak
    · exact adopted m
  unfold State.judgeMark
  dsimp only
  repeat' split
  all_goals assumption

end Sys2Proof.Machine
end

section
namespace Sys2Proof.Machine

variable {s b v : State}

/-! ## Own shift inputs, pulls and the clear key -/

theorem State.Steady.finish (h : s.Steady) : s.finish.MotionSide := h.ready.finish

theorem State.Steady.ownBoundary (h : s.Steady) (hr : s.cfg.roles.reference = true) (shift serial : Nat) :
    (s.ownBoundary shift serial).Steady :=
  ((h.setClock_reference _ hr).boundary shift serial).markTime

theorem State.Steady.shiftStart (h : s.Steady) (hr : s.cfg.roles.reference = true) (code : Nat) :
    (s.shiftStart code).Steady := by
  rw [s.shiftStart_steps]
  exact h.ownBoundary hr _ _

theorem State.Steady.shiftEnd (h : s.Steady) (hr : s.cfg.roles.reference = true) : s.shiftEnd.Steady := by
  cases hs : s.ret.serial with
  | none => rwa [s.shiftEnd_without_serial hs]
  | some x =>
    rw [s.shiftEnd_steps hs]
    split
    · exact h.setClock_reference _ hr
    · exact h.ownBoundary hr _ _

theorem State.Steady.clearZone (h : s.Steady) : s.clearZone.Steady :=
  ⟨h.runs, h.cfgOk, h.ready.congr rfl rfl rfl rfl (fun _ => ⟨rfl, rfl, rfl, rfl⟩) id rfl rfl rfl rfl⟩

/-- A pull moves nothing of the section monitor; a mirror samples none (R3). -/
theorem State.Steady.pull (h : s.Steady) (hm : s.mirror = false) (cord : Cord) : (s.pull cord).Steady := by
  refine ⟨(State.running_congr (by simp)).trans h.runs, by simpa using h.cfgOk, ?_⟩
  refine .of_section ?_ ((State.mirror_congr (by simp)).trans hm)
  apply h.ready.section_.congr <;> simp

/-! ## Taking up work (R40, R192, R196) -/

theorem State.MotionReady.takeUpWork (h : s.takenUp.MotionReady) : s.takeUpWork.MotionReady := by
  have status := h.mark .status
  rw [s.takeUpWork_steps]
  dsimp only
  split
  · have period (x : Pace) : ((s.takenUp.mark .status).setPace x).MotionReady :=
      status.congr rfl rfl rfl rfl id id rfl rfl rfl rfl
    exact (period _).mark .count
  · exact status

/-- A wake leaves the laws: the motion is UNKNOWN with its timer running where ADV is sampled (R40). -/
theorem State.MotionReady.wake (h : s.MotionReady) : s.wake.MotionSide := by
  have taken : s.roused.takenUp.MotionReady := by
    obtain ⟨h1, h2, h3, -, -, h6⟩ := h.section_
    refine ⟨⟨h1, h2, h3, fun k => absurd k (by simp [State.takenUp]), fun ha _ => ?_, h6⟩, fun hm => ?_⟩
    · have sampled : s.roused.advSampled = true := ha
      simp [State.takenUp, sampled]
    · obtain ⟨bus, calls, ⟨-, window, fault, fail⟩, clash, own, authority, -⟩ := h.mirror hm
      exact ⟨bus, calls, ⟨rfl, window, fault, fail⟩, clash, own, authority, fun _ => rfl⟩
  have work := taken.takeUpWork
  rw [s.wake_steps]
  unfold State.waking
  split
  · exact work.markTime.finish
  · exact work.finish

/-- A local input on an awake board finds it running: at once, or woken (R3, R196). -/
theorem State.MotionReady.wakeIfDormant (h : s.MotionReady) (ha : s.mode.awake = true) (hk : s.cfg.Ok) :
    s.wakeIfDormant.Steady := by
  unfold State.wakeIfDormant
  split
  · refine ⟨?_, by simpa using hk, h.wake.ready⟩
    rw [State.running, s.wake_value.1]
    rfl
  · next m => exact ⟨(s.running_of_awake ha).mpr m, hk, h⟩

theorem State.MotionSide.setTracker (h : s.MotionSide) (i : InputId) (x : Tracker) :
    (s.setTracker i x).MotionSide := by
  cases i <;> exact h.congr rfl rfl rfl rfl rfl id id rfl rfl rfl rfl

/-- A counted pull, press or pulse (R3, R4, R92). -/
theorem State.Ok.counted_motionSide (h : b.Ok) {i : InputId} (hs : b.sampled i = true) (x : Tracker) (code : Nat) :
    ((b.setTracker i x).counted i code).MotionSide := by
  have awake := State.awake_of_sampled hs
  have side := h.motionSide.setTracker i x
  have cfg : (b.setTracker i x).cfg = b.cfg := by simp
  have woken := side.ready.wakeIfDormant (by simpa using awake) (by simpa using h.cfgOk awake)
  cases i with
  | clr => exact woken.clearZone.finish
  | shst =>
    refine (woken.shiftStart ?_ code).finish
    simpa using State.reference_of_shst hs
  | shend =>
    refine (woken.shiftEnd ?_).finish
    simpa using State.reference_of_shend hs
  | call n =>
    unfold State.counted
    dsimp only
    split
    · exact side
    · split
      · exact side
      · refine (woken.pull ?_ _).finish
        rw [State.mirror_congr (s := b) (by simp)]
        exact b.mirror_of_sampled hs

end Sys2Proof.Machine
end

section
namespace Sys2Proof.Machine

variable {s b u v : State}

/-! ## What most commands change -/

/-- A command with a condition does its work or finds the board as it was. -/
theorem State.MotionSide.ite (h : b.Ok) {g : Prop} [Decidable g] (hv : g → v.MotionSide) :
    (if g then v else b).MotionSide := by
  split
  · next hg => exact hv hg
  · exact h.motionSide

theorem State.MotionSide.of_ran (ran : (.next v : Host.Outcome State Fault Refusal) = .next u)
    (h : v.MotionSide) : u.MotionSide :=
  Host.Outcome.next.inj ran ▸ h

/-- What changes the bus alone, and leaves a silent one silent. -/
theorem State.MotionSide.setBus (h : s.MotionSide) (x : Bus) (hx : s.bus.Silent → x.Silent) :
    (s.setBus x).MotionSide :=
  h.congr rfl rfl rfl rfl rfl id hx rfl rfl rfl rfl

theorem State.MotionSide.setDisp (h : s.MotionSide) (x : Display) : (s.setDisp x).MotionSide :=
  h.congr rfl rfl rfl rfl rfl id id rfl rfl rfl rfl

/-- The end of a command of a board that is no mirror, its section monitor and hold output left alone. -/
theorem State.Ok.followed_motionSide (h : b.Ok) (hm : b.mirror = false) (hs : v.sec = b.sec)
    (ho : v.out.hold = b.out.hold) (hr : v.running = b.running) (hc : v.cfg = b.cfg) : v.finish.MotionSide :=
  State.MotionReady.finish (.of_section (h.motionSide.ready.section_.of_fields hs ho hr hc)
    ((State.mirror_congr hc).trans hm))

/-- The end of a command that may have changed table, retained area, display and pace: not the clash flag
and the own zone record. -/
theorem State.Ok.handled_motionSide (h : b.Ok) (hm : v.mode = b.mode) (hc : v.cfg = b.cfg) (hs : v.sec = b.sec)
    (ho : v.out = b.out) (hl : v.calls = b.calls) (hb : b.bus.Silent → v.bus.Silent) (hq : v.req = b.req)
    (hz : v.table.clash = b.table.clash) (hn : v.table.own = b.table.own)
    (ha : v.clock.authority = b.clock.authority) : v.finish.MotionSide :=
  (h.motionSide.ready.congr (State.running_congr hm) hc hs (by rw [ho]) (by rw [hl]; exact id) hb (by rw [hq])
    hz hn ha).finish

/-! ## Section monitor (R30 to R36) -/

/-- A window of 16 outcomes stays one (R31). -/
theorem pushOutcome_length {w : List Bool} (h : w.length ≤ 16) (x : Bool) : (pushOutcome w x).length ≤ 16 := by
  rw [pushOutcome_value, List.length_drop, List.length_append, List.length_singleton]
  omega

theorem State.mirror_of_advSampled (h : s.advSampled = true) : s.mirror = false := by
  simp only [State.advSampled, Bool.and_eq_true, Bool.not_eq_true'] at h
  exact h.2

theorem State.Ok.stopDetect_motionSide (h : b.Ok) (ha : b.advSampled = true) :
    (b.setMotion .stopped).finish.MotionSide := by
  have mirror := State.mirror_of_advSampled ha
  refine State.MotionReady.finish ?_
  unfold State.setMotion
  split
  · exact h.motionSide.ready
  · obtain ⟨h1, h2, h3, -, -, -⟩ := h.motionSide.ready.section_
    rw [if_pos rfl]
    exact .of_section ⟨h1, h2, h3, fun _ => ⟨rfl, rfl, rfl⟩, fun _ k => absurd rfl k, fun _ => ⟨rfl, rfl⟩⟩ mirror

/-- A hold check runs on a board that holds, which is no mirror, and on a section that does not stand (R34). -/
theorem State.Ok.holdResponse_motionSide (h : b.Ok) (hd : due b.sec.holdTimer b.now = true) :
    (b.setSec { b.sec with holdTimer := none, holdFail := true }).finish.MotionSide := by
  have timer : b.sec.holdTimer ≠ none := fun k => by simp [k, due] at hd
  obtain ⟨h1, h2, h3, h4, h5, h6⟩ := h.motionSide.ready.section_
  have hold : b.out.hold = true := by
    by_contra k
    exact timer (h6 (by simpa using k)).1
  have mirror : b.mirror = false := (b.holdWanted_iff.mp (h.holdFollows ▸ hold)).2.1
  exact State.MotionReady.finish (.of_section ⟨h1, h2, h3, fun m => absurd (h4 m).2.1 timer, h5,
    fun k => absurd (hold.symm.trans k) (by simp)⟩ mirror)

/-- A change of the car counter marks COUNT of no mirror (R36). -/
theorem State.MotionReady.setCar (h : s.MotionReady) (n : Nat) : (s.setCar n).MotionReady := by
  have counted (x : Retained) (y : Pace) : ((s.setRet x).setPace y).MotionReady :=
    h.congr rfl rfl rfl rfl id id rfl rfl rfl rfl
  unfold State.setCar
  split
  · exact h
  · exact (counted _ _).mark .count

theorem State.Ok.countCar_motionSide (h : b.Ok) : b.countCar.MotionSide := by
  have edge : (b.setSec { b.sec with lastCar := some b.now }).MotionReady :=
    ⟨h.motionSide.ready.section_, h.motionSide.ready.mirror⟩
  exact (edge.setCar _).finish

theorem State.Ok.pulse_motionSide (h : b.Ok) (ha : b.advSampled = true) (gap : Nat) :
    (b.pulse gap).MotionSide := by
  have mirror := State.mirror_of_advSampled ha
  obtain ⟨h1, h2, h3, h4, h5, h6⟩ := h.motionSide.ready.section_
  by_cases soon : b.sec.tooSoon gap b.now = true
  · rw [State.pulse, if_pos soon]
    refine State.MotionReady.finish (.of_section ?_ mirror)
    exact ⟨pushOutcome_length h1 true, Nat.zero_le _, fun _ => Nat.zero_lt_succ _, h4, h5, h6⟩
  · have accepted : ∀ l ∈ b.sec.lastPulse, l + gap * 1000 ≤ b.now := fun l hl => by
      by_contra early
      exact soon ((b.sec.tooSoon_iff gap b.now).mpr ⟨l, hl, Nat.not_le.mp early⟩)
    obtain ⟨-, -, -, -, -, current, -⟩ := h.sectionOk
    have times : b.sec.times = b.currentTimes := current (Bool.and_eq_true .. ▸ ha).1
    obtain ⟨-, timer, motion, run, window, fault, -⟩ := State.pulse_monitor times accepted
    obtain ⟨fail, check⟩ := State.pulse_holdCheck times accepted h.holdFollows
    obtain ⟨-, -, -, -, -, -, -, out⟩ := State.pulse_blocks accepted
    have mirrorU : (b.pulse gap).mirror = false := by
      rw [b.pulse_accepted accepted]
      exact (State.mirror_congr (by simp)).trans mirror
    have timesU : (b.pulse gap).running = true → (b.pulse gap).sec.times = (b.pulse gap).currentTimes := by
      intro run
      rw [b.pulse_accepted accepted] at run ⊢
      rw [State.finish_currentTimes, (State.finish_blocks _).1]
      exact (State.handOn_times _ (by rw [← run]; exact (State.running_congr (by simp)).symm)).1
    refine ⟨⟨?_, ?_, ?_, ?_, ?_, timesU, ?_⟩, fun k => absurd (mirrorU.symm.trans k) (by simp)⟩
    · rw [window, ← pushOutcome_value]
      exact pushOutcome_length h1 false
    · rw [run]
      exact Nat.min_le_left ..
    · intro k
      have notDone : (b.pulse gap).sec.run ≠ 64 := by
        rw [fault, Bool.and_eq_true, decide_eq_true_eq] at k
        exact k.2
      rw [run] at notDone ⊢
      omega
    · exact fun k => absurd (motion.symm.trans k) (by simp)
    · exact fun _ _ => by simp [timer]
    · intro k
      rw [out] at k
      have off : b.out.hold = false := by
        by_contra on
        have wanted := State.paced_holds (h.holdFollows ▸ (by simpa using on) : b.holdWanted = true)
        exact absurd (wanted.symm.trans k) (by simp)
      rw [check, fail, if_neg (by simp [k])]
      exact h6 off

/-! ## A second (R88) -/

theorem State.MotionReady.tallied (h : s.MotionReady) : s.tallied.MotionReady := by
  have silent : s.calls.Silent → s.tallied.calls.Silent := fun ⟨c1, c2, c3, c4⟩ => by
    rw [s.tallied_calls]
    exact ⟨by simp [c1], c2, c3, c4⟩
  refine h.congr (State.running_congr (by simp)) (by simp) (by simp) (by simp) silent (by simp) (by simp) ?_ ?_ ?_
  all_goals simp [s.tallied_table, s.tallied_marks]

theorem State.Ok.tick_motionSide (h : b.Ok) : b.tick.MotionSide := by
  have clock : b.tickClock.MotionReady := by
    apply h.motionSide.ready.congr (State.running_congr (by simp)) <;> simp [b.tickClock_clock]
  rw [b.tick_steps]
  exact clock.handOn.tallied.finish

/-! ## Start-up (R188 to R192) -/

/-- A board at rest is no mirror, and its section monitor holds the values of a start (R41). -/
theorem State.Ok.rest_motionReady (h : b.Ok) (rest : ¬ b.mode.awake = true) (hr : v.running = false)
    (hs : v.sec = b.sec) (ho : v.out.hold = b.out.hold) (hc : v.cfg = b.cfg) : v.MotionReady := by
  obtain ⟨cfg, -, sec, -⟩ := h.atRest rest
  have mirror : v.mirror = false := by
    rw [State.mirror, hc, cfg]
    rfl
  refine .of_section ?_ mirror
  have running : b.running = false := by
    by_contra k
    exact rest (State.awake_of_running (by simpa using k))
  exact h.motionSide.ready.section_.of_fields hs ho (hr.trans running.symm) hc

theorem State.Ok.halt_motionSide (h : b.Ok) (hm : b.mode = .loading) (c : HaltCode) : (b.halt c).MotionSide :=
  (h.rest_motionReady (by rw [hm]; simp [Mode.awake]) rfl rfl rfl rfl :
    ((b.setMode .halted).setStart { b.start with halt := some c, reading := false }).MotionReady).finish

/-- A board that leaves LOADING takes up its work with the values of a start (R40, R192). -/
theorem State.Ok.leaving_motionReady (h : b.Ok) (hm : b.mode = .loading) (c : Cfg) (plans : PlanStore) :
    (b.leaving c plans).takenUp.MotionReady := by
  have rest : ¬ b.mode.awake = true := by rw [hm]; simp [Mode.awake]
  obtain ⟨-, calls, sec, clock, -, bus, req, table, -⟩ := h.atRest rest
  obtain ⟨-, -, clockL, callsL, secL, tableL, -, -, outL, -, busL, -⟩ := b.leaving_blocks c plans
  have reqL : (b.leaving c plans).req = ⟨none, none⟩ := by
    rw [← req]
    simp [State.leaving, State.restorePace, State.closeRetained]
  have monitor : (b.leaving c plans).sec = .initial := secL.trans sec
  refine ⟨⟨?_, ?_, ?_, fun k => absurd k (by simp [State.takenUp]), fun ha _ => ?_, fun _ => ?_⟩, fun _ => ?_⟩
  · simp [State.takenUp, monitor, SectionMonitor.initial]
  · simp [State.takenUp, monitor, SectionMonitor.initial]
  · simp [State.takenUp, monitor, SectionMonitor.initial]
  · have sampled : (b.leaving c plans).advSampled = true := ha
    simp [State.takenUp, sampled]
  · simp [State.takenUp, monitor, SectionMonitor.initial]
  · have silent : (b.leaving c plans).bus.Silent := by
      rw [busL, bus]
      exact ⟨rfl, rfl, rfl, rfl, rfl, rfl, rfl, rfl⟩
    have quiet : (b.leaving c plans).calls.Silent := by
      rw [callsL, calls]
      exact ⟨rfl, rfl, rfl, rfl⟩
    have still : (b.leaving c plans).sec.window = [] ∧ (b.leaving c plans).sec.encFault = false ∧
        (b.leaving c plans).sec.holdFail = false := by
      rw [monitor]
      exact ⟨rfl, rfl, rfl⟩
    have own : (b.leaving c plans).table.clash = false ∧ (b.leaving c plans).table.own = .initial := by
      rw [tableL, table]
      exact ⟨rfl, rfl⟩
    have authority : (b.leaving c plans).clock.authority = false := by
      rw [clockL, clock]
      rfl
    obtain ⟨b1, b2, b3, b4, b5, b6, b7, b8⟩ := silent
    have waiting : (b.leaving c plans).req.waiting = none := by rw [reqL]
    exact ⟨⟨b1, b2, b3, b4, b5, b6, b7, b8, waiting⟩, quiet, ⟨rfl, still⟩, own.1, own.2, authority, fun _ => rfl⟩

theorem State.MotionReady.beginTrackers (h : s.MotionReady) : s.beginTrackers.MotionReady :=
  h.congr rfl rfl rfl rfl id id rfl rfl rfl rfl

theorem State.Ok.readImage_motionSide (h : b.Ok) (mem : List Byte) (hm : b.mode = .loading) :
    (match imageFault mem with
      | some c => b.halt c
      | none => b.leaveLoading (cfgOf mem) (plansOf mem)).MotionSide := by
  split
  · exact h.halt_motionSide hm _
  · rw [State.leaveLoading_steps]
    exact (h.leaving_motionReady hm _ _).takeUpWork.beginTrackers.finish

/-- Every block takes the values of a start (R41, R188). -/
theorem State.enterLoading_motionSide (bpol : Bool) (link : Link) (startup : StartUp) :
    (b.enterLoading bpol link startup).MotionSide := by
  refine ⟨⟨?_, ?_, ?_, ?_, ?_, ?_, ?_⟩, fun k => absurd k (by simp [State.mirror, State.enterLoading, Cfg.blank])⟩
  all_goals simp [State.enterLoading, SectionMonitor.initial, State.running, State.advSampled, Mode.runs]

theorem State.powerOn_motionSide (bpol : Bool) : (b.powerOn bpol).MotionSide := by
  have loaded (link : Link) (startup : StartUp) : (b.enterLoading bpol link startup).MotionSide :=
    State.enterLoading_motionSide bpol link startup
  obtain ⟨section_, mirror⟩ := loaded ⟨some .dark, false, b.disp.link.shown⟩
    ⟨none, bpol, if b.start.rstw.isActive then .active b.now else .inactive, !b.start.rstw.isActive, false, 0⟩
  exact ⟨section_, mirror⟩

end Sys2Proof.Machine
end

section
namespace Sys2Proof.Machine

variable {s b v : State}

/-! ## The line (R155 to R168) -/

/-- An attempt in hand is one of a board that is no mirror (R156). -/
theorem State.Ok.mirror_of_tx (h : b.Ok) {x : Tx} (hx : b.bus.tx = some x) : b.mirror = false := by
  by_contra m
  obtain ⟨tx, -⟩ := h.mirrorQuiet (by simpa using m)
  exact absurd (hx.symm.trans tx) (by simp)

theorem State.Ok.endGap_motionSide (h : b.Ok) : (if b.gapOver then b.endGap true
    else if b.gapCutNow then b.endGap false else b).MotionSide := by
  have ended (idle : Bool) : (b.endGap idle).MotionSide :=
    h.motionSide.setBus _ fun ⟨tx, _, rest⟩ => ⟨tx, rfl, rest⟩
  split
  · exact ended true
  · exact .ite h fun _ => ended false

/-- A mirror starts no attempt (R157). -/
theorem State.Ok.startAttempt_motionSide (h : b.Ok) (i : SlotId) (f : List Byte) (hm : b.mirror = false) :
    (b.startAttempt i f).MotionSide := by
  have mirror : (b.startAttempt i f).mirror = false := (State.mirror_congr (by simp)).trans hm
  refine ⟨?_, fun k => absurd (mirror.symm.trans k) (by simp)⟩
  cases i <;> exact h.sectionOk

theorem State.Ok.transmissionStart_motionSide (h : b.Ok) :
    (match b.bus.firstPending with
    | some i =>
      match b.frameFor i with
      | some f => if b.mayTransmit then b.startAttempt i f else b
      | none => b
    | none => b).MotionSide := by
  split
  · split
    · refine .ite h fun may => h.startAttempt_motionSide _ _ ?_
      simp only [State.mayTransmit, Bool.and_eq_true, Bool.not_eq_true'] at may
      obtain ⟨⟨⟨⟨-, mirror⟩, -⟩, -⟩, -⟩ := may
      exact mirror
    · exact h.motionSide
  · exact h.motionSide

theorem State.Ok.sent_motionSide (h : b.Ok) {x : Tx} (hx : b.bus.tx = some x) : (b.sent x).MotionSide := by
  have mirror := h.mirror_of_tx hx
  unfold State.sent
  dsimp only
  split <;> exact h.followed_motionSide mirror (by simp) (by simp) (State.running_congr (by simp)) (by simp)

theorem State.Ok.collide_motionSide (h : b.Ok) {x : Tx} (hx : b.bus.tx = some x) : (b.collide x).MotionSide := by
  have mirror := h.mirror_of_tx hx
  have followed (y : Bus) (f : Requests → Requests) : ((b.setBus y).replyEnded x f).finish.MotionSide :=
    h.followed_motionSide mirror (by simp) (by simp) (State.running_congr (by simp)) (by simp)
  unfold State.collide
  dsimp only
  split
  · exact followed _ _
  · split <;> exact followed _ _

theorem State.Ok.activity_motionSide (h : b.Ok) : b.activity.MotionSide := by
  have heard (x : Bus) (hx : b.bus.Silent → x.Silent) : (b.setBus x).MotionSide := h.motionSide.setBus x hx
  have woken (x : Bus) (hx : b.bus.Silent → x.Silent) : (b.setBus x).wake.MotionSide := (heard x hx).ready.wake
  unfold State.activity
  dsimp only
  split
  · exact woken _ id
  · split
    · split
      · exact woken _ id
      · exact heard _ id
    · exact heard _ id
    · exact heard _ id

theorem State.Ok.wakeWindow_motionSide (h : b.Ok) :
    (match b.bus.wake with
    | .seen d =>
      if b.mode = Mode.dormant ∧ d ≤ b.now then b.setBus { b.bus with wake := .waiting } else b
    | .waiting => b
    | .off => b).MotionSide := by
  split
  · exact .ite h fun _ => h.motionSide.setBus _ id
  · exact h.motionSide
  · exact h.motionSide

/-! ## Display timers, sensors, inputs -/

theorem State.Ok.stepTimer_motionSide (h : b.Ok) :
    (match b.disp.running with
    | some r => if b.running && r.due ≤ b.now then (b.stepText r).redraw else b
    | none => b).MotionSide := by
  split
  · next r _ =>
    have stepped : (b.stepText r).MotionSide := by
      have times : (b.stepText r).currentTimes = b.currentTimes := by apply State.currentTimes_congr <;> simp
      apply h.motionSide.congr (State.running_congr (by simp)) (by simp) times <;> simp
    exact .ite h fun _ => stepped.redraw
  · exact h.motionSide

theorem State.MotionSide.endSound (h : s.MotionSide) (c : CallUnit) (hc : s.calls.Silent → c.Silent) :
    (s.setCalls c).redraw.MotionSide :=
  (h.congr rfl rfl rfl rfl rfl hc id rfl rfl rfl rfl : (s.setCalls c).MotionSide).redraw

theorem State.MotionSide.setStart (h : s.MotionSide) (x : StartUp) : (s.setStart x).MotionSide :=
  h.congr rfl rfl rfl rfl rfl id id rfl rfl rfl rfl

theorem State.MotionSide.setCheck (h : s.MotionSide) (x : BitVec 16) : (s.setCheck x).MotionSide :=
  h.congr rfl rfl rfl rfl rfl id id rfl rfl rfl rfl

theorem State.MotionSide.readBackChange (h : s.MotionSide) (p : Pins) (x : Attributor) :
    ((s.setPins p).setAtt x).MotionSide :=
  h.congr rfl rfl rfl rfl rfl id id rfl rfl rfl rfl

theorem State.Ok.readBackQualify_motionSide (h : b.Ok) (x : Attributor) : (b.setAtt x).finish.MotionSide :=
  h.handled_motionSide rfl rfl rfl rfl rfl id rfl rfl rfl rfl

theorem State.Ok.sensorChange_motionSide (h : b.Ok) (p : Pins) (x : Sensor) (f : Filter) :
    ((b.setPins p).setTable (b.table.setFilter x f)).MotionSide := by
  cases x <;> exact h.motionSide.congr rfl rfl rfl rfl rfl id id rfl rfl rfl rfl

theorem State.Ok.sensorQualify_motionSide (h : b.Ok) (x : Sensor) (f : Filter) :
    (b.setTable (b.table.setFilter x f)).finish.MotionSide := by
  cases x <;> exact h.handled_motionSide rfl rfl rfl rfl rfl id rfl rfl rfl rfl

theorem State.Ok.changeLevel_motionSide (h : b.Ok) (i : InputId) (level : Bool) :
    (b.changeLevel i level).MotionSide := by
  have moved : (b.setPins (b.pins.setLevel i level)).MotionSide :=
    h.motionSide.congr rfl rfl rfl rfl rfl id id rfl rfl rfl rfl
  unfold State.changeLevel
  dsimp only
  split
  · exact h.motionSide
  · split
    · exact moved.setTracker i _
    · exact moved

theorem State.Ok.qualify_motionSide (h : b.Ok) (i : InputId) (code : Nat) : (b.qualify i code).MotionSide := by
  unfold State.qualify
  dsimp only
  refine .ite h fun hg => ?_
  split
  · exact h.counted_motionSide (Bool.and_eq_true .. ▸ hg).1 _ code
  · exact h.motionSide.setTracker i _

/-! ## Frames -/

theorem State.MotionSide.endReception (h : s.MotionSide) : s.endReception.MotionSide := h.setBus _ id

theorem State.Ok.receive_motionSide (h : b.Ok) (frame : List Byte) (row : Envelope → Bool)
    {owner : Envelope → State → State}
    (ho : b.running = true → ∀ e, (owner e b.endReception).MotionSide) :
    (b.receive frame row owner).MotionSide := by
  unfold State.receive
  refine .ite h fun hg => ?_
  split
  · split
    · exact ho (Bool.and_eq_true .. ▸ hg).2 _
    · exact h.motionSide.endReception
  · exact h.motionSide.endReception

theorem State.serveMark_shift (s : State) (e : Envelope) : (s.serveMark e).ret.shift = s.ret.shift := by
  have cleared (sel : Nat) : (s.clearChanged sel).ret.shift = s.ret.shift := by
    unfold State.clearChanged
    split <;> simp
  unfold State.serveMark
  dsimp only
  split
  · simp
  · split
    · simp [cleared]
    · simp

/-- No request reaches a mirror (R165). -/
theorem State.Ok.served_motionSide (h : b.Ok) (e : Envelope) {f : Envelope → State → State}
    (hf : ∀ v, (f e v).mode = v.mode ∧ (f e v).cfg = v.cfg ∧ (f e v).out = v.out ∧ (f e v).sec = v.sec ∧
      (f e v).clock = v.clock ∧ (f e v).ret.shift = v.ret.shift) :
    (State.serve f e b.endReception).MotionSide := by
  unfold State.serve
  split
  · next addressed =>
    obtain ⟨mode, cfg, out, sec, clock, shift⟩ := hf b.endReception
    have times := State.currentTimes_congr mode cfg clock shift
    have running : (f e b.endReception).running = b.endReception.running := State.running_congr mode
    have mirror : (f e b.endReception).mirror = false := by
      rw [State.mirror_congr cfg]
      simp only [State.addressed, Bool.and_eq_true, Bool.not_eq_true'] at addressed
      exact addressed.2
    obtain ⟨h1, h2, h3, h4, h5, h6, h7⟩ := h.motionSide.endReception.sectionOk
    obtain ⟨g1, g2, g3, g4, g5, g7⟩ := State.SectionReady.of_fields (s := b.endReception)
      (u := f e b.endReception) ⟨h1, h2, h3, h4, h5, h7⟩ sec (by rw [out]) running cfg
    exact ⟨⟨g1, g2, g3, g4, g5, by rwa [running, sec, times], g7⟩,
      fun k => absurd (mirror.symm.trans k) (by simp)⟩
  · exact h.motionSide.endReception

theorem State.Ok.onMessage_motionSide (h : b.Ok) (e : Envelope) : (b.endReception.onMessage e).MotionSide := by
  unfold State.onMessage
  split
  · apply h.handled_motionSide <;> simp [State.endReception, Bus.Silent]
  · exact h.motionSide.endReception

theorem State.Ok.onWithdrawal_motionSide (h : b.Ok) (e : Envelope) :
    (b.endReception.onWithdrawal e).MotionSide := by
  unfold State.onWithdrawal
  split
  · apply h.handled_motionSide <;> simp [State.endReception, Bus.Silent]
  · exact h.motionSide.endReception

theorem State.Ok.onTimeMark_motionSide (h : b.Ok) (hr : b.running = true) (e : Envelope) :
    (b.endReception.onTimeMark e).MotionSide := by
  have ended : b.endReception.Steady :=
    ⟨hr, h.cfgOk (State.awake_of_running hr), h.motionSide.endReception.ready⟩
  exact (ended.judgeMark _ _ _ _).finish

/-- A clash is none of a mirror (R51, R52). -/
theorem State.MotionReady.takeStatus (h : s.MotionReady) (e : Envelope) : (s.takeStatus e).MotionReady := by
  have table (z : ZoneTable) (hz : z.clash = s.table.clash) (hn : z.own = s.table.own) :
      (s.setTable z).MotionReady :=
    h.congr rfl rfl rfl rfl id id rfl hz hn rfl
  unfold State.takeStatus
  dsimp only
  split
  · exact h
  · split
    · exact table _ rfl rfl
    · split
      · exact table _ rfl rfl
      · next hm =>
        have mirror : s.mirror = false := by simpa using hm
        exact .of_section (h.section_.congr rfl rfl rfl rfl) mirror

theorem State.Ok.onZoneStatus_motionSide (h : b.Ok) (e : Envelope) :
    (b.endReception.onZoneStatus e).MotionSide := by
  have taken := h.motionSide.endReception.ready.takeStatus e
  refine State.MotionReady.finish ?_
  unfold State.recoverCount
  dsimp only
  split
  · exact taken.setCar _
  · exact taken

theorem State.Ok.onCount_motionSide (h : b.Ok) (e : Envelope) : (b.endReception.onCount e).MotionSide := by
  apply h.handled_motionSide <;> simp [State.endReception, Bus.Silent]

theorem State.Ok.reachPlanEnd_motionSide (h : b.Ok) : b.reachPlanEnd.MotionSide :=
  .ite h fun _ => by apply h.handled_motionSide <;> simp

/-! ## Every command -/

/-- Every command leaves the laws of section monitor and mirror, row by row of the table. -/
theorem exec_motionSide {s u : State} (h : s.Ok) (i : Instr) (ran : exec i s = .next u) : u.MotionSide := by
  have begun (t : Time) : (s.begin_ t).Ok := h.begin t
  have begunSide (t : Time) : (s.begin_ t).MotionSide := (begun t).motionSide
  cases i
  all_goals refine .of_ran ran ?_
  case powerOn t bpol => exact State.powerOn_motionSide bpol
  case restartInput t bpol => exact .ite (begun t) fun _ => State.enterLoading_motionSide bpol _ _
  case rstwRelease t => exact (begunSide t).setStart _
  case configImageRead t mem => exact .ite (begun t) fun hg => (begun t).readImage_motionSide mem hg.1
  case inputActive t x => exact (begun t).changeLevel_motionSide x true
  case inputInactive t x => exact (begun t).changeLevel_motionSide x false
  case qualifyTimeExpiry t x c0 c1 => exact (begun t).qualify_motionSide x _
  case releaseTimeExpiry t x => exact .ite (begun t) fun _ => (begunSide t).setTracker x _
  case advancePulse t => exact .ite (begun t) fun hg => (begun t).pulse_motionSide hg _
  case stopDetectExpiry t =>
    exact .ite (begun t) fun hg => (begun t).stopDetect_motionSide (Bool.and_eq_true .. ▸ hg).1
  case holdResponseExpiry t => exact .ite (begun t) (begun t).holdResponse_motionSide
  case carOutEdge t => exact .ite (begun t) fun _ => (begun t).countCar_motionSide
  case bufferSensorChange t x level =>
    dsimp only
    split
    · exact begunSide t
    · exact (begun t).sensorChange_motionSide _ x _
  case bufferSensorQualifyExpiry t x => exact .ite (begun t) fun _ => (begun t).sensorQualify_motionSide x _
  case readBackChange t level =>
    dsimp only
    split
    · exact begunSide t
    · exact (begunSide t).readBackChange _ _
  case readBackQualifyExpiry t =>
    exact .ite (begun t) fun _ => (begun t).readBackQualify_motionSide _
  case secondsExpiry t => exact .ite (begun t) fun _ => (begun t).tick_motionSide
  case holdLimitExpiry t => exact (h.atTime t).expireHolds.motionSide
  case entrySilent t => exact (h.atTime t).silenceEntries.motionSide
  case clashCountExpiry t => exact (h.atTime t).expireClash.motionSide
  case refreshCountExpiry t => exact (h.atTime t).expireRefresh.motionSide
  case markCountExpiry t => exact (h.atTime t).expireMarkCount.motionSide
  case countPeriodExpiry t => exact (h.atTime t).expirePeriod.motionSide
  case silenceCountExpiry t => exact (h.atTime t).expireSilence.motionSide
  case countSilenceExpiry t => exact (h.atTime t).expireCountSilence.motionSide
  case messageDurationExpiry t => exact (h.atTime t).expireDurations.motionSide
  case endOfPlan t => exact (h.atTime t).reachPlanEnd_motionSide
  case overtimeLimit t => exact (h.atTime t).expireOvertime.motionSide
  case dormantCountExpiry t => exact (h.atTime t).expireDormant.motionSide
  case flashPhaseChange t => exact .ite (begun t) fun _ => ((begunSide t).setDisp _).redraw
  case pictureRefresh t =>
    dsimp only
    split
    · exact begunSide t
    · exact (begunSide t).setDisp _
  case pictureSent t => exact (begunSide t).setDisp _
  case pageTimerExpiry t => exact .ite (begun t) fun _ => ((begunSide t).setDisp _).redraw
  case stepTimerExpiry t => exact (begun t).stepTimer_motionSide
  case holdSoundEnd t =>
    exact .ite (begun t) fun _ => (begunSide t).endSound _
      fun ⟨list, overflow, _, chirp⟩ => ⟨list, overflow, rfl, chirp⟩
  case raiseChirpEnd t =>
    exact .ite (begun t) fun _ => (begunSide t).endSound _
      fun ⟨list, overflow, sound, _⟩ => ⟨list, overflow, sound, rfl⟩
  case lineIdle t => exact (begun t).endGap_motionSide
  case transmissionStart t => exact (begun t).transmissionStart_motionSide
  case frameSent t =>
    split
    · next hx => exact (begun t).sent_motionSide hx
    · exact begunSide t
  case collision t =>
    split
    · next hx => exact (begun t).collide_motionSide hx
    · exact begunSide t
  case backoffEnd t =>
    exact .ite (begun t) fun _ =>
      (begunSide t).setBus _ fun ⟨tx, jam, _, rest⟩ => ⟨tx, jam, rfl, rest⟩
  case frameDropped t why => exact (begunSide t).setBus _ id
  case zoneStatus t frame => exact (begun t).receive_motionSide frame _ fun _ => (begun t).onZoneStatus_motionSide
  case timeMark t frame => exact (begun t).receive_motionSide frame _ (begun t).onTimeMark_motionSide
  case count t frame => exact (begun t).receive_motionSide frame _ fun _ => (begun t).onCount_motionSide
  case message t frame => exact (begun t).receive_motionSide frame _ fun _ => (begun t).onMessage_motionSide
  case withdrawal t frame =>
    exact (begun t).receive_motionSide frame _ fun _ => (begun t).onWithdrawal_motionSide
  case identify t frame =>
    exact (begun t).receive_motionSide frame _ fun _ e => (begun t).served_motionSide e fun v => by simp
  case readRecord t frame =>
    exact (begun t).receive_motionSide frame _ fun _ e => (begun t).served_motionSide e fun v => by simp
  case markCollected t frame =>
    exact (begun t).receive_motionSide frame _ fun _ e =>
      (begun t).served_motionSide e fun v => by simp [v.serveMark_shift]
  case badRequest t frame =>
    exact (begun t).receive_motionSide frame _ fun _ e => (begun t).served_motionSide e fun v => by simp
  case reply t frame => exact (begun t).receive_motionSide frame _ fun _ _ => (begunSide t).endReception
  case wakeActivity t => exact .ite (begun t) fun _ => (begun t).activity_motionSide
  case wakeWindowExpiry t => exact (begun t).wakeWindow_motionSide
  case lineBusy t => exact .ite (begun t) fun _ => (begunSide t).setBus _ id
  case rstwActive t =>
    dsimp only
    split
    · exact begunSide t
    · exact (begunSide t).setStart _
  case supplyDisturbance t => exact (begunSide t).setCheck _

theorem step_motionSide {s u : State} (h : s.Ok) (ran : step s = .next u) : u.MotionSide := by
  unfold step at ran
  split at ran
  · exact .of_ran ran h.motionSide
  · exact exec_motionSide (h.setPending _) _ ran

end Sys2Proof.Machine

open Sys2Proof Sys2Proof.Machine

/-- Settles O9: of every command, `exec_motionSide`. -/
theorem stepKeepsSectionMonitor : Obligations.StepKeepsSectionMonitor :=
  fun _ _ h ran => (step_motionSide h ran).sectionOk

/-- Settles O17: of every command, `exec_motionSide`. -/
theorem stepKeepsMirrorQuiet : Obligations.StepKeepsMirrorQuiet :=
  fun _ _ h ran => (step_motionSide h ran).mirrorQuiet

end

section
namespace Sys2Proof.Machine

variable (s : State)

/-! ## Stop detection and hold check (R32, R34, R35) -/

/-- The end of a command that changed the section monitor alone, on a board whose derived times and hold
output stand as they should: the monitor stays as it was set (R28, R34). -/
theorem State.finish_setSec (x : SectionMonitor) (ht : x.times = s.currentTimes) (ho : s.out.hold = s.holdWanted) :
    (s.setSec x).finish.sec = x := by
  obtain ⟨-, -, -, -, -, -, -, -, -, still, -⟩ := (s.setSec x).followedFrom_finish
  obtain ⟨-, -, -, -, same⟩ := still (.inl ht)
  exact same ho

/-- The own zone record of a running board shows its section monitor (R53, R55). -/
theorem State.finish_own_sec (hr : s.running = true) (hm : s.mirror = false) :
    s.finish.table.own.motion = s.finish.sec.motion ∧ s.finish.table.own.holdFail = s.finish.sec.holdFail := by
  rw [s.finish_own.1 (State.awake_of_running hr) hm]
  exact ⟨rfl, rfl⟩

/-- A section that comes to stand: timer stopped and hold check cancelled (R32, R34, R35). -/
theorem State.setMotion_stopped (h : s.sec.motion ≠ .stopped) :
    s.setMotion .stopped = s.setSec { s.sec with
      motion := .stopped, stopTimer := none, holdTimer := none, holdFail := false } := by
  unfold State.setMotion
  rw [if_neg h, if_pos rfl]
  rfl

/-! ## Car-out edges (R36) -/

theorem State.mark_count :
    ∃ c, s.mark .count = s.setBus { s.bus with count := c } ∧
      (s.running = true → s.mirror = false → c = s.bus.count.mark) := by
  rw [s.mark_value]
  split
  · exact ⟨_, rfl, fun _ _ => rfl⟩
  · next off => exact ⟨s.bus.count, rfl, fun hr hm => absurd ⟨hr, hm⟩ off⟩

variable {s}

/-- Everything follows a board as it follows the same board with another COUNT slot. -/
theorem State.FollowedFrom.of_count {u : State} {c : Slot} (h : (s.setBus { s.bus with count := c }).FollowedFrom u) :
    s.FollowedFrom (u.setBus { u.bus with count := s.bus.count }) := by
  obtain ⟨pending, now, mode, cfg, pins, calls, clock, req, sec, still, table, bus, readBack, ret, retStill, counts,
    check, checked, pace, store, flash, flashDue, text, link, start, dormant⟩ := h
  refine ⟨pending, now, mode, cfg, pins, calls, clock, req, sec, still, table, ?_, readBack, ret, retStill, counts,
    check, checked, pace, store, flash, flashDue, text, link, start, dormant⟩
  rw [State.setBus_bus, bus]
  rfl

/-- What the link of a later board follows from is picture and link alone (R129). -/
theorem State.linkFollows_congr {v u : State} (h : v.LinkFollows u) (hp : v.disp.picture = s.disp.picture)
    (hl : v.disp.link = s.disp.link) : s.LinkFollows u := by
  unfold State.LinkFollows at h ⊢
  rwa [hp, hl] at h

theorem State.countsCar_iff :
    s.countsCar = true ↔ s.cfg.roles.countPoint = true ∧ s.mode = .shift ∧ s.ret.car < 9999 ∧
      ∀ l ∈ s.sec.lastCar, l + s.cfg.carSpacing * 1000000 ≤ s.now := by
  unfold State.countsCar
  cases s.sec.lastCar with
  | none => simp [and_assoc]
  | some l =>
    have spaced : decide (l + seconds s.cfg.carSpacing ≤ s.now) = true ↔
        l + s.cfg.carSpacing * 1000000 ≤ s.now := decide_eq_true_iff
    simp [spaced, and_assoc]

/-- The board after a counted car-out edge, the COUNT slot apart. -/
def State.carOut (s : State) : State :=
  ((s.setSec { s.sec with lastCar := some s.now }).setRet
    { s.ret with car := s.ret.car + 1, actual := s.ret.car + 1 }).setPace { s.pace with period := 0 }

/-- A counted car-out edge: the counter is followed, and COUNT is marked on every board but a mirror. -/
theorem State.countCar_follows :
    s.carOut.FollowedFrom (s.countCar.setBus { s.countCar.bus with count := s.bus.count }) ∧
    (s.running = true → s.mirror = false → s.countCar.bus.count = s.bus.count.mark) := by
  obtain ⟨c, marked, count⟩ := s.carOut.mark_count
  have advances : s.ret.car + 1 ≠ (s.setSec { s.sec with lastCar := some s.now }).ret.car := Nat.succ_ne_self _
  have step : s.countCar = (s.carOut.setBus { s.carOut.bus with count := c }).finish := by
    rw [← marked, State.countCar, (State.setCar_value _ _).2.2 advances]
    rfl
  have follows := (s.carOut.setBus { s.carOut.bus with count := c }).followedFrom_finish
  rw [← step] at follows
  refine ⟨follows.of_count, fun hr hm => ?_⟩
  obtain ⟨-, -, -, -, -, -, -, -, -, -, -, bus, -⟩ := follows
  rw [bus]
  exact count hr hm

end Sys2Proof.Machine

open Sys2Proof Sys2Proof.Machine

/-- Settles O39: each expiry sets the section monitor, which the end of the command leaves as it was set. -/
theorem sectionTimersExpire : Obligations.SectionTimersExpire := by
  intro t d s b times hold run
  have stopped : exec (.stopDetectExpiry t) s = .next
    (if b.advSampled && due b.sec.stopDue b.now then (b.setMotion .stopped).finish else b) := rfl
  have response : exec (.holdResponseExpiry t) s = .next (if due b.sec.holdTimer b.now then
    (b.setSec { b.sec with holdTimer := none, holdFail := true }).finish else b) := rfl
  clear_value b
  refine ⟨fun mirror moves timer late => ?_, fun timer late => ?_⟩
  · set x : SectionMonitor :=
      { b.sec with motion := .stopped, stopTimer := none, holdTimer := none, holdFail := false }
    have sampled : b.advSampled = true := by simp [State.advSampled, run, mirror]
    have passed : due b.sec.stopDue b.now = true := by simpa [SectionMonitor.stopDue, timer, due, msec] using late
    have step : (if b.advSampled && due b.sec.stopDue b.now then (b.setMotion .stopped).finish else b) =
        (b.setSec x).finish := by
      rw [if_pos (by simp [sampled, passed]), b.setMotion_stopped moves]
    have sec : (b.setSec x).finish.sec = x := b.finish_setSec x times hold
    have own := ((b.setSec x).finish_own_sec run mirror).1
    exact ⟨(b.setSec x).finish, by rw [← step, ← stopped], congrArg SectionMonitor.motion sec,
      congrArg SectionMonitor.stopTimer sec, congrArg SectionMonitor.holdTimer sec,
      congrArg SectionMonitor.holdFail sec, own.trans (congrArg SectionMonitor.motion sec),
      (b.setSec x).followedFrom_finish⟩
  · set x : SectionMonitor := { b.sec with holdTimer := none, holdFail := true }
    have step : (if due b.sec.holdTimer b.now then (b.setSec x).finish else b) = (b.setSec x).finish :=
      if_pos (by simpa [timer, due] using late)
    have sec : (b.setSec x).finish.sec = x := b.finish_setSec x times hold
    have out : (b.setSec x).finish.out.hold = b.holdWanted := by
      rw [(b.setSec x).finish_holdFollows]
      apply State.holdWanted_congr <;> simp
    refine ⟨(b.setSec x).finish, by rw [← step, ← response], congrArg SectionMonitor.holdFail sec,
      congrArg SectionMonitor.holdTimer sec, fun mirror => ?_, by simp, out.trans hold.symm,
      (b.setSec x).followedFrom_finish⟩
    have own := ((b.setSec x).finish_own_sec run mirror).2
    exact own.trans (congrArg SectionMonitor.holdFail sec)

/-- Settles O40: the counter's change is what the end of the command starts from, the COUNT slot apart. -/
theorem carOutEdgeIsCounted : Obligations.CarOutEdgeIsCounted := by
  intro t s b
  have ran : exec (.carOutEdge t) s = .next (if b.countsCar then b.countCar else b) := rfl
  rw [ran]
  clear_value b
  refine ⟨fun point shift below spaced => ?_, fun off => ?_⟩
  · rw [if_pos (State.countsCar_iff.mpr ⟨point, shift, below, spaced⟩)]
    obtain ⟨follows, marked⟩ := b.countCar_follows
    have whole := follows
    obtain ⟨-, -, -, -, -, -, -, -, sec, -, -, -, -, ret, -, -, -, -, pace, -⟩ := follows
    refine ⟨b.countCar, rfl, congrArg Retained.car ret, congrArg Retained.actual ret,
      congrArg SectionMonitor.lastCar sec, congrArg Pace.period pace, marked ?_, whole⟩
    exact State.running_iff.mpr (.inr shift)
  · rw [if_neg]
    rw [State.countsCar_iff]
    rintro ⟨point, shift, below, spaced⟩
    rcases off with off | off | off | ⟨l, hl, early⟩
    · exact absurd (point.symm.trans off) (by simp)
    · exact off shift
    · exact absurd below (Nat.not_lt.mpr off)
    · exact absurd (spaced l hl) (Nat.not_le.mpr early)

end

section
namespace Sys2Proof.Machine

variable {s b : State}

/-! ## The end of a shift at its overtime limit (R90) -/

/-- What a mirror leaves nothing to mark: no counter above 0 and no authority (R36, R87, R156). -/
def State.NothingToMark (s : State) : Prop :=
  s.mirror = true → s.ret.car = 0 ∧ s.clock.authority = false

/-- A count point is no mirror (R189). -/
theorem State.Ok.mirror_of_countPoint (h : b.Ok) (ha : b.mode.awake = true)
    (hc : b.cfg.roles.countPoint = true) : b.mirror = false := by
  obtain ⟨-, -, -, -, -, -, coherent, -⟩ := h.cfgOk ha
  unfold State.mirror
  simpa [Roles.coherent, hc] using coherent

theorem State.Ok.nothingToMark (h : b.Ok) (ha : b.mode.awake = true) : b.NothingToMark := by
  intro mirror
  obtain ⟨-, -, -, pace⟩ := h.paceOk
  obtain ⟨-, -, -, -, -, uncounted⟩ := pace ha
  obtain ⟨-, -, -, -, -, authority, -⟩ := (h.ready ha).mirrorReady mirror
  have noCount : b.cfg.roles.countPoint = false := by
    by_contra point
    exact absurd (mirror.symm.trans (h.mirror_of_countPoint ha (by simpa using point))) (by simp)
  exact ⟨uncounted noCount, authority⟩

/-- The slots at the end of a shift by overtime: COUNT where the counter was above 0, TIME under authority
(R37, R90, R124). -/
theorem State.endOvertime_bus (h : s.NothingToMark) :
    s.endOvertime.bus = { s.bus with
      count := if s.ret.car = 0 then s.bus.count else s.bus.count.mark
      time := if s.clock.authority = true then s.bus.time.mark else s.bus.time } := by
  set w := s.setClock { s.clock with s := 0, pause := 0 } with hw
  obtain ⟨bus, -⟩ := w.boundary_pace 0 (nextSerial w.ret.serial)
  have run := w.boundary_runs 0 (nextSerial w.ret.serial)
  set v := w.boundary 0 (nextSerial w.ret.serial) with hv
  have clock : v.clock = { s.clock with s := 0, pause := 0 } := by simp [hv, hw]
  have mirror : v.mirror = s.mirror := State.mirror_congr (by simp [hv, hw])
  have busV : v.bus = { s.bus with count := if s.ret.car = 0 then s.bus.count else s.bus.count.mark } := by
    have same : w.ret.car = s.ret.car ∧ w.mirror = s.mirror ∧ w.bus = s.bus := ⟨rfl, rfl, rfl⟩
    obtain ⟨car, mirrorW, busW⟩ := same
    rw [bus, car, mirrorW, busW]
    by_cases zero : s.ret.car = 0
    · simp [zero]
    · have noMirror : ¬ s.mirror = true := fun m => zero (h m).1
      simp [zero, noMirror, eq_comm]
  have steps : s.endOvertime = if s.clock.authority = true then v.markTime else v := by
    have same : v.clock.authority = s.clock.authority := by rw [clock]
    rw [← same]
    rfl
  rw [steps]
  split
  · next a =>
    have noMirror : ¬ s.mirror = true := fun m => by simp [(h m).2] at a
    rw [v.markTime_bus run, mirror, if_neg noMirror, busV]
  · exact busV

/-- The retained area at the end of a shift by overtime (R80, R90, R125). -/
theorem State.endOvertime_ret :
    s.endOvertime.ret = { s.ret.cross 0 (nextSerial s.ret.serial) with car := 0, actual := 0, peak := none } := by
  have crossed := (s.setClock { s.clock with s := 0, pause := 0 }).boundary_ret 0 (nextSerial s.ret.serial)
  unfold State.endOvertime
  dsimp only
  split
  · simp only [State.markTime_frame]
    exact crossed
  · exact crossed

theorem State.endOvertime_sec : s.endOvertime.sec = { s.sec with lastCar := none } := by
  obtain ⟨-, -, crossed, -⟩ :=
    (s.setClock { s.clock with s := 0, pause := 0 }).boundary_blocks 0 (nextSerial s.ret.serial)
  unfold State.endOvertime
  dsimp only
  split
  · simp only [State.markTime_frame]
    exact crossed
  · exact crossed

/-- The end of a shift by overtime and of its command (R25, R37, R49, R80, R90, R124, R125). -/
theorem State.endOvertime_finish (h : s.NothingToMark) :
    let u := s.endOvertime.finish
    u.mode = .standby ∧
    u.clock = { s.clock with
      s := 0, pause := 0, markCount := if s.clock.authority = true then 0 else s.clock.markCount } ∧
    u.calls = s.calls.forgetTimes ∧ u.table.entries = s.table.entries.filter (fun e => e.live) ∧
    u.bus.time = (if s.clock.authority = true then s.bus.time.mark else s.bus.time) ∧ s.CounterReturns u ∧
    u.pace.source = none ∧
    u.ret = { s.ret.cross 0 (nextSerial s.ret.serial) with car := 0, actual := 0, peak := none } ∧
    s.LinkFollows u ∧ u.disp.store = s.disp.store ∧ u.req = s.req ∧ u.cfg = s.cfg ∧ u.pins = s.pins := by
  intro u
  have kept : s.endOvertime.disp = s.disp ∧ s.endOvertime.req = s.req ∧ s.endOvertime.cfg = s.cfg ∧
      s.endOvertime.pins = s.pins := by simp
  have sec := s.endOvertime_sec
  obtain ⟨mode, calls, table, clock, source, period⟩ := s.endOvertime_blocks
  have bus := State.endOvertime_bus h
  have ret := s.endOvertime_ret
  have fin : u = s.endOvertime.finish := rfl
  clear_value u
  generalize s.endOvertime = v at *
  obtain ⟨disp, req, cfg, pins⟩ := kept
  have retU : u.ret = v.ret := by
    rw [fin]
    exact (v.finish_ret_of_no_shift (by simp [mode])).1
  have link := v.finish_linkFollows
  rw [← fin] at link
  refine ⟨by simp [fin, mode], by simp [fin, clock], by simp [fin, calls], ?_, by simp [fin, v.handOn_bus, bus],
    ⟨?_, ?_, by simp [fin, v.handOn_bus, bus], ?_⟩,
    by simp [fin, v.handOn_pace, source], retU.trans ret, ?_, by simp [fin, disp], by simp [fin, req],
    by simp [fin, cfg], by simp [fin, pins]⟩
  · simp [fin, table, ZoneTable.dropSilent]
  · rw [retU, ret]
  · rw [fin, v.finish_blocks.1, v.handOn_sec, sec]
  · have pace : u.pace = v.handOn.pace := by simp [fin]
    rw [pace, v.handOn_pace]
    exact period.trans (if_congr eq_comm rfl rfl)
  · exact State.linkFollows_congr link (congrArg Display.picture disp) (congrArg Display.link disp)

end Sys2Proof.Machine

open Sys2Proof Sys2Proof.Machine

/-- Settles O37: the boundary and the TIME mark, then the end of the command. -/
theorem overtimeEndsShift : Obligations.OvertimeEndsShift := by
  intro t s b ok shift limit
  have ran : exec (.overtimeLimit t) s = .next b.expireOvertime := rfl
  clear_value b
  have awake : b.mode.awake = true := by rw [shift]; rfl
  have reached : b.overtimeReached = true := by simp [State.overtimeReached, shift, limit]
  obtain ⟨mode, clock, calls, -, time, counter, source, ret, link, store, req, cfg, pins⟩ :=
    State.endOvertime_finish (ok.nothingToMark awake)
  obtain ⟨-, gone, last, -⟩ := ok.cross_records 0 (nextSerial b.ret.serial)
  obtain ⟨number, serial, interval, -⟩ := b.ret.cross_value 0 (nextSerial b.ret.serial)
  obtain ⟨x, held⟩ := Option.ne_none_iff_exists'.mp (ok.shiftOk.serial shift)
  have step : b.expireOvertime = b.endOvertime.finish := if_pos reached
  rw [ran, step]
  refine ⟨_, rfl, mode, ?_, ?_, fun a => ⟨?_, ?_⟩, fun a => ⟨?_, ?_⟩, counter, source, link, ?_, ?_, ?_, ?_, ?_,
    store, req, cfg, pins, ?_⟩
  · rw [ret]; exact number
  · rw [ret, held]
    rw [held] at serial
    exact serial
  · rw [clock, if_pos a]
  · rw [time, if_pos a]
  · rw [clock, if_neg (by simp [a])]
  · rw [time, if_neg (by simp [a])]
  · rw [ret]; exact gone rfl
  · rw [ret]; exact interval
  · rw [ret]; exact last shift
  · rw [ret]
  · rw [ret]
  · rw [calls]
    simp [CallUnit.forgetTimes]

end

section
namespace Sys2Proof.Machine

variable {s b : State}

/-! ## The entry into DORMANT (R195) -/

/-- Handing on leaves the display of a board that does not run as it is. -/
theorem State.handOn_disp_silent (run : s.running = false) : s.handOn.disp = s.disp := by
  have wanted : s.holdWanted = false := by simp [State.holdWanted, run]
  have hold : s.followHold.disp = s.disp := by
    rw [s.followHold_disp]
    simp [State.ownHolder, wanted]
  have idle (u : State) (hm : u.mode = s.mode) : u.followText = u ∧ u.followPages = u := by
    have : u.running = false := (State.running_congr hm).trans run
    simp [State.followText, State.followPages, this]
  rw [s.handOn_of_monitored, (idle _ (by simp)).1, (idle _ (by simp)).2]
  simp [hold]

/-- A board in DORMANT shows nothing (R128). -/
theorem render_dormant {c : DispInputs} (h : c.mode = .dormant) (d : Display) : render c d = .dark := by
  simp [render, targetView, fieldView, DispInputs.lit, h, Mode.runs, Picture.dark]

theorem Slot.sleep_eq (x : Slot) :
    x.sleep = if x.state = .sending then { x with remark := false } else ⟨.empty, 0, false⟩ := by
  unfold Slot.sleep
  cases hx : x.state <;> simp [Slot.clear]

/-- The end of the command that takes a sound board to DORMANT changes nothing any more but what is shown. -/
theorem State.asleep_finish (h : b.Ok) (r : b.dormantReached = true) :
    let u := b.asleep.finish
    u.sec = b.asleep.sec ∧ u.ret = b.ret ∧ u.check = b.check ∧ u.bus = b.bus.sleep ∧
    u.start.dormantCount = 0 ∧ u.disp.running = none ∧ u.disp.pending = none ∧ u.disp.page = 1 ∧
    u.out.hold = false ∧ u.out.horn = false ∧ u.disp.picture = .dark ∧ b.LinkFollows u := by
  intro u
  obtain ⟨list, overflow⟩ := h.empty_of_dormantReached r
  have run : b.asleep.running = false := rfl
  have wanted : b.asleep.holdWanted = false := by simp [State.holdWanted, run]
  have hold : b.out.hold = false := by
    rw [h.holdFollows]
    exact State.holdWanted_of_empty _ list overflow
  obtain ⟨-, -, mode, -, -, calls, -, -, -, sec, -, bus, -, -, ret, -, check, -, -, -, -, -, text, link, -, dormant⟩ :=
    b.asleep.followedFrom_finish
  have retU : u.ret = b.ret := ret (.inl (by simp [State.asleep]))
  obtain ⟨-, -, -, -, still⟩ := sec (.inr run)
  obtain ⟨running, pending⟩ := text.1 run
  have dark : u.disp.picture = render u.dispInputs u.disp := b.asleep.finish_shown.1
  refine ⟨still (hold.trans wanted.symm), retU, check retU, ?_, ?_, running, pending, ?_, ?_, ?_, ?_, link⟩
  · rw [bus, if_pos (.inr (.inl run))]
    rfl
  · rcases dormant with count | count
    · exact count
    · exact count
  · have page : u.disp.page = b.asleep.handOn.disp.page := by simp [u]
    rw [page, State.handOn_disp_silent run]
    rfl
  · rw [b.asleep.finish_holdFollows]
    simp [State.holdWanted, State.running_congr mode, run]
  · obtain ⟨-, -, -, -, horn⟩ := b.asleep.finish_shown
    rw [horn, State.running_congr mode, run]
    rfl
  · rw [dark]
    exact render_dormant mode _

end Sys2Proof.Machine

open Sys2Proof Sys2Proof.Machine

/-- Settles O46: the blocks as the entry sets them, and a board that does not run follows with none of them. -/
theorem dormantEntry : Obligations.DormantEntry := by
  intro t s b ok standby on full
  have ran : exec (.dormantCountExpiry t) s = .next b.expireDormant := rfl
  clear_value b
  have reached := State.dormantReached_iff.mpr ⟨standby, on, full⟩
  have step : b.expireDormant = b.asleep.finish := if_pos reached
  obtain ⟨-, -, mode, cfg, pins, calls, clock, req, -, -, table, -, readBack, -, -, -, -, -, pace, store, -⟩ :=
    b.asleep.followedFrom_finish
  obtain ⟨sec, ret, check, bus, count, running, pending, page, hold, horn, dark, link⟩ :=
    State.asleep_finish ok reached
  rw [ran, step]
  generalize b.asleep.finish = u at *
  refine ⟨u, rfl, mode, count, hold, horn, dark, running, pending, page, store, ?_⟩
  rw [sec, table, readBack, bus, pace, req]
  exact ⟨rfl, rfl, rfl, rfl, rfl, rfl, rfl, rfl, rfl, rfl, rfl, rfl, rfl, rfl,
    fun i _ => (b.bus.sleep_slot i).trans (Slot.sleep_eq _), rfl, rfl, rfl, rfl, rfl, rfl, rfl, rfl, rfl, rfl, link,
    rfl, rfl, rfl, rfl, ret, check, clock, calls, pins, cfg⟩

end

section
namespace Sys2Proof.Machine

variable (s : State)

/-! ## The wake detector (R167, R196) -/

theorem State.beginsActivity_iff (m : s.mode = .dormant) :
    s.beginsActivity = true ↔ s.bus.activityReady = true ∨
      (s.bus.idle = false ∧ s.bus.tx = none ∧ s.bus.gapFrom + 192 ≤ s.now) ∨
      (s.bus.tx = none ∧ s.bus.gapCut = some s.now) := by
  have awake : Mode.dormant.awake = true := rfl
  obtain ⟨ended, cut⟩ := s.gap_iff
  simp only [State.beginsActivity, Bool.and_eq_true, Bool.or_eq_true, ended, cut, m, awake, decide_true, true_and,
    or_assoc]

/-- The board whose line a start bit has made busy in DORMANT. -/
def State.stirred (s : State) : State :=
  s.setBus { s.bus with idle := false, gapFrom := s.now + 8, activityReady := false, gapCut := none }

/-- An activity wakes the board under the single-activity form, and within the window of a first one. -/
theorem State.activity_wakes (h : s.cfg.twoActivity = false ∨ ∃ d, s.bus.wake = .seen d ∧ s.now ≤ d) :
    s.activity = s.stirred.wake := by
  unfold State.activity
  dsimp only
  split
  · rfl
  · next two =>
    rcases h with single | ⟨d, seen, within⟩
    · exact absurd single (by simpa using two)
    · have seen' : (s.setBus { s.bus with
          idle := false, gapFrom := s.now + bitTime, activityReady := false, gapCut := none }).bus.wake = .seen d :=
        seen
      rw [seen']
      exact if_pos within

theorem State.activity_waits (h : s.cfg.twoActivity = true) (hw : s.bus.wake = .waiting) :
    s.activity = s.stirred.setBus { s.stirred.bus with wake := .seen (s.now + 2000000) } := by
  have waits : s.stirred.bus.wake = .waiting := hw
  have two : (!s.stirred.cfg.twoActivity) = false := by
    have same : s.stirred.cfg.twoActivity = true := h
    simp [same]
  have steps : s.activity = if !s.stirred.cfg.twoActivity then s.stirred.wake else
      match s.stirred.bus.wake with
      | .seen d => if s.stirred.now ≤ d then s.stirred.wake else
          s.stirred.setBus { s.stirred.bus with wake := .seen (s.stirred.now + wakeWindow) }
      | .waiting => s.stirred.setBus { s.stirred.bus with wake := .seen (s.stirred.now + wakeWindow) }
      | .off => s.stirred.setBus { s.stirred.bus with wake := .seen (s.stirred.now + wakeWindow) } := rfl
  rw [steps, two, waits]
  rfl

theorem State.waking_times : s.waking.sec.times = s.waking.currentTimes := by
  obtain ⟨mode, -, -, -, cfg, -, -, -, -, -, sec, -⟩ := s.waking_value
  have roused : s.roused.cfg = s.cfg := by simp
  have taken : s.roused.takenUp.sec.times = s.roused.currentTimes := rfl
  rw [sec, taken, State.currentTimes_of_no_shift _ (by simp), State.currentTimes_of_no_shift _ (by simp [mode]), cfg,
    roused]

/-- What a wake leaves of section monitor, table and display, on a mirror too (R40, R59, R129, R152). -/
theorem State.wake_begun :
    s.wake.sec.motion = .unknown ∧ (s.mirror = false → s.wake.sec.stopTimer = some s.now) ∧
    s.wake.table = { s.table with
      starved := ⟨s.now, false⟩, blocked := ⟨s.now, false⟩, refreshCount := 0, own := s.wake.table.own } ∧
    s.wake.disp.flash = true ∧ s.wake.disp.page = 1 ∧ s.LinkFollows s.wake := by
  obtain ⟨mode, -, -, -, -, -, -, -, -, -, sec, table, disp, -⟩ := s.waking_value
  have run : s.waking.running = true := by rw [State.running, mode]; rfl
  obtain ⟨-, -, -, -, -, -, -, -, -, still, tableU, -, -, -, -, -, -, -, -, -, flash, -, -, link, -⟩ :=
    s.waking.followedFrom_finish
  obtain ⟨motion, -, -, timer, -⟩ := still (.inl s.waking_times)
  have shown : s.waking.disp.picture = s.disp.picture ∧ s.waking.disp.link = s.disp.link := by
    rw [disp]
    exact ⟨rfl, rfl⟩
  rw [s.wake_steps]
  refine ⟨by rw [motion, sec]; rfl, fun hm => ?_, ?_, by rw [flash, disp]; rfl, ?_, ?_⟩
  · have sampled : s.roused.advSampled = true := by
      have mirror : s.roused.mirror = false := hm
      have run : s.roused.running = true := rfl
      simp [State.advSampled, mirror, run]
    rw [timer, sec]
    simp [State.takenUp, sampled]
  · rw [table] at tableU
    exact tableU
  · obtain ⟨one, first, -⟩ := s.waking.finish_pages run
    by_cases pages : (s.waking.finish.stopLines.length + 2) / 3 ≤ 1
    · exact (one pages).1
    · exact (first (Nat.lt_of_not_le pages) (by rw [disp]; rfl)).1
  · exact State.linkFollows_congr link shown.1 shown.2

/-- The slots of a board that wakes, STATUS apart; nothing is marked on a mirror (R124, R168). -/
theorem State.wake_line :
    s.wake.bus.wake = .off ∧ s.wake.bus.idle = s.bus.idle ∧ s.wake.bus.armed = false ∧
    s.wake.bus.activityReady = false ∧ s.wake.bus.gapFrom = s.bus.gapFrom ∧ s.wake.bus.gapCut = s.bus.gapCut ∧
    s.wake.bus.rng = s.bus.rng ∧ s.wake.bus.tx = s.bus.tx ∧
    (s.mirror = false →
      s.wake.bus.count = (if s.marksCount then s.bus.count.mark else s.bus.count) ∧
      s.wake.bus.time = (if s.clock.authority then s.bus.time.mark else s.bus.time)) := by
  obtain ⟨-, -, -, -, -, bus⟩ := s.wake_blocks
  rw [bus]
  cases hm : s.mirror with
  | true => exact ⟨rfl, rfl, rfl, rfl, rfl, rfl, rfl, rfl, fun k => absurd k (by simp)⟩
  | false => exact ⟨rfl, rfl, rfl, rfl, rfl, rfl, rfl, rfl, fun _ => ⟨rfl, rfl⟩⟩

end Sys2Proof.Machine

open Sys2Proof Sys2Proof.Machine

/-- Settles O54: the wake of the board whose line has become busy, or its window. -/
theorem wakeActivityWakesBoard : Obligations.WakeActivityWakesBoard := by
  intro t s b begins ok dormant
  have ran : exec (.wakeActivity t) s = .next (if b.beginsActivity then b.activity else b) := rfl
  clear_value b
  have awake : b.mode.awake = true := by rw [dormant]; rfl
  have begun : b.beginsActivity = true ↔ begins := b.beginsActivity_iff dormant
  rw [ran]
  refine ⟨fun still => by rw [if_neg (by rw [begun]; exact still)],
    fun starts => ⟨fun wakes => ?_, fun two waits => ?_⟩⟩
  · rw [if_pos (begun.mpr starts), b.activity_wakes wakes]
    have status := b.stirred.wake_status
    obtain ⟨motion, timer, table, flash, page, link⟩ := b.stirred.wake_begun
    obtain ⟨wake, idle, armed, ready, gap, cut, rng, tx, slots⟩ := b.stirred.wake_line
    obtain ⟨clock, start, store, -, period, -⟩ := b.stirred.wake_blocks
    obtain ⟨mode, ret, -⟩ := b.stirred.wake_value
    obtain ⟨-, -, cfg, pins, calls, req⟩ := b.stirred.wake_frame
    generalize b.stirred.wake = u at *
    refine ⟨u, rfl, mode, wake, idle, armed, ready, gap, cut, by rw [start], by rw [table]; rfl, by rw [table],
      by rw [table]; rfl, fun hm => ⟨status hm, timer hm⟩, fun ha => ?_, fun hc hs => ?_, link, motion, flash, page,
      store, ret, calls, rng, tx, cfg, pins, req⟩
    · obtain ⟨-, -, -, -, authority, -⟩ := ok.clockOk
      obtain ⟨reference, -⟩ := authority ha
      obtain ⟨-, time⟩ := slots (ok.mirror_of_reference awake reference)
      have authorityS : b.stirred.clock.authority = true := ha
      rw [time, clock, Clock.woken, if_pos authorityS, if_pos authorityS]
      exact ⟨Slot.mark_value _ |>.1, rfl⟩
    · obtain ⟨count, -⟩ := slots (ok.mirror_of_countPoint awake hc)
      have marks : b.stirred.marksCount = true := by
        have own : b.marksCount = true := by simp [State.marksCount, hc, Option.isSome_iff_ne_none, hs]
        exact own
      rw [count, period, if_pos marks, if_pos marks]
      exact ⟨rfl, Slot.mark_value _ |>.1, rfl⟩
  · rw [if_pos (begun.mpr starts), b.activity_waits two waits]
    exact ⟨_, rfl, rfl, dormant, rfl⟩

end

section
namespace Sys2Proof.Machine

variable {s b u : State}

/-! ## Frames that are taken (R163, R165) -/

/-- A frame that is taken reaches the owner of its row, the receiver disarmed. -/
theorem Taken.receive {frame : List Byte} {kind sender target : Nat} {p : List Byte}
    (h : Taken b frame kind sender target p) {row : Envelope → Bool} (hr : row ⟨kind, sender, target, p⟩ = true)
    (owner : Envelope → State → State) :
    b.receive frame row owner = owner ⟨kind, sender, target, p⟩ (Disarmed b) := by
  obtain ⟨run, armed, parsed⟩ := h
  exact ((b.receive_value frame row owner).2 armed run).1 _ parsed hr

/-! ## ZONE STATUS (R38, R44, R45, R51, R52) -/

/-- The entry of a zone is the one written last. -/
theorem find_placeEntry (e : PeerEntry) (l : List PeerEntry) :
    (placeEntry e l).find? (fun x => x.zone = e.zone) = some e := by
  induction l with
  | nil => simp [placeEntry]
  | cons x rest ih =>
    unfold placeEntry
    split
    · simp
    · split
      · simp
      · next other => simpa [List.find?_cons, Ne.symm other] using ih

/-- The entries of the other zones are kept. -/
theorem filter_placeEntry (e : PeerEntry) (l : List PeerEntry) :
    (placeEntry e l).filter (fun x => x.zone ≠ e.zone) = l.filter (fun x => x.zone ≠ e.zone) := by
  induction l with
  | nil => simp [placeEntry]
  | cons x rest ih =>
    unfold placeEntry
    split
    · simp
    · split
      · next same => simp [← same]
      · rw [List.filter_cons, List.filter_cons, ih]

/-- The table after a ZONE STATUS that passes R44, by its sender, and after one that does not. -/
theorem State.takeStatus_table (e : Envelope) :
    (statusAccepted s.cfg.nS e.sender e.payload = false → (s.takeStatus e).table = s.table) ∧
    (statusAccepted s.cfg.nS e.sender e.payload = true → e.sender ≠ s.cfg.zone →
      (s.takeStatus e).table =
        { s.table with entries := placeEntry (entryOfStatus e.sender e.payload) s.table.entries }) ∧
    (statusAccepted s.cfg.nS e.sender e.payload = true → e.sender = s.cfg.zone → s.mirror = true →
      (s.takeStatus e).table = { s.table with mirrored := some (entryOfStatus e.sender e.payload) }) ∧
    (statusAccepted s.cfg.nS e.sender e.payload = true → e.sender = s.cfg.zone → s.mirror = false →
      (s.takeStatus e).table =
        { s.table with clash := true, clashCount := 0, clashMet := s.table.meetsClash s.now }) := by
  unfold State.takeStatus
  refine ⟨fun bad => by simp [bad], fun good other => by simp [good, other], fun good own mirror => ?_,
    fun good own mirror => ?_⟩
  · rw [own] at good
    simp [good, own, mirror]
  · rw [own] at good
    simp [good, own, mirror]

theorem ZoneTable.meetsClash_value (z : ZoneTable) (now : Time) :
    (z.clash = true → 59 ≤ z.clashCount → z.meetsClash now = some now) ∧
    (z.clash = false → z.clashMet = none → z.meetsClash now = none) := by
  unfold ZoneTable.meetsClash
  exact ⟨fun clash full => by simp [clash, full], fun clash met => by simp [clash, met]⟩

/-- Whether a ZONE STATUS bears the boundary that a count point recovers its counter under (R38). -/
def State.Recovers (s : State) (sender : Nat) (p : List Byte) : Prop :=
  s.cfg.roles.countPoint = true ∧ s.mode = .shift ∧ byteAt p 0 = s.ret.shift ∧
    s.ret.serial = some (byteAt p 1) ∧ sender ≠ s.cfg.zone

/-- Count recovery raises the counter, which marks COUNT (R38, R124). -/
theorem State.recoverCount_value (e : Envelope) :
    (s.Recovers e.sender e.payload →
      (s.recoverCount e).ret.car = max s.ret.car (min (wordAt e.payload 13) 9999)) ∧
    (¬ s.Recovers e.sender e.payload → s.recoverCount e = s) ∧
    (s.recoverCount e).ret.last = s.ret.last ∧
    (s.recoverCount e).bus = { s.bus with count := (s.recoverCount e).bus.count } ∧
    ((s.recoverCount e).ret.car ≠ s.ret.car → s.mirror = false →
      (s.recoverCount e).bus.count = s.bus.count.mark ∧ (s.recoverCount e).pace.period = 0) := by
  by_cases raises : s.Recovers e.sender e.payload ∧ s.ret.car < min (wordAt e.payload 13) 9999
  · obtain ⟨recovers, above⟩ := raises
    have whole := recovers
    obtain ⟨point, shift, number, serial, other⟩ := recovers
    have step : s.recoverCount e = s.setCar (min (wordAt e.payload 13) 9999) :=
      if_pos ⟨point, shift, number, serial, other, above⟩
    obtain ⟨bus, pace, ret⟩ :=
      s.setCar_blocks (min (wordAt e.payload 13) 9999) (State.running_iff.mpr (.inr shift))
    have new := Nat.ne_of_gt above
    rw [step, bus, pace, ret]
    refine ⟨fun _ => (Nat.max_eq_right above.le).symm, fun none => absurd whole none, rfl, ?_,
      fun _ mirror => by simp [new, mirror]⟩
    split <;> rfl
  · have step : s.recoverCount e = s := if_neg fun ⟨point, shift, number, serial, other, above⟩ =>
      raises ⟨⟨point, shift, number, serial, other⟩, above⟩
    rw [step]
    refine ⟨fun recovers => ?_, fun _ => rfl, rfl, rfl, fun k => absurd rfl k⟩
    exact (Nat.max_eq_left (Nat.not_lt.mp fun above => raises ⟨recovers, above⟩)).symm

end Sys2Proof.Machine

open Sys2Proof Sys2Proof.Machine

/-- Settles O55: the table by the frame's sender, then the counter, then the end of the command. -/
theorem zoneStatusIsTaken : Obligations.ZoneStatusIsTaken := by
  intro t frame sender target p s b f
  have status : exec (.zoneStatus t frame) s =
    .next (b.receive frame Envelope.isZoneStatus State.onZoneStatus) := rfl
  have reply : exec (.reply t frame) s = .next (b.receive frame Envelope.isReply (fun _ s => s)) := rfl
  have value : f = min (wordAt p 13) 9999 := rfl
  clear_value b f
  refine ⟨fun taken ok => ?_, fun taken => by rw [reply, Taken.receive taken rfl]⟩
  have awake := State.awake_of_running taken.1
  rw [status, Taken.receive taken rfl]
  have step (e : Envelope) : (Disarmed b).onZoneStatus e =
      (((Disarmed b).takeStatus e).recoverCount e).finish := rfl
  rw [step]
  set e : Envelope := ⟨1, sender, target, p⟩
  obtain ⟨bad, other, mirrored, clash⟩ := State.takeStatus_table (s := Disarmed b) e
  have same : ((Disarmed b).takeStatus e).cfg = b.cfg ∧ ((Disarmed b).takeStatus e).mode = b.mode ∧
      ((Disarmed b).takeStatus e).ret = b.ret ∧ ((Disarmed b).takeStatus e).bus = (Disarmed b).bus ∧
      ((Disarmed b).takeStatus e).sec = b.sec ∧ ((Disarmed b).takeStatus e).disp = b.disp ∧
      ((Disarmed b).takeStatus e).calls = b.calls ∧ ((Disarmed b).takeStatus e).clock = b.clock ∧
      ((Disarmed b).takeStatus e).req = b.req ∧ ((Disarmed b).takeStatus e).pins = b.pins := by simp
  generalize (Disarmed b).takeStatus e = v at *
  obtain ⟨cfgV, modeV, retV, busV, secV, dispV, callsV, clockV, reqV, pinsV⟩ := same
  obtain ⟨raised, kept, last, bus, marked⟩ := State.recoverCount_value (s := v) e
  obtain ⟨-, -, mode, cfg, pins, calls, clock, req, sec, -, table, busU, -, ret, -, -, -, -, pace, store, -, -, -,
    link, -⟩ := (v.recoverCount e).followedFrom_finish
  generalize (v.recoverCount e).finish = u at *
  simp only [State.recoverCount_frame] at mode cfg pins calls clock req sec table store
  have recovers : v.Recovers sender p ↔ b.cfg.roles.countPoint = true ∧ b.mode = .shift ∧
      byteAt p 0 = b.ret.shift ∧ b.ret.serial = some (byteAt p 1) ∧ sender ≠ b.cfg.zone := by
    rw [State.Recovers, cfgV, modeV, retV]
  have car : u.ret.car = (v.recoverCount e).ret.car := (congrArg Retained.car ret :)
  refine ⟨u, rfl, fun good ne => ?_, fun good own => ?_, fun no => ?_, ?_, fun changed => ?_, ?_, ?_,
    calls.trans callsV, clock.trans clockV, mode.trans modeV, cfg.trans cfgV, req.trans reqV, pins.trans pinsV, ?_, ?_,
    ?_⟩
  · rw [other good ne] at table
    have entries : u.table.entries = placeEntry (entryOfStatus sender p) b.table.entries :=
      (congrArg ZoneTable.entries table :)
    rw [entries]
    exact ⟨find_placeEntry (entryOfStatus sender p) _, filter_placeEntry (entryOfStatus sender p) _,
      (congrArg ZoneTable.mirrored table :), (congrArg ZoneTable.clash table :),
      (congrArg ZoneTable.clashCount table :), (congrArg ZoneTable.clashMet table :)⟩
  · cases hm : b.mirror with
    | true =>
      rw [mirrored good own hm] at table
      exact ⟨(congrArg ZoneTable.entries table :), fun k => absurd k (by simp),
        fun _ => ⟨(congrArg ZoneTable.mirrored table :), (congrArg ZoneTable.clash table :)⟩⟩
    | false =>
      rw [clash good own hm] at table
      have met : u.table.clashMet = b.table.meetsClash b.now := (congrArg ZoneTable.clashMet table :)
      obtain ⟨meets, past⟩ := b.table.meetsClash_value b.now
      exact ⟨(congrArg ZoneTable.entries table :),
        fun _ => ⟨(congrArg ZoneTable.clash table :), (congrArg ZoneTable.clashCount table :),
          (congrArg ZoneTable.mirrored table :), fun on full => met.trans (meets on full),
          fun off none => met.trans (past off none)⟩,
        fun k => absurd k (by simp)⟩
  · rw [bad no] at table
    exact table
  · rw [car, value]
    split
    · next c => rw [raised (recovers.mpr c), retV]
    · next c => rw [kept (mt recovers.mp c), retV]
  · have moved : (v.recoverCount e).ret.car ≠ v.ret.car := by rwa [car, ← retV] at changed
    have point : b.cfg.roles.countPoint = true := by
      by_contra none
      exact moved (by rw [kept fun r => none (recovers.mp r).1])
    have mirror : v.mirror = false :=
      (State.mirror_congr cfgV).trans (ok.mirror_of_countPoint awake point)
    obtain ⟨count, period⟩ := marked moved mirror
    refine ⟨?_, (congrArg Pace.period pace :).trans period⟩
    rw [busU]
    exact count.trans (congrArg (fun x : Bus => x.count.mark) busV :)
  · exact (congrArg SectionMonitor.lastCar sec :).trans (by rw [secV])
  · rw [busU, bus, busV]
    rfl
  · rw [store, dispV]
  · rw [ret]
    exact last.trans (by rw [retV])
  · have shown : (v.recoverCount e).disp = b.disp := by simp [dispV]
    exact State.linkFollows_congr link (congrArg Display.picture shown) (congrArg Display.link shown)

end

section
namespace Sys2Proof.Machine

variable {s b w : State}

/-! ## Adopted TIME MARKs (R97 to R100) -/

/-- The clock after an adopted mark: the sender is the source, and a reference board has authority (R98,
R99). -/
def Clock.adopted (c : Clock) (reference : Bool) (sender : Nat) : Clock :=
  { c.heed sender with
    authority := c.authority || reference
    markCount := if reference = true ∧ c.authority = false then 0 else c.markCount }

theorem State.gainAuthority_heed (c : Clock) (sender : Nat) :
    (s.setClock (c.heed sender)).gainAuthority = s.setClock (c.adopted s.cfg.roles.reference sender) := by
  have gained : (s.setClock (c.heed sender)).gainAuthority =
      if s.cfg.roles.reference = true ∧ (!c.authority) = true then
        s.setClock { c.heed sender with authority := true, markCount := 0 }
      else s.setClock (c.heed sender) := rfl
  rw [gained]
  by_cases gains : s.cfg.roles.reference = true ∧ c.authority = false
  · obtain ⟨reference, absent⟩ := gains
    rw [if_pos ⟨reference, by simp [absent]⟩]
    simp [Clock.adopted, reference, absent]
  · rw [if_neg (by simpa using gains)]
    have same : (c.authority || s.cfg.roles.reference) = c.authority := by
      cases ha : c.authority <;> simp_all
    unfold Clock.adopted
    rw [same, if_neg gains]
    rfl

/-- The second and the pause after a mark of the same boundary (R100). -/
theorem Clock.follow_value (c : Clock) (m : Nat) :
    (c.timeValid = false ∨ c.s ≤ m → (c.follow m).s = m ∧ (c.follow m).pause = 0) ∧
    (c.timeValid = true → m < c.s → c.s ≤ m + 60 → (c.follow m).s = c.s ∧ (c.follow m).pause = c.s - m) ∧
    (c.timeValid = true → m + 60 < c.s → (c.follow m).s = m ∧ (c.follow m).pause = 0) := by
  unfold Clock.follow
  refine ⟨?_, fun valid above near => ?_, fun valid far => ?_⟩
  · rintro (invalid | reached)
    · simp [invalid]
    · by_cases valid : c.timeValid = true <;> simp [valid, reached]
  · have near : c.s - m ≤ 60 := by omega
    simp [valid, Nat.not_le.mpr above, near]
  · have past : ¬ c.s ≤ m := by omega
    have far : ¬ c.s - m ≤ 60 := by omega
    simp [valid, past, far]

/-- A mark of the same boundary leaves plans, authority and trackers. -/
theorem Clock.follow_kept (c : Clock) (m : Nat) :
    (c.follow m).plans = c.plans ∧ (c.follow m).authority = c.authority := by
  unfold Clock.follow
  repeat' split
  all_goals exact ⟨rfl, rfl⟩

/-! ## How a mark is judged (R97) -/

/-- The serial of a mark is 1 to 127 ahead of the board's own, or the board has none (R97). -/
def State.MarkAhead (s : State) (serial : Nat) : Prop :=
  s.ret.serial = none ∨
    ∃ x ∈ s.ret.serial, 1 ≤ (serial + 256 - x) % 256 ∧ (serial + 256 - x) % 256 ≤ 127

/-- A mark of the board's own boundary from a sender it follows (R99). -/
def State.MarkSame (s : State) (sender shift serial : Nat) : Prop :=
  s.ret.serial = some serial ∧ shift = s.ret.shift ∧
    (s.clock.isFree = true ∨ ∃ x ∈ s.clock.source, sender ≤ x)

theorem Clock.follows_iff (c : Clock) (sender : Nat) :
    c.follows sender = true ↔ c.isFree = true ∨ ∃ x ∈ c.source, sender ≤ x := by
  simp [Clock.follows, Option.any_eq_true]

/-- A mark is adopted as a new boundary, adopted within the same one, or ignored (R97 to R99). -/
theorem State.judgeMark_value {sender shift serial second : Nat} (hs : ∀ x ∈ s.ret.serial, x ≤ 255)
    (hn : serial ≤ 255) :
    ((3 < shift ∨ 57599 < second ∨ (¬ s.MarkAhead serial ∧ ¬ s.MarkSame sender shift serial)) →
      s.judgeMark sender shift serial second = s) ∧
    (shift ≤ 3 → second ≤ 57599 → s.MarkAhead serial →
      s.judgeMark sender shift serial second = s.adoptBoundary sender shift serial second) ∧
    (shift ≤ 3 → second ≤ 57599 → s.MarkSame sender shift serial →
      s.judgeMark sender shift serial second = s.adoptSame sender second) := by
  by_cases range : 3 < shift ∨ 57599 < second
  · refine ⟨fun _ => if_pos range, fun h1 h2 => ?_, fun h1 h2 => ?_⟩ <;> omega
  have judged : s.judgeMark sender shift serial second = match s.ret.serial with
      | none => s.adoptBoundary sender shift serial second
      | some own =>
        if (serial + 256 - own) % 256 = 0 then
          if shift = s.ret.shift ∧ s.clock.follows sender then s.adoptSame sender second else s
        else if (serial + 256 - own) % 256 ≤ 127 then s.adoptBoundary sender shift serial second
        else s := if_neg range
  rw [judged]
  unfold State.MarkAhead State.MarkSame
  rw [← Clock.follows_iff]
  cases held : s.ret.serial with
  | none =>
    exact ⟨fun h => by simp [range] at h, fun _ _ _ => rfl, fun _ _ h => absurd h.1 (by simp)⟩
  | some own =>
    have small := hs own held
    have equal : (serial + 256 - own) % 256 = 0 ↔ own = serial := by omega
    by_cases same : own = serial
    · subst same
      by_cases follows : shift = s.ret.shift ∧ s.clock.follows sender = true <;> simp_all
    · have ne := mt equal.mp same
      have low : 1 ≤ (serial + 256 - own) % 256 := Nat.pos_of_ne_zero ne
      by_cases near : (serial + 256 - own) % 256 ≤ 127 <;> simp_all

end Sys2Proof.Machine
end

section
namespace Sys2Proof.Machine

variable {s b u v : State}

/-! ## The car counter and the ending record across the steps of an adoption (R37, R80, R124) -/

/-- A boundary returns the counter, and changes of the slots COUNT alone. -/
theorem State.boundary_returns (hm : s.mirror = true → s.ret.car = 0) (shift serial : Nat) :
    s.CounterReturns (s.boundary shift serial) ∧ (s.boundary shift serial).bus.time = s.bus.time := by
  obtain ⟨bus, pace⟩ := s.boundary_pace shift serial
  obtain ⟨-, -, sec, -⟩ := s.boundary_blocks shift serial
  have ret := s.boundary_ret shift serial
  by_cases zero : s.ret.car = 0
  · simp [State.CounterReturns, ret, sec, bus, pace, zero]
  · have noMirror : ¬ s.mirror = true := mt hm zero
    have above : ¬ 0 = s.ret.car := fun k => zero k.symm
    simp [State.CounterReturns, ret, sec, bus, pace, zero, above, noMirror]

/-- The end of a command leaves counter, COUNT and period. -/
theorem State.counterReturns_finish (h : b.CounterReturns v) : b.CounterReturns v.finish := by
  obtain ⟨car, lastCar, count, period⟩ := h
  obtain ⟨-, -, -, -, -, -, -, -, sec, -, -, bus, -, ret, -, -, -, -, pace, -⟩ := v.followedFrom_finish
  exact ⟨(congrArg Retained.car ret :).trans car, (congrArg SectionMonitor.lastCar sec :).trans lastCar,
    (congrArg Bus.count bus :).trans count, (congrArg Pace.period pace :).trans period⟩

/-- A second boundary finds the counter at 0 and marks nothing more. -/
theorem State.counterReturns_trans (h : b.CounterReturns v) (k : v.CounterReturns u) : b.CounterReturns u := by
  obtain ⟨zero, -, count, period⟩ := h
  obtain ⟨car, lastCar, countU, periodU⟩ := k
  rw [if_pos zero] at countU periodU
  exact ⟨car, lastCar, countU.trans count, periodU.trans period⟩

/-- The record that ends at a boundary becomes the last one, frozen with its closing pair (R80). -/
theorem Retained.cross_closes {r : Retained} {n : Nat} (h : r.current.map (fun c => c.shift) = some n)
    (shift serial : Nat) :
    (r.cross shift serial).last.map (fun c => (c.shift, c.close, c.changed)) =
      some (n, some ⟨r.actual, r.peak⟩, true) := by
  obtain ⟨c, current, rfl⟩ := Option.map_eq_some_iff.mp h
  obtain ⟨-, -, -, -, -, frozen, -⟩ := r.cross_value shift serial
  obtain ⟨d, closed, last⟩ := frozen c current
  have bears := r.closeInterval_bears
  simp only [closed, current, Option.map_some, Option.some.injEq, Prod.mk.injEq] at bears
  simp [last, Record.freeze, Record.advance, bears.1]

theorem State.handOn_current_shift :
    s.handOn.ret.current.map (fun c => c.shift) = s.ret.current.map (fun c => c.shift) := by
  have bears := s.finish_bears
  have ret : s.finish.ret = s.handOn.ret := by simp
  rw [ret] at bears
  have first := congrArg (Option.map Prod.fst) bears
  simpa [Option.map_map, Function.comp_def] using first

/-! ## The overtime limit reached at an adoption (R90, R98, R100) -/

/-- The shift ends after the blocks have followed the adoption. -/
theorem State.checkOvertime_finish (hm : s.NothingToMark) (hr : s.overtimeReached = true) :
    let u := s.checkOvertime.finish
    u.mode = .standby ∧
    u.clock = { s.clock with
      s := 0, pause := 0, markCount := if s.clock.authority = true then 0 else s.clock.markCount } ∧
    u.table.entries = s.table.entries.filter (fun e => e.live) ∧
    u.bus.time = (if s.clock.authority = true then s.bus.time.mark else s.bus.time) ∧ s.CounterReturns u ∧
    u.pace.source = none ∧ u.ret.shift = 0 ∧ u.ret.serial = some (nextSerial s.ret.serial) ∧
    u.ret.current = none ∧ u.ret.interval = none ∧ u.ret.actual = 0 ∧ u.ret.peak = none ∧
    (∀ n, s.ret.current.map (fun c => c.shift) = some n →
      u.ret.last.map (fun c => (c.shift, c.close, c.changed)) = some (n, some ⟨s.ret.actual, s.ret.peak⟩, true)) ∧
    s.LinkFollows u ∧ u.disp.store = s.disp.store ∧ u.req = s.req ∧ u.cfg = s.cfg := by
  intro u
  have step : u = s.handOn.endOvertime.finish := by
    have check : s.checkOvertime = s.handOn.endOvertime := if_pos hr
    simp only [u, check]
  have quiet : s.handOn.NothingToMark := by
    have mirror : s.handOn.mirror = s.mirror := State.mirror_congr (by simp)
    simpa [State.NothingToMark, mirror] using hm
  obtain ⟨mode, clock, -, entries, time, counter, source, ret, link, store, req, cfg, -⟩ :=
    State.endOvertime_finish quiet
  obtain ⟨picture, linkS⟩ := s.handOn_link
  obtain ⟨number, serial, interval, current, -⟩ := s.handOn.ret.cross_value 0 (nextSerial s.handOn.ret.serial)
  rw [← step] at mode clock entries time counter source ret link store req cfg
  simp only [State.handOn_ret_frame] at serial
  simp only [State.handOn_frame, State.handOn_kept, State.handOn_bus] at clock entries time store req cfg
  refine ⟨mode, clock, entries, time, ?_, source, ?_, ?_, ?_, ?_, by rw [ret], by rw [ret], fun n hn => ?_, ?_, store,
    req, cfg⟩
  · obtain ⟨car, lastCar, count, period⟩ := counter
    rw [State.handOn_bus] at count
    rw [State.handOn_pace] at period
    simp only [State.handOn_ret_frame] at count period
    exact ⟨car, lastCar, count, period⟩
  · rw [ret]; exact number
  · rw [ret]
    simp only [State.handOn_ret_frame]
    exact serial
  · rw [ret]; exact current
  · rw [ret]; exact interval
  · have closes := Retained.cross_closes (s.handOn_current_shift.trans hn) 0 (nextSerial s.handOn.ret.serial)
    simp only [State.handOn_ret_frame] at closes
    rw [ret]
    simpa using closes
  · exact State.linkFollows_congr link picture linkS

end Sys2Proof.Machine
end

section
namespace Sys2Proof.Machine

variable {s : State} (sender shift serial second : Nat)

/-! ## A mark adopted as a new boundary (R98) -/

/-- The peak a boundary leaves is the first evaluation of a usable plan (R112). -/
theorem PlanStore.freshPeak_value (ps : PlanStore) (x : Nat) :
    (if shift ≠ 0 ∧ (ps.get shift).any (fun p => p.usable) = true then
      (ps.get shift).map (fun p => targetAt p.entries x) else (tEndOf (ps.get shift)).map (fun _ => 0)) =
      ps.freshPeak shift x := by
  have none0 : ps.get 0 = none := rfl
  unfold PlanStore.freshPeak
  cases h : ps.get shift with
  | none => simp [tEndOf]
  | some p =>
    have ne : shift ≠ 0 := by
      rintro rfl
      simp [none0] at h
    cases hu : p.usable <;> simp [tEndOf, hu, ne]

/-- The clock that a mark of a new boundary brings. -/
def Clock.crossing (c : Clock) (reference : Bool) : Clock :=
  { c with s := if shift = 0 then 0 else second, pause := 0 }.adopted reference sender

/-- The board at the new boundary, the overtime limit not yet looked at. -/
def State.crossing (s : State) : State :=
  (s.setClock (s.clock.crossing sender shift second s.cfg.roles.reference)).boundary shift serial

theorem State.adoptBoundary_steps :
    s.adoptBoundary sender shift serial second = (s.crossing sender shift serial second).checkOvertime := by
  unfold State.crossing Clock.crossing
  rw [← State.gainAuthority_heed]
  rfl

/-- A mirror has nothing that a mark could bring it to send: no role, no counter, no authority (R189). -/
def State.NoPart (s : State) : Prop :=
  s.mirror = true → s.ret.car = 0 ∧ (s.clock.authority || s.cfg.roles.reference) = false

theorem State.crossing_value (hm : s.NoPart) :
    let v := s.crossing sender shift serial second
    v.mode = (if shift = 0 then .standby else .shift) ∧
    v.clock = s.clock.crossing sender shift second s.cfg.roles.reference ∧
    v.table.entries = s.table.entries.filter (fun e => e.live) ∧ s.CounterReturns v ∧
    v.bus.time = s.bus.time ∧ v.pace.source = none ∧ v.ret.shift = shift ∧ v.ret.serial = some serial ∧
    v.ret.actual = 0 ∧ v.ret.peak = s.clock.plans.freshPeak shift second ∧ v.disp = s.disp ∧ v.req = s.req ∧
    v.cfg = s.cfg ∧ v.NothingToMark := by
  set k := s.clock.crossing sender shift second s.cfg.roles.reference with hk
  intro v
  have step : v = (s.setClock k).boundary shift serial := rfl
  obtain ⟨mode, -, -, table, -⟩ := (s.setClock k).boundary_blocks shift serial
  obtain ⟨counter, time⟩ := State.boundary_returns (s := s.setClock k) (fun m => (hm m).1) shift serial
  obtain ⟨-, pace⟩ := (s.setClock k).boundary_pace shift serial
  obtain ⟨number, serialC, -⟩ := s.ret.cross_value shift serial
  have ret := (s.setClock k).boundary_ret shift serial
  rw [← step] at mode table counter time pace ret
  have clock : v.clock = k := by simp [step]
  have mirror : v.mirror = s.mirror := State.mirror_congr (by simp [step])
  refine ⟨mode, clock, ?_, counter, time, by rw [pace], by rw [ret]; exact number, by rw [ret]; exact serialC,
    by rw [ret], ?_, by simp [step], by simp [step], by simp [step],
    fun m => ⟨counter.1, ?_⟩⟩
  · exact congrArg ZoneTable.entries table
  · rw [ret, ← PlanStore.freshPeak_value]
    have valid : k.timeValid = true := rfl
    have plans : k.plans = s.clock.plans := rfl
    have at_ : shift ≠ 0 → k.s = second := fun ne => if_neg ne
    simp only [State.setClock_clock, valid, plans, true_and]
    by_cases zero : shift = 0
    · simp [zero]
    · rw [at_ zero]
  · rw [clock]
    exact (hm (mirror.symm.trans m)).2

/-- The new boundary's shift ends at once where the mark's second is at its overtime limit (R98). -/
theorem State.crossing_overtime (hm : s.NoPart) :
    (s.crossing sender shift serial second).overtimeReached = true ↔
      shift ≠ 0 ∧ overtimeLimitOf (s.clock.plans.get shift) ≤ second := by
  obtain ⟨mode, clock, -, -, -, -, number, -⟩ := State.crossing_value sender shift serial second hm
  have plans : (s.crossing sender shift serial second).clock.plans = s.clock.plans := by
    rw [clock]
    rfl
  simp only [State.overtimeReached, State.overtimeLimit, State.runningPlan, mode, number, plans, Bool.and_eq_true,
    decide_eq_true_eq]
  rw [clock]
  by_cases zero : shift = 0 <;> simp [zero, Clock.crossing, Clock.adopted, Clock.heed]

end Sys2Proof.Machine
end

section
namespace Sys2Proof.Machine

variable {s b : State} (sender second : Nat)

/-! ## A mark adopted within the same boundary (R99, R100, R112) -/

/-- The clock that a mark of the same boundary brings; in shift 0 the second stays 0 (log 18). -/
def State.followedClock (s : State) : Clock :=
  (s.clock.follow (if s.ret.shift = 0 then 0 else second)).adopted s.cfg.roles.reference sender

/-- Whether the mark makes a time step: the target peak is evaluated at it (R112). -/
abbrev State.Steps (s : State) : Prop :=
  (s.followedClock sender second).s ≠ s.clock.s ∨ s.clock.timeValid = false

/-- The board after such a mark, the overtime limit not yet looked at. -/
def State.following (s : State) : State :=
  let w := s.setClock (s.followedClock sender second)
  if (s.followedClock sender second).s ≠ s.clock.s ∨ !s.clock.timeValid then w.evalPeak else w

theorem State.adoptSame_steps :
    s.adoptSame sender second = (s.following sender second).checkOvertime := by
  unfold State.following State.followedClock
  dsimp only
  rw [← State.gainAuthority_heed]
  rfl

theorem State.following_value :
    let v := s.following sender second
    v.clock = s.followedClock sender second ∧ v.mode = s.mode ∧ v.cfg = s.cfg ∧ v.sec = s.sec ∧
    v.table = s.table ∧ v.bus = s.bus ∧ v.pace = s.pace ∧ v.calls = s.calls ∧ v.disp = s.disp ∧ v.req = s.req ∧
    v.ret = { s.ret with peak := v.ret.peak } ∧
    (∀ p, s.pace.plan = some p → p.usable = true → s.mode = .shift → s.Steps sender second →
      v.ret.peak = some (max (s.ret.peak.getD 0) (targetAt p.entries v.clock.s))) ∧
    (s.mode ≠ .shift ∨ s.pace.plan.any (fun p => p.usable) = false ∨ ¬ s.Steps sender second →
      v.ret.peak = s.ret.peak) := by
  intro v
  set w := s.setClock (s.followedClock sender second) with hw
  have steps : v = if s.Steps sender second then w.evalPeak else w := by
    have iff : ((s.followedClock sender second).s ≠ s.clock.s ∨ (!s.clock.timeValid) = true) ↔
        s.Steps sender second := by
      rw [Bool.not_eq_true']
    exact if_congr iff rfl rfl
  have valid : w.clock.timeValid = true := rfl
  by_cases step : s.Steps sender second
  · rw [if_pos step] at steps
    have ret := w.evalPeak_ret
    rw [← steps] at ret
    have second : v.clock.s = w.clock.s := by simp [steps]
    refine ⟨by simp [steps, hw], by simp [steps, hw], by simp [steps, hw], by simp [steps, hw], by simp [steps, hw],
      by simp [steps, hw], by simp [steps, hw], by simp [steps, hw], by simp [steps, hw], by simp [steps, hw],
      ?_, fun p plan usable shift _ => ?_, fun none => ?_⟩
    · rw [ret]
      rfl
    · have plan' : w.pace.plan = some p := plan
      have shift' : w.mode = .shift := shift
      rw [ret, second]
      simp [plan', usable, shift', valid]
      rfl
    · rw [ret]
      refine if_neg fun ⟨shift, _, usable⟩ => ?_
      rcases none with off | off | off
      · exact off shift
      · exact absurd (off.symm.trans usable) (by simp)
      · exact off step
  · rw [if_neg step] at steps
    rw [steps]
    exact ⟨rfl, rfl, rfl, rfl, rfl, rfl, rfl, rfl, rfl, rfl, rfl, fun _ _ _ _ k => absurd k step, fun _ => rfl⟩

/-- The overtime limit after such a mark is that of the running shift (R90). -/
theorem State.following_overtime :
    (s.following sender second).overtimeReached = true ↔
      s.mode = .shift ∧ s.overtimeLimit ≤ (s.followedClock sender second).s := by
  obtain ⟨clock, mode, -, -, -, -, -, -, -, -, ret, -⟩ := State.following_value (s := s) sender second
  have plans : (s.followedClock sender second).plans = s.clock.plans := (s.clock.follow_kept _).1
  have plan : (s.following sender second).runningPlan = s.runningPlan := by
    have shift : (s.following sender second).ret.shift = s.ret.shift := by rw [ret]
    simp only [State.runningPlan, shift, clock, plans]
  simp only [State.overtimeReached, State.overtimeLimit, plan, mode, clock, Bool.and_eq_true, decide_eq_true_eq]

/-! ## What a sound board brings to a mark -/

theorem State.begin_overtime (s : State) (t : Time) : (s.begin_ t).overtimeReached = false :=
  State.expireDormant_overtime (State.expireOvertime_reached _)

theorem State.Ok.noPart (h : b.Ok) (ha : b.mode.awake = true) : b.NoPart := by
  intro mirror
  obtain ⟨car, authority⟩ := h.nothingToMark ha mirror
  have noRole : b.cfg.roles.reference = false := by
    by_contra role
    exact absurd (mirror.symm.trans (h.mirror_of_reference ha (by simpa using role))) (by simp)
  exact ⟨car, by rw [authority, noRole]; rfl⟩

/-- The current record of a board in SHIFT bears the running shift (R75). -/
theorem State.ShiftOk.current_shift (h : s.ShiftOk) (m : s.mode = .shift) :
    s.ret.current.map (fun c => c.shift) = some s.ret.shift := by
  obtain ⟨-, stands, bears, -, mode, -⟩ := h
  obtain ⟨c, current⟩ := Option.isSome_iff_exists.mp (stands.mpr ((mode (by rw [m]; rfl)).mp m))
  rw [current, Option.map_some, (bears c current).1]

theorem State.usablePlan_iff (q : Plan) :
    s.usablePlan = some q ↔ s.runningPlan = some q ∧ q.usable = true := by
  unfold State.usablePlan
  cases hp : s.runningPlan with
  | none => simp
  | some p =>
    simp only [Option.ite_none_right_eq_some, Option.some.injEq]
    constructor
    · rintro ⟨usable, rfl⟩
      exact ⟨rfl, usable⟩
    · rintro ⟨rfl, usable⟩
      exact ⟨usable, rfl⟩

end Sys2Proof.Machine
end

section
namespace Sys2Proof.Machine

variable {s : State} {sender shift serial second : Nat}

/-! ## A mark and the end of its command (R90, R97 to R100) -/

/-- A mark adopted as a new boundary, and the end of the shift where it is at the overtime limit. -/
theorem State.adoptBoundary_finish (hm : s.NoPart) :
    let u := (s.adoptBoundary sender shift serial second).finish
    u.clock.timeValid = true ∧ u.clock.source = some sender ∧ u.clock.sourceOwn = false ∧
    u.clock.isFree = false ∧ u.clock.silence = 0 ∧ u.clock.pause = 0 ∧
    u.clock.authority = (s.clock.authority || s.cfg.roles.reference) ∧
    ((shift = 0 ∨ second < overtimeLimitOf (s.clock.plans.get shift)) →
      u.ret.shift = shift ∧ u.ret.serial = some serial ∧ u.clock.s = (if shift = 0 then 0 else second) ∧
      u.mode = (if shift = 0 then .standby else .shift) ∧ u.bus.time = s.bus.time ∧
      u.ret.peak = s.clock.plans.freshPeak shift second) ∧
    (shift ≠ 0 → overtimeLimitOf (s.clock.plans.get shift) ≤ second →
      u.ret.shift = 0 ∧ u.ret.serial = some ((serial + 1) % 256) ∧ u.clock.s = 0 ∧ u.mode = .standby ∧
      u.ret.peak = none) ∧
    s.CounterReturns u ∧ u.ret.actual = 0 ∧ u.pace.source = none ∧ s.LinkFollows u ∧
    u.disp.store = s.disp.store ∧ u.req = s.req ∧ u.cfg = s.cfg ∧
    u.table.entries = s.table.entries.filter (fun e => e.live) := by
  intro u
  have steps : u = (s.crossing sender shift serial second).checkOvertime.finish := by
    simp only [u, State.adoptBoundary_steps]
  have overtime := State.crossing_overtime sender shift serial second hm
  obtain ⟨mode, clock, entries, counter, time, source, number, serialV, actual, peak, disp, req, cfg, quiet⟩ :=
    State.crossing_value sender shift serial second hm
  clear_value u
  generalize s.crossing sender shift serial second = v at *
  by_cases reached : v.overtimeReached = true
  · obtain ⟨ne, limit⟩ := overtime.mp reached
    obtain ⟨modeU, clockU, entriesU, -, counterU, sourceU, numberU, serialU, -, -, actualU, peakU, -, link, store,
      reqU, cfgU⟩ := State.checkOvertime_finish quiet reached
    rw [← steps] at modeU clockU entriesU counterU sourceU numberU serialU actualU peakU link store reqU cfgU
    rw [clock] at clockU
    rw [serialV] at serialU
    have begins : ¬ (shift = 0 ∨ second < overtimeLimitOf (s.clock.plans.get shift)) := by
      rintro (zero | early)
      · exact ne zero
      · exact absurd limit (Nat.not_le.mpr early)
    rw [clockU]
    refine ⟨rfl, rfl, rfl, rfl, rfl, rfl, rfl, fun k => absurd k begins,
      fun _ _ => ⟨numberU, serialU, rfl, modeU, peakU⟩, State.counterReturns_trans counter counterU, actualU, sourceU,
      ?_, by rw [store, disp], reqU.trans req, cfgU.trans cfg, ?_⟩
    · exact State.linkFollows_congr link (congrArg Display.picture disp) (congrArg Display.link disp)
    · rw [entriesU, entries, List.filter_filter]
      simp
  · have stays : v.checkOvertime = v := if_neg reached
    rw [stays] at steps
    have counterU := State.counterReturns_finish counter
    obtain ⟨-, -, modeU, cfgU, -, -, clockU, reqU, -, -, tableU, busU, -, retU, -, -, -, -, paceU, store, -, -, -, link,
      -⟩ := v.followedFrom_finish
    rw [← steps] at counterU modeU cfgU clockU reqU tableU busU retU paceU store link
    have notOver : ¬ (shift ≠ 0 ∧ overtimeLimitOf (s.clock.plans.get shift) ≤ second) := mt overtime.mpr reached
    rw [clockU, clock]
    refine ⟨rfl, rfl, rfl, rfl, rfl, rfl, rfl, fun _ => ⟨?_, ?_, rfl, modeU.trans mode, ?_, ?_⟩,
      fun ne limit => absurd ⟨ne, limit⟩ notOver, counterU, ?_, ?_, ?_, by rw [store, disp], reqU.trans req,
      cfgU.trans cfg, ?_⟩
    · exact (congrArg Retained.shift retU :).trans number
    · exact (congrArg Retained.serial retU :).trans serialV
    · exact (congrArg Bus.time busU :).trans time
    · exact (congrArg Retained.peak retU :).trans peak
    · exact (congrArg Retained.actual retU :).trans actual
    · exact (congrArg Pace.source paceU :).trans source
    · exact State.linkFollows_congr link (congrArg Display.picture disp) (congrArg Display.link disp)
    · exact (congrArg ZoneTable.entries tableU :).trans entries

/-- The second, the pause and the target peak that a mark of the same boundary leaves in SHIFT (R100, R112). -/
theorem State.followedClock_value (hz : s.mode = .shift → s.ret.shift ≠ 0)
    (hs : s.mode ≠ .shift → s.ret.shift = 0 ∧ s.clock.s = 0) :
    (s.mode = .shift →
      (s.clock.timeValid = false ∨ s.clock.s ≤ second →
        (s.followedClock sender second).s = second ∧ (s.followedClock sender second).pause = 0) ∧
      (s.clock.timeValid = true → second < s.clock.s → s.clock.s ≤ second + 60 →
        (s.followedClock sender second).s = s.clock.s ∧
        (s.followedClock sender second).pause = s.clock.s - second) ∧
      (s.clock.timeValid = true → second + 60 < s.clock.s →
        (s.followedClock sender second).s = second ∧ (s.followedClock sender second).pause = 0)) ∧
    (s.mode ≠ .shift → (s.followedClock sender second).s = 0) := by
  refine ⟨fun m => ?_, fun m => ?_⟩
  · have number : (if s.ret.shift = 0 then 0 else second) = second := if_neg (hz m)
    have same : s.followedClock sender second = (s.clock.follow second).adopted s.cfg.roles.reference sender := by
      rw [State.followedClock, number]
    rw [same]
    exact s.clock.follow_value second
  · obtain ⟨zero, start⟩ := hs m
    have same : s.followedClock sender second = (s.clock.follow 0).adopted s.cfg.roles.reference sender := by
      rw [State.followedClock, if_pos zero]
    rw [same]
    exact ((s.clock.follow_value 0).1 (.inr (Nat.le_of_eq start))).1

end Sys2Proof.Machine
end

section
namespace Sys2Proof.Machine

variable {s : State} {sender second : Nat}

/-- Every adopted mark makes its sender the source and gives a reference board authority (R98, R99). -/
theorem State.followedClock_source :
    (s.followedClock sender second).timeValid = true ∧ (s.followedClock sender second).source = some sender ∧
    (s.followedClock sender second).sourceOwn = false ∧ (s.followedClock sender second).isFree = false ∧
    (s.followedClock sender second).silence = 0 ∧
    (s.followedClock sender second).authority = (s.clock.authority || s.cfg.roles.reference) := by
  have kept := (s.clock.follow_kept (if s.ret.shift = 0 then 0 else second)).2
  refine ⟨rfl, rfl, rfl, rfl, rfl, ?_⟩
  rw [← kept]
  rfl

/-- A mark of the same boundary below the overtime limit (R99, R100, R112). -/
theorem State.adoptSame_goes (hp : s.pace.plan = s.runningPlan)
    (below : s.mode = .shift → (s.followedClock sender second).s < s.overtimeLimit) :
    let u := (s.adoptSame sender second).finish
    u.clock = s.followedClock sender second ∧ u.ret.shift = s.ret.shift ∧ u.ret.serial = s.ret.serial ∧
    u.mode = s.mode ∧
    (s.mode = .shift → ∀ q ∈ s.usablePlan, s.Steps sender second →
      u.ret.peak = some (max (s.ret.peak.getD 0) (targetAt q.entries u.clock.s))) ∧
    (s.mode ≠ .shift ∨ s.usablePlan = none ∨ ¬ s.Steps sender second → u.ret.peak = s.ret.peak) ∧
    u.ret.actual = s.ret.actual ∧ u.ret.car = s.ret.car ∧ u.ret.last = s.ret.last ∧
    u.sec.lastCar = s.sec.lastCar ∧ u.bus.count = s.bus.count ∧ u.pace.period = s.pace.period ∧
    s.LinkFollows u ∧ u.calls = s.calls ∧ u.disp.store = s.disp.store ∧ u.req = s.req ∧ u.cfg = s.cfg := by
  intro u
  have overtime := State.following_overtime (s := s) sender second
  have steps : u = (s.following sender second).checkOvertime.finish := by simp only [u, State.adoptSame_steps]
  obtain ⟨clock, mode, cfg, sec, -, bus, pace, calls, disp, req, ret, peak, kept⟩ :=
    State.following_value (s := s) sender second
  clear_value u
  generalize s.following sender second = v at *
  have stays : v.checkOvertime = v := if_neg fun reached => by
    obtain ⟨shift, limit⟩ := overtime.mp reached
    exact absurd (below shift) (Nat.not_lt.mpr limit)
  rw [stays] at steps
  obtain ⟨-, -, modeU, cfgU, -, callsU, clockU, reqU, secU, -, -, busU, -, retU, -, -, -, -, paceU, store, -, -, -,
    link, -⟩ := v.followedFrom_finish
  rw [← steps] at modeU cfgU callsU clockU reqU secU busU retU paceU store link
  rw [ret] at retU
  have peakU : u.ret.peak = v.ret.peak := (congrArg Retained.peak retU :)
  refine ⟨clockU.trans clock, (congrArg Retained.shift retU :), (congrArg Retained.serial retU :), modeU.trans mode,
    fun shift q hq stepped => ?_, fun none => ?_, (congrArg Retained.actual retU :), (congrArg Retained.car retU :),
    (congrArg Retained.last retU :), ?_, ?_, ?_, ?_, callsU.trans calls, by rw [store, disp], reqU.trans req,
    cfgU.trans cfg⟩
  · obtain ⟨plan, usable⟩ := (State.usablePlan_iff q).mp hq
    rw [peakU, clockU]
    exact peak q (hp.trans plan) usable shift stepped
  · rw [peakU]
    refine kept (none.imp_right (Or.imp_left fun absent => ?_))
    rw [hp]
    cases plan : s.runningPlan with
    | none => rfl
    | some q =>
      by_contra usable
      have found := (State.usablePlan_iff q).mpr ⟨plan, by simpa using usable⟩
      rw [absent] at found
      exact absurd found (by simp)
  · exact (congrArg SectionMonitor.lastCar secU :).trans (by rw [sec])
  · exact (congrArg Bus.count busU :).trans (by rw [bus])
  · exact (congrArg Pace.period paceU :).trans (by rw [pace])
  · exact State.linkFollows_congr link (congrArg Display.picture disp) (congrArg Display.link disp)

/-- A mark of the same boundary at or above the overtime limit (R90, R100). -/
theorem State.adoptSame_ends (hm : s.NoPart) (hs : s.ShiftOk) (shift : s.mode = .shift)
    (limit : s.overtimeLimit ≤ (s.followedClock sender second).s) :
    let u := (s.adoptSame sender second).finish
    u.mode = .standby ∧ u.ret.shift = 0 ∧ u.ret.serial = some (nextSerial s.ret.serial) ∧
    u.clock.s = 0 ∧ u.clock.pause = 0 ∧ u.clock.timeValid = true ∧ u.clock.source = some sender ∧
    u.clock.sourceOwn = false ∧ u.clock.isFree = false ∧ u.clock.silence = 0 ∧
    u.clock.authority = (s.clock.authority || s.cfg.roles.reference) ∧
    u.bus.time = (if u.clock.authority = true then s.bus.time.mark else s.bus.time) ∧
    u.ret.current = none ∧ u.ret.interval = none ∧ u.ret.actual = 0 ∧ u.ret.peak = none ∧
    s.CounterReturns u ∧ u.pace.source = none ∧ s.LinkFollows u ∧
    u.ret.last.map (fun r => (r.shift, r.close.map (fun x => x.actual), r.changed)) =
      some (s.ret.shift, some s.ret.actual, true) ∧
    u.disp.store = s.disp.store ∧ u.req = s.req ∧ u.cfg = s.cfg := by
  intro u
  have reached := (State.following_overtime (s := s) sender second).mpr ⟨shift, limit⟩
  obtain ⟨valid, from_, own, free, silence, authority⟩ := State.followedClock_source (s := s) (sender := sender)
    (second := second)
  have steps : u = (s.following sender second).checkOvertime.finish := by simp only [u, State.adoptSame_steps]
  obtain ⟨clock, -, cfg, sec, -, bus, pace, -, disp, req, ret, -⟩ := State.following_value (s := s) sender second
  clear_value u
  generalize s.following sender second = v at *
  have car : v.ret.car = s.ret.car := (congrArg Retained.car ret :)
  have quiet : v.NothingToMark := by
    intro mirror
    obtain ⟨zero, none⟩ := hm ((State.mirror_congr cfg).symm.trans mirror)
    exact ⟨car.trans zero, by rw [clock, authority, none]⟩
  obtain ⟨mode, clockU, -, time, counter, source, number, serial, current, interval, actual, peak, last, link, store,
    reqU, cfgU⟩ := State.checkOvertime_finish quiet reached
  rw [← steps] at mode clockU time counter source number serial current interval actual peak last link store reqU cfgU
  have authorityU : u.clock.authority = (s.clock.authority || s.cfg.roles.reference) := by
    rw [clockU, clock]
    exact authority
  refine ⟨mode, number, by rw [serial, ret], by rw [clockU], by rw [clockU], ?_, ?_, ?_, ?_, ?_, authorityU, ?_,
    current, interval, actual, peak, ?_, source, ?_, ?_, by rw [store, disp], reqU.trans req, cfgU.trans cfg⟩
  · rw [clockU, clock]; exact valid
  · rw [clockU, clock]; exact from_
  · rw [clockU, clock]; exact own
  · rw [clockU, clock]; exact free
  · rw [clockU, clock]; exact silence
  · rw [time, authorityU, clock, authority, bus]
  · obtain ⟨zero, lastCar, count, period⟩ := counter
    rw [car, bus] at count
    rw [car, pace] at period
    exact ⟨zero, lastCar, count, period⟩
  · exact State.linkFollows_congr link (congrArg Display.picture disp) (congrArg Display.link disp)
  · have ending : v.ret.current.map (fun c => c.shift) = some s.ret.shift := by
      rw [ret]
      exact hs.current_shift shift
    have closes := congrArg (Option.map fun x => (x.1, x.2.1.map ClosePair.actual, x.2.2)) (last _ ending)
    rw [ret] at closes
    simpa [Option.map_map, Function.comp_def] using closes

end Sys2Proof.Machine

open Sys2Proof Sys2Proof.Machine

/-- Settles O56: the mark is judged, adopted and followed; at the overtime limit the shift then ends. -/
theorem timeMarkIsJudged : Obligations.TimeMarkIsJudged := by
  intro t frame sender target p s b sh ser m ahead same taken ok
  have within : b.overtimeReached = false := s.begin_overtime t
  have ran : exec (.timeMark t frame) s = .next (((Disarmed b).judgeMark sender sh ser m).finish) := by
    have received : exec (.timeMark t frame) s = .next (b.receive frame Envelope.isTimeMark State.onTimeMark) := rfl
    rw [received, Taken.receive taken rfl]
    rfl
  obtain ⟨run, -⟩ := taken
  clear_value b
  have awake := State.awake_of_running run
  have byte : ser ≤ 255 := Nat.le_of_lt_succ (BitVec.isLt _)
  obtain ⟨few, -, -, serials, mode, -⟩ := ok.shiftOk
  obtain ⟨-, -, -, start, -⟩ := ok.clockOk
  obtain ⟨-, -, -, pace⟩ := ok.paceOk
  obtain ⟨plan, -⟩ := pace awake
  have part : (Disarmed b).NoPart := ok.noPart awake
  obtain ⟨ignored, crossed, followed⟩ := State.judgeMark_value (s := Disarmed b) (sender := sender) (shift := sh)
    (second := m) serials byte
  obtain ⟨clockIn, clockOut⟩ := State.followedClock_value (s := Disarmed b) (sender := sender) (second := m)
    (fun k => (mode awake).mp k)
    (fun k => ⟨by_contra fun ne => k ((mode awake).mpr ne), start awake k⟩)
  have notReached : b.mode = .shift → b.clock.s < b.overtimeLimit := fun k => by
    simpa [State.overtimeReached, k] using within
  rw [ran]
  refine ⟨fun none => ?_, fun low range boundary => ?_, fun low range matches_ below => ?_,
    fun range matches_ shift limit => ?_⟩
  · rw [ignored none]
    have follows := (Disarmed b).followedFrom_finish
    have whole := follows
    obtain ⟨-, -, modeU, -, -, -, clock, -, -, -, -, -, -, ret, -⟩ := follows
    exact ⟨_, rfl, clock, (congrArg Retained.shift ret :), (congrArg Retained.serial ret :), modeU, whole⟩
  · rw [crossed low range boundary]
    exact ⟨_, rfl, State.adoptBoundary_finish part⟩
  · rw [followed low range matches_]
    obtain ⟨valid, from_, own, free, silence, authority⟩ := State.followedClock_source (s := Disarmed b)
      (sender := sender) (second := m)
    have stays : b.mode = .shift → ((Disarmed b).followedClock sender m).s < b.overtimeLimit := fun k => by
      obtain ⟨reaches, pauses, steps⟩ := clockIn k
      by_cases early : b.clock.timeValid = false ∨ b.clock.s ≤ m
      · rw [(reaches early).1]
        exact below k
      · rw [not_or, Bool.not_eq_false, Nat.not_le] at early
        obtain ⟨known, above⟩ := early
        by_cases near : b.clock.s ≤ m + 60
        · rw [(pauses known above near).1]
          exact notReached k
        · rw [(steps known (Nat.not_le.mp near)).1]
          exact below k
    obtain ⟨clock, number, serial, modeU, peak, peakKept, rest⟩ := State.adoptSame_goes (s := Disarmed b)
      (sender := sender) (second := m) plan stays
    rw [← clock] at valid from_ own free silence authority clockIn clockOut
    refine ⟨_, rfl, valid, from_, own, free, silence, authority, number, serial, modeU, fun k => ?_, fun k => ?_,
      fun k => clockOut fun shift => absurd (k.symm.trans shift) (by simp), rest⟩
    · obtain ⟨reaches, pauses, steps⟩ := clockIn k
      exact ⟨reaches, pauses, steps, fun q hq stepped => peak k q hq (by rwa [State.Steps, ← clock])⟩
    · refine peakKept (k.imp_right (Or.imp_right fun ⟨still, known⟩ => ?_))
      rw [State.Steps, ← clock]
      rintro (moved | unknown)
      · exact moved still
      · exact absurd (known.symm.trans unknown) (by simp)
  · obtain ⟨held, own, -⟩ := id matches_
    rw [followed (own ▸ few) range matches_]
    have early : b.clock.s ≤ m := ((notReached shift).trans_le limit).le
    have reached : ((Disarmed b).followedClock sender m).s = m := ((clockIn shift).1 (.inr early)).1
    obtain ⟨modeU, zero, serial, rest⟩ := State.adoptSame_ends (s := Disarmed b) (sender := sender) (second := m)
      part ok.shiftOk shift (by rw [reached]; exact limit)
    refine ⟨_, rfl, modeU, zero, ?_, rest⟩
    rw [serial]
    exact congrArg (fun x => some (nextSerial x)) held

end

section
namespace Sys2Proof.Machine

variable {s b u v : State}

/-! ## The laws of the zone table and of the own zone record (R42, R43, R53, R55) -/

/-- The laws of the zone table, with the own zone record that a board composes: a mirror's, which composes
none, is a law of mirrors. -/
structure State.ZoneSide (s : State) : Prop where
  tableOk : s.TableOk
  ownOk : s.mode.awake = true → s.mirror = false → s.table.own = s.ownRecord

theorem State.Ok.zoneSide (h : s.Ok) : s.ZoneSide := ⟨h.tableOk, h.ownFollows.1⟩

/-- The laws of the table depend on table, zone number and mirror role alone. -/
theorem State.TableOk.of_table (h : s.TableOk) (hc : u.cfg = s.cfg) (ht : u.table = s.table) : u.TableOk := by
  apply h.congr hc <;> rw [ht]

/-- A table without entries is one of every configuration. -/
theorem State.TableOk.of_empty (he : s.table.entries = []) (hm : s.table.mirrored = none)
    (hn : s.table.clashCount ≤ 60) (ht : s.table.clashMet = none) : s.TableOk := by
  refine ⟨?_, ?_, ?_, hn, fun k => absurd ht k⟩
  · rw [he]; exact .nil
  · rw [he]; simp
  · rw [hm]; simp

theorem State.TableOk.handOn (h : s.TableOk) : s.handOn.TableOk := by
  apply h.congr (by simp) <;> simp [s.handOn_table]

/-- Whatever a command did, its end composes the own zone record (R55). -/
theorem State.TableOk.finish (h : s.TableOk) : s.finish.ZoneSide where
  tableOk := h.handOn.of_table (by simp) (by simp)
  ownOk := by
    have mirror : s.finish.mirror = s.mirror := State.mirror_congr (by simp)
    rw [mirror, s.finish_frame.2.2.1]
    exact s.finish_own.1

/-- A command that hands nothing on leaves both laws where it leaves the fields they speak of. -/
theorem State.ZoneSide.congr (h : s.ZoneSide) (hm : u.mode = s.mode) (hc : u.cfg = s.cfg)
    (ht : u.table = s.table) (ho : u.ownRecord = s.ownRecord) : u.ZoneSide where
  tableOk := h.tableOk.of_table hc ht
  ownOk := by
    rw [hm, State.mirror_congr hc, ht, ho]
    exact h.ownOk

theorem State.ZoneSide.ite (h : b.Ok) {g : Prop} [Decidable g] (hv : g → v.ZoneSide) :
    (if g then v else b).ZoneSide := by
  split
  · next hg => exact hv hg
  · exact h.zoneSide

theorem State.ZoneSide.of_ran (ran : (.next v : Host.Outcome State Fault Refusal) = .next u)
    (h : v.ZoneSide) : u.ZoneSide :=
  Host.Outcome.next.inj ran ▸ h

/-- What changes the bus alone and keeps the bus-trouble flag. -/
theorem State.ZoneSide.setBus (h : s.ZoneSide) (x : Bus) (hx : x.trouble = s.bus.trouble) :
    (s.setBus x).ZoneSide :=
  h.congr rfl rfl rfl (State.ownRecord_congr rfl rfl rfl rfl rfl rfl rfl rfl rfl rfl hx rfl rfl)

theorem State.ZoneSide.setDisp (h : s.ZoneSide) (x : Display) : (s.setDisp x).ZoneSide :=
  h.congr rfl rfl rfl rfl

theorem State.ZoneSide.setStart (h : s.ZoneSide) (x : StartUp) : (s.setStart x).ZoneSide :=
  h.congr rfl rfl rfl rfl

theorem State.ZoneSide.setTracker (h : s.ZoneSide) (i : InputId) (x : Tracker) :
    (s.setTracker i x).ZoneSide := by
  cases i <;> exact h.congr rfl rfl rfl rfl

theorem State.ZoneSide.redraw (h : s.ZoneSide) : s.redraw.ZoneSide := by
  have record : s.redraw.ownRecord = s.ownRecord := by apply State.ownRecord_congr <;> simp
  exact h.congr (by simp) (by simp) (by simp) record

/-! ## What the table goes through -/

theorem State.TableOk.setClock (h : s.TableOk) (c : Clock) : (s.setClock c).TableOk := h

theorem State.TableOk.boundary (h : s.TableOk) (shift serial : Nat) : (s.boundary shift serial).TableOk :=
  (ZoneTable.dropSilent_ok h).of_table (by simp) (s.boundary_blocks shift serial).2.2.2.1

theorem State.TableOk.ownBoundary (h : s.TableOk) (shift serial : Nat) : (s.ownBoundary shift serial).TableOk := by
  have crossed := (h.setClock (s.clock.ownInput s.cfg.zone)).boundary shift serial
  exact crossed.of_table (by simp [State.ownBoundary]) (by simp [State.ownBoundary])

theorem State.TableOk.shiftEnd (h : s.TableOk) : s.shiftEnd.TableOk := by
  cases hs : s.ret.serial with
  | none => rwa [s.shiftEnd_without_serial hs]
  | some x =>
    rw [s.shiftEnd_steps hs]
    split
    · exact h
    · exact h.ownBoundary _ _

theorem State.TableOk.endOvertime (h : s.TableOk) : s.endOvertime.TableOk := by
  have crossed := (h.setClock { s.clock with s := 0, pause := 0 }).boundary 0 (nextSerial s.ret.serial)
  unfold State.endOvertime
  dsimp only
  split
  · exact crossed.of_table (by simp) (by simp)
  · exact crossed

theorem State.TableOk.checkOvertime (h : s.TableOk) : s.checkOvertime.TableOk := by
  unfold State.checkOvertime
  split
  · exact h.handOn.endOvertime
  · exact h

/-- Whatever a TIME MARK brings (R49, R97 to R100). -/
theorem State.TableOk.judgeMark (h : s.TableOk) (sender shift serial second : Nat) :
    (s.judgeMark sender shift serial second).TableOk := by
  have gained (c : Clock) : (s.setClock c).gainAuthority.TableOk :=
    (h.setClock c).of_table (by simp) (by simp)
  have cross : (s.adoptBoundary sender shift serial second).TableOk :=
    ((gained _).boundary shift serial).checkOvertime
  have same : (s.adoptSame sender second).TableOk := by
    unfold State.adoptSame
    dsimp only
    generalize (if s.ret.shift = 0 then 0 else second) = m
    refine State.TableOk.checkOvertime ?_
    split
    · exact h.of_table (by simp) (by simp)
    · exact gained _
  unfold State.judgeMark
  dsimp only
  repeat' split
  all_goals assumption

theorem State.TableOk.takeUpWork (h : s.TableOk) : s.takeUpWork.TableOk := by
  obtain ⟨-, table, -⟩ := s.takeUpWork_value
  have taken : s.takenUp.TableOk := h
  exact taken.of_table (by simp [State.takenUp]) table

theorem State.TableOk.wake (h : s.TableOk) : s.wake.ZoneSide := by
  obtain ⟨-, -, -, -, cfg, -, -, -, -, -, -, table, -⟩ := s.waking_value
  have taken : s.roused.takenUp.TableOk := h
  rw [s.wake_steps]
  exact (taken.of_table cfg table).finish

theorem State.TableOk.wakeIfDormant (h : s.TableOk) : s.wakeIfDormant.TableOk := by
  unfold State.wakeIfDormant
  split
  · exact h.wake.tableOk
  · exact h

/-- One second more, on every entry and on the clash count (R47, R51, R53). -/
theorem State.TableOk.tallied (h : s.TableOk) : s.tallied.TableOk := by
  obtain ⟨ordered, entries, mirrored, count, -⟩ := h
  have older {e : PeerEntry} (ok : e.Ok) : ({ e with age := min 255 (e.age + 1) } : PeerEntry).Ok := by
    obtain ⟨h1, h2, h3, h4, h5, h6, h7, h8, h9, h10, -⟩ := ok
    exact ⟨h1, h2, h3, h4, h5, h6, h7, h8, h9, h10, Nat.min_le_left ..⟩
  have cfg : s.tallied.cfg = s.cfg := by simp
  unfold State.TableOk
  rw [s.tallied_table, cfg, State.mirror_congr cfg]
  refine ⟨by simpa [List.pairwise_map] using ordered, fun e he => ?_, fun e he => ?_, ?_, fun k => absurd rfl k⟩
  · obtain ⟨x, hx, rfl⟩ := List.mem_map.mp he
    obtain ⟨ok, other⟩ := entries x hx
    exact ⟨older ok, other⟩
  · obtain ⟨x, hx, rfl⟩ := Option.map_eq_some_iff.mp he
    obtain ⟨ok, own⟩ := mirrored x hx
    exact ⟨older ok, own⟩
  · dsimp only
    split
    · exact count
    · split <;> omega

end Sys2Proof.Machine
end

section
namespace Sys2Proof.Machine

variable {s b u v : State}

/-! ## ZONE STATUS (R42 to R45, R51, R52) -/

theorem byteAt_lt (l : List Byte) (i : Nat) : byteAt l i < 256 := BitVec.isLt _

/-- What R44 demands of a ZONE STATUS, check by check. -/
theorem statusAccepted_iff {nS sender : Nat} {p : List Byte} :
    statusAccepted nS sender p = true ↔
      1 ≤ sender ∧ sender ≤ 64 ∧ 1 ≤ byteAt p 16 ∧ byteAt p 16 ≤ nS ∧ byteAt p 5 ≤ 2 ∧ byteAt p 6 ≤ 16 ∧
      (byteAt p 5 ≠ 1 ∨ byteAt p 6 ≠ 0) ∧ (byteAt p 5 = 2 ↔ byteAt p 8 ≠ 0) ∧
      (0 < byteAt p 6 ↔ byteAt p 7 ≠ 0) ∧ byteAt p 7 ≤ 4 ∧ byteAt p 8 ≤ 4 ∧ byteAt p 11 ≤ 2 ∧
      byteAt p 0 ≤ 3 ∧ 1 ≤ byteAt p 15 ∧ byteAt p 15 ≤ 10 := by
  have agree (x y : Bool) : (x == y) = true ↔ (x = true ↔ y = true) := by rw [beq_iff_eq, Bool.eq_iff_iff]
  simp [statusAccepted, kindCodeValid, agree, and_assoc]

theorem kindOfCode_isSome {n : Nat} (h : n ≤ 4) : (kindOfCode n).isSome = true ↔ n ≠ 0 := by
  interval_cases n <;> simp [kindOfCode]

theorem conditionOfCode_hold {n : Nat} : (conditionOfCode n).getD .run = .hold ↔ n = 2 := by
  unfold conditionOfCode
  split <;> simp_all

/-- The entry written by a ZONE STATUS that passes R44 keeps the laws of an entry (R42, R45, R172). -/
theorem entryOfStatus_ok {nS sender : Nat} {p : List Byte} (h : statusAccepted nS sender p = true) :
    (entryOfStatus sender p).Ok := by
  obtain ⟨low, high, -, -, -, calls, -, hold, -, -, kind, -, shift, fresh, slow⟩ := statusAccepted_iff.mp h
  refine ⟨low, high, ?_, calls, fun x hx => ?_, shift, Nat.le_of_lt_succ (byteAt_lt p 1), Nat.min_le_right ..,
    fresh, slow, Nat.zero_le _⟩
  · show (kindOfCode (byteAt p 8)).isSome = true ↔ (conditionOfCode (byteAt p 5)).getD .run = .hold
    rw [kindOfCode_isSome kind, conditionOfCode_hold, hold]
  · have known : startOfCode (wordAt p 9) = some x := hx
    unfold startOfCode at known
    split at known
    · next early => exact Option.some.inj known ▸ early
    · exact absurd known (by simp)

/-- The table stays in ascending zone number (R43). -/
theorem placeEntry_ordered {l : List PeerEntry} (h : l.Pairwise (fun x y => x.zone < y.zone)) (e : PeerEntry) :
    (placeEntry e l).Pairwise (fun x y => x.zone < y.zone) := by
  induction l with
  | nil => simp [placeEntry]
  | cons y rest ih =>
    obtain ⟨hy, hrest⟩ := List.pairwise_cons.mp h
    unfold placeEntry
    split
    · next before =>
      refine List.pairwise_cons.mpr ⟨fun x hx => ?_, h⟩
      rcases List.mem_cons.mp hx with rfl | hx
      · exact before
      · exact before.trans (hy x hx)
    · split
      · next same => exact List.pairwise_cons.mpr ⟨fun x hx => same ▸ hy x hx, hrest⟩
      · refine List.pairwise_cons.mpr ⟨fun x hx => ?_, ih hrest⟩
        rcases (mem_placeEntry e x rest hrest).mp hx with rfl | ⟨hx, -⟩
        · omega
        · exact hy x hx

theorem State.TableOk.takeStatus (h : s.TableOk) (e : Envelope) : (s.takeStatus e).TableOk := by
  obtain ⟨bad, other, mirrored, clash⟩ := State.takeStatus_table (s := s) e
  have cfg : (s.takeStatus e).cfg = s.cfg := by simp
  have whole := h
  obtain ⟨ordered, entries, record, count, met⟩ := h
  cases good : statusAccepted s.cfg.nS e.sender e.payload with
  | false => exact whole.of_table cfg (bad good)
  | true =>
    have ok := entryOfStatus_ok good
    have kept {z : ZoneTable} (ht : (s.takeStatus e).table = z) (hz : (s.setTable z).TableOk) :
        (s.takeStatus e).TableOk := hz.of_table cfg ht
    by_cases own : e.sender = s.cfg.zone
    · cases hm : s.mirror with
      | true =>
        exact kept (mirrored good own hm)
          ⟨ordered, entries, fun x hx => Option.some.inj hx ▸ ⟨ok, own, hm⟩, count, met⟩
      | false =>
        exact kept (clash good own hm) ⟨ordered, entries, record, Nat.zero_le _, fun _ => ⟨rfl, rfl⟩⟩
    · refine kept (other good own) ⟨placeEntry_ordered ordered _, fun x hx => ?_, record, count, met⟩
      rcases (mem_placeEntry _ x _ ordered).mp hx with rfl | ⟨hx, -⟩
      · exact ⟨ok, own⟩
      · exact entries x hx

end Sys2Proof.Machine
end

section
namespace Sys2Proof.Machine

variable {s b u v : State}

/-! ## Start-up, inputs and sensors -/

/-- The end of a command that leaves the table of a sound board alone. -/
theorem State.Ok.followed_zoneSide (h : b.Ok) (hc : v.cfg = b.cfg) (ht : v.table = b.table) :
    v.finish.ZoneSide :=
  (h.tableOk.of_table hc ht).finish

/-- A board that leaves LOADING begins with an empty table (R60, R192). -/
theorem State.Ok.readImage_zoneSide (h : b.Ok) (mem : List Byte) (hm : b.mode = .loading) :
    (match imageFault mem with
      | some c => b.halt c
      | none => b.leaveLoading (cfgOf mem) (plansOf mem)).ZoneSide := by
  split
  · exact h.followed_zoneSide rfl rfl
  · obtain ⟨-, -, -, -, -, -, -, table, -⟩ := h.atRest (by rw [hm]; simp [Mode.awake])
    have begun : (b.leaving (cfgOf mem) (plansOf mem)).table = b.table := by simp [State.leaving]
    have empty : (b.leaving (cfgOf mem) (plansOf mem)).TableOk := by
      apply State.TableOk.of_empty <;> rw [begun, table] <;> simp [ZoneTable.initial]
    rw [State.leaveLoading_steps]
    exact (empty.takeUpWork.of_table (by simp) (by simp)).finish

/-- Every block takes the values of a start (R60, R188). -/
theorem State.enterLoading_zoneSide (bpol : Bool) (link : Link) (startup : StartUp) :
    (b.enterLoading bpol link startup).ZoneSide where
  tableOk := by apply State.TableOk.of_empty <;> simp [State.enterLoading, ZoneTable.initial]
  ownOk := fun k => absurd k (by simp [State.enterLoading, Mode.awake])

theorem State.powerOn_zoneSide (bpol : Bool) : (b.powerOn bpol).ZoneSide := by
  have loaded (link : Link) (startup : StartUp) : (b.enterLoading bpol link startup).ZoneSide :=
    State.enterLoading_zoneSide bpol link startup
  obtain ⟨table, -⟩ := loaded ⟨some .dark, false, b.disp.link.shown⟩
    ⟨none, bpol, if b.start.rstw.isActive then .active b.now else .inactive, !b.start.rstw.isActive, false, 0⟩
  exact ⟨table, fun k => absurd k (by simp [State.powerOn, State.enterLoading, State.clearArea, Mode.awake])⟩

theorem State.Ok.changeLevel_zoneSide (h : b.Ok) (i : InputId) (level : Bool) :
    (b.changeLevel i level).ZoneSide := by
  have moved : (b.setPins (b.pins.setLevel i level)).ZoneSide := h.zoneSide.congr rfl rfl rfl rfl
  unfold State.changeLevel
  dsimp only
  split
  · exact h.zoneSide
  · split
    · exact moved.setTracker i _
    · exact moved

/-- A counted pull, press or pulse (R3, R4, R92). -/
theorem State.Ok.counted_zoneSide (h : b.Ok) (i : InputId) (x : Tracker) (code : Nat) :
    ((b.setTracker i x).counted i code).ZoneSide := by
  have side := h.zoneSide.setTracker i x
  have woken := side.tableOk.wakeIfDormant
  cases i with
  | clr => exact (woken.of_table (by simp) (by simp)).finish
  | shst => exact (woken.ownBoundary _ _).finish
  | shend => exact woken.shiftEnd.finish
  | call n =>
    unfold State.counted
    dsimp only
    split
    · exact side
    · split
      · exact side
      · exact (woken.of_table (by simp) (by simp)).finish

theorem State.Ok.qualify_zoneSide (h : b.Ok) (i : InputId) (code : Nat) : (b.qualify i code).ZoneSide := by
  unfold State.qualify
  dsimp only
  refine .ite h fun _ => ?_
  split
  · exact h.counted_zoneSide i _ code
  · exact h.zoneSide.setTracker i _

/-- A change of level restarts the filter and leaves the flag, which the own zone record shows (R54, R55). -/
theorem State.Ok.sensorChange_zoneSide (h : b.Ok) (p : Pins) (x : Sensor) (since : Time) :
    ((b.setPins p).setTable (b.table.setFilter x { b.table.filter x with since := since })).ZoneSide := by
  cases x <;> exact ⟨h.tableOk, h.ownFollows.1⟩

theorem State.Ok.sensorQualify_zoneSide (h : b.Ok) (x : Sensor) (f : Filter) :
    (b.setTable (b.table.setFilter x f)).finish.ZoneSide := by
  have kept : (b.setTable (b.table.setFilter x f)).TableOk := by cases x <;> exact h.tableOk
  exact kept.finish

theorem State.Ok.pulse_zoneSide (h : b.Ok) (gap : Nat) : (b.pulse gap).ZoneSide := by
  by_cases soon : b.sec.tooSoon gap b.now = true
  · rw [State.pulse, if_pos soon]
    exact h.followed_zoneSide rfl rfl
  · have steps : b.pulse gap = (b.rekeyed.setMotion .moving).finish := if_neg soon
    have paced : b.paced.TableOk := h.tableOk.of_table (by simp) (by simp)
    rw [steps]
    exact (paced.handOn.of_table (by simp) (by simp)).finish

theorem State.Ok.tick_zoneSide (h : b.Ok) : b.tick.ZoneSide := by
  have clock : b.tickClock.TableOk := h.tableOk.of_table (by simp) (by simp)
  rw [b.tick_steps]
  exact clock.handOn.tallied.finish

end Sys2Proof.Machine
end

section
namespace Sys2Proof.Machine

variable {s b u v : State}

/-! ## The line -/

theorem State.Ok.endGap_zoneSide (h : b.Ok) : (if b.gapOver then b.endGap true
    else if b.gapCutNow then b.endGap false else b).ZoneSide := by
  have ended (idle : Bool) : (b.endGap idle).ZoneSide := h.zoneSide.setBus _ rfl
  split
  · exact ended true
  · exact .ite h fun _ => ended false

theorem State.ZoneSide.startAttempt (h : s.ZoneSide) (i : SlotId) (f : List Byte) :
    (s.startAttempt i f).ZoneSide := by
  cases i <;> exact h.congr rfl rfl rfl rfl

theorem State.Ok.transmissionStart_zoneSide (h : b.Ok) :
    (match b.bus.firstPending with
    | some i =>
      match b.frameFor i with
      | some f => if b.mayTransmit then b.startAttempt i f else b
      | none => b
    | none => b).ZoneSide := by
  split
  · split
    · exact .ite h fun _ => h.zoneSide.startAttempt _ _
    · exact h.zoneSide
  · exact h.zoneSide

/-- A ZONE STATUS that was sent returns the refresh count and may clear the restarted flag (R57, R58). -/
theorem State.TableOk.reportSent (h : s.TableOk) (x : Tx) : (s.reportSent x).TableOk := by
  unfold State.reportSent
  split <;> exact h

theorem State.TableOk.replyEnded (h : s.TableOk) (x : Tx) (f : Requests → Requests) :
    (s.replyEnded x f).TableOk :=
  h.of_table (by simp) (by simp)

theorem State.TableOk.setBus (h : s.TableOk) (x : Bus) : (s.setBus x).TableOk := h

theorem State.Ok.sent_zoneSide (h : b.Ok) (x : Tx) : (b.sent x).ZoneSide := by
  unfold State.sent
  dsimp only
  split
  · exact (((h.tableOk.setBus _).reportSent x).replyEnded x _).finish
  · exact ((h.tableOk.setBus _).reportSent x).finish

theorem State.Ok.collide_zoneSide (h : b.Ok) (x : Tx) : (b.collide x).ZoneSide := by
  have ended (y : Bus) (f : Requests → Requests) : ((b.setBus y).replyEnded x f).finish.ZoneSide :=
    ((h.tableOk.setBus y).replyEnded x f).finish
  unfold State.collide
  dsimp only
  split
  · exact ended _ _
  · split <;> exact ended _ _

theorem State.Ok.activity_zoneSide (h : b.Ok) : b.activity.ZoneSide := by
  have woken (x : Bus) : (b.setBus x).wake.ZoneSide := (h.tableOk.setBus x).wake
  have seen (x y : Bus) (hx : y.trouble = b.bus.trouble) : ((b.setBus x).setBus y).ZoneSide :=
    h.zoneSide.setBus y hx
  unfold State.activity
  dsimp only
  split
  · exact woken _
  · split
    · split
      · exact woken _
      · exact seen _ _ rfl
    · exact seen _ _ rfl
    · exact seen _ _ rfl

theorem State.Ok.wakeWindow_zoneSide (h : b.Ok) :
    (match b.bus.wake with
    | .seen d =>
      if b.mode = Mode.dormant ∧ d ≤ b.now then b.setBus { b.bus with wake := .waiting } else b
    | .waiting => b
    | .off => b).ZoneSide := by
  split
  · exact .ite h fun _ => h.zoneSide.setBus _ rfl
  · exact h.zoneSide
  · exact h.zoneSide

theorem State.Ok.stepTimer_zoneSide (h : b.Ok) :
    (match b.disp.running with
    | some r => if b.running && r.due ≤ b.now then (b.stepText r).redraw else b
    | none => b).ZoneSide := by
  split
  · next r _ =>
    have record : (b.stepText r).ownRecord = b.ownRecord := by apply State.ownRecord_congr <;> simp
    exact .ite h fun _ => (h.zoneSide.congr (by simp) (by simp) (by simp) record).redraw
  · exact h.zoneSide

theorem State.ZoneSide.endSound (h : s.ZoneSide) {c : CallUnit} (hl : c.list = s.calls.list)
    (ho : c.overflow = s.calls.overflow) : (s.setCalls c).redraw.ZoneSide := by
  have record : (s.setCalls c).ownRecord = s.ownRecord :=
    State.ownRecord_congr rfl rfl hl ho rfl rfl rfl rfl rfl rfl rfl rfl rfl
  have ended : (s.setCalls c).ZoneSide := h.congr rfl rfl rfl record
  exact ended.redraw

theorem State.ZoneSide.readBackChange (h : s.ZoneSide) (p : Pins) (x : Attributor) :
    ((s.setPins p).setAtt x).ZoneSide :=
  h.congr rfl rfl rfl rfl

theorem State.ZoneSide.setCheck (h : s.ZoneSide) (x : BitVec 16) : (s.setCheck x).ZoneSide :=
  h.congr rfl rfl rfl rfl

theorem State.Ok.setAtt_zoneSide (h : b.Ok) (x : Attributor) : (b.setAtt x).finish.ZoneSide :=
  h.followed_zoneSide rfl rfl

theorem State.Ok.setSec_zoneSide (h : b.Ok) (x : SectionMonitor) : (b.setSec x).finish.ZoneSide :=
  h.followed_zoneSide rfl rfl

/-! ## Frames -/

theorem State.ZoneSide.endReception (h : s.ZoneSide) : s.endReception.ZoneSide := h.setBus _ rfl

theorem State.Ok.receive_zoneSide (h : b.Ok) (frame : List Byte) (row : Envelope → Bool)
    {owner : Envelope → State → State} (ho : ∀ e, (owner e b.endReception).ZoneSide) :
    (b.receive frame row owner).ZoneSide := by
  unfold State.receive
  refine .ite h fun _ => ?_
  split
  · split
    · exact ho _
    · exact h.zoneSide.endReception
  · exact h.zoneSide.endReception

/-- MARK COLLECTED clears the changed flag of a record alone (R184). -/
theorem State.serveMark_serial (s : State) (e : Envelope) : (s.serveMark e).ret.serial = s.ret.serial := by
  have cleared (sel : Nat) : (s.clearChanged sel).ret.serial = s.ret.serial := by
    unfold State.clearChanged
    split <;> simp
  unfold State.serveMark
  dsimp only
  split
  · simp
  · split
    · simp [cleared]
    · simp

theorem State.answerRequest_trouble (s : State) (e : Envelope) (status : Nat) (body : List Byte) :
    (s.answerRequest e status body).bus.trouble = s.bus.trouble := rfl

theorem State.serveRead_trouble (s : State) (e : Envelope) : (s.serveRead e).bus.trouble = s.bus.trouble := by
  unfold State.serveRead
  dsimp only
  repeat' split
  all_goals rfl

theorem State.serveMark_trouble (s : State) (e : Envelope) : (s.serveMark e).bus.trouble = s.bus.trouble := by
  unfold State.serveMark
  dsimp only
  repeat' split
  all_goals simp [State.answerRequest_trouble]

/-- A request that is served leaves what the own zone record is made of (R175 to R185). -/
theorem State.Ok.served_zoneSide (h : b.Ok) (e : Envelope) {f : Envelope → State → State}
    (hf : ∀ v, (f e v).mode = v.mode ∧ (f e v).cfg = v.cfg ∧ (f e v).table = v.table ∧
      (f e v).calls = v.calls ∧ (f e v).sec = v.sec ∧ (f e v).clock = v.clock ∧
      (f e v).bus.trouble = v.bus.trouble ∧ (f e v).ret.shift = v.ret.shift ∧
      (f e v).ret.serial = v.ret.serial) :
    (State.serve f e b.endReception).ZoneSide := by
  unfold State.serve
  split
  · obtain ⟨mode, cfg, table, calls, sec, clock, trouble, shift, serial⟩ := hf b.endReception
    refine h.zoneSide.endReception.congr mode cfg table (State.ownRecord_congr mode cfg ?_ ?_ ?_ ?_ ?_ ?_ ?_ ?_
      trouble shift serial)
    all_goals simp [calls, sec, table, clock]
  · exact h.zoneSide.endReception

theorem State.Ok.handled_zoneSide (h : b.Ok) (hc : v.cfg = b.endReception.cfg)
    (ht : v.table = b.endReception.table) : v.finish.ZoneSide :=
  h.followed_zoneSide hc ht

theorem State.Ok.onMessage_zoneSide (h : b.Ok) (e : Envelope) : (b.endReception.onMessage e).ZoneSide := by
  unfold State.onMessage
  split
  · exact h.handled_zoneSide (by simp) (by simp)
  · exact h.zoneSide.endReception

theorem State.Ok.onWithdrawal_zoneSide (h : b.Ok) (e : Envelope) :
    (b.endReception.onWithdrawal e).ZoneSide := by
  unfold State.onWithdrawal
  split
  · exact h.handled_zoneSide (by simp) (by simp)
  · exact h.zoneSide.endReception

theorem State.Ok.onTimeMark_zoneSide (h : b.Ok) (e : Envelope) : (b.endReception.onTimeMark e).ZoneSide :=
  (h.zoneSide.endReception.tableOk.judgeMark _ _ _ _).finish

theorem State.Ok.onZoneStatus_zoneSide (h : b.Ok) (e : Envelope) :
    (b.endReception.onZoneStatus e).ZoneSide := by
  have taken := h.zoneSide.endReception.tableOk.takeStatus e
  exact (taken.of_table (by simp) (by simp)).finish

theorem State.Ok.onCount_zoneSide (h : b.Ok) (e : Envelope) : (b.endReception.onCount e).ZoneSide :=
  h.handled_zoneSide (by simp) (by simp)

theorem State.Ok.reachPlanEnd_zoneSide (h : b.Ok) : b.reachPlanEnd.ZoneSide :=
  .ite h fun _ => h.followed_zoneSide (by simp) (by simp)

/-! ## Every command -/

/-- Every command leaves the laws of the zone table and of the own zone record, row by row of the table. -/
theorem exec_zoneSide {s u : State} (h : s.Ok) (i : Instr) (ran : exec i s = .next u) : u.ZoneSide := by
  have begun (t : Time) : (s.begin_ t).Ok := h.begin t
  have begunSide (t : Time) : (s.begin_ t).ZoneSide := (begun t).zoneSide
  cases i
  all_goals refine .of_ran ran ?_
  case powerOn t bpol => exact State.powerOn_zoneSide bpol
  case restartInput t bpol => exact .ite (begun t) fun _ => State.enterLoading_zoneSide bpol _ _
  case rstwRelease t => exact (begunSide t).setStart _
  case configImageRead t mem => exact .ite (begun t) fun hg => (begun t).readImage_zoneSide mem hg.1
  case inputActive t x => exact (begun t).changeLevel_zoneSide x true
  case inputInactive t x => exact (begun t).changeLevel_zoneSide x false
  case qualifyTimeExpiry t x c0 c1 => exact (begun t).qualify_zoneSide x _
  case releaseTimeExpiry t x => exact .ite (begun t) fun _ => (begunSide t).setTracker x _
  case advancePulse t => exact .ite (begun t) fun _ => (begun t).pulse_zoneSide _
  case stopDetectExpiry t =>
    exact .ite (begun t) fun _ => (begun t).followed_zoneSide (by simp) (by simp)
  case holdResponseExpiry t => exact .ite (begun t) fun _ => (begun t).setSec_zoneSide _
  case carOutEdge t => exact .ite (begun t) fun _ => (begun t).followed_zoneSide (by simp) (by simp)
  case bufferSensorChange t x level =>
    dsimp only
    split
    · exact begunSide t
    · exact (begun t).sensorChange_zoneSide _ x _
  case bufferSensorQualifyExpiry t x => exact .ite (begun t) fun _ => (begun t).sensorQualify_zoneSide x _
  case readBackChange t level =>
    dsimp only
    split
    · exact begunSide t
    · exact (begunSide t).readBackChange _ _
  case readBackQualifyExpiry t => exact .ite (begun t) fun _ => (begun t).setAtt_zoneSide _
  case secondsExpiry t => exact .ite (begun t) fun _ => (begun t).tick_zoneSide
  case holdLimitExpiry t => exact (h.atTime t).expireHolds.zoneSide
  case entrySilent t => exact (h.atTime t).silenceEntries.zoneSide
  case clashCountExpiry t => exact (h.atTime t).expireClash.zoneSide
  case refreshCountExpiry t => exact (h.atTime t).expireRefresh.zoneSide
  case markCountExpiry t => exact (h.atTime t).expireMarkCount.zoneSide
  case countPeriodExpiry t => exact (h.atTime t).expirePeriod.zoneSide
  case silenceCountExpiry t => exact (h.atTime t).expireSilence.zoneSide
  case countSilenceExpiry t => exact (h.atTime t).expireCountSilence.zoneSide
  case messageDurationExpiry t => exact (h.atTime t).expireDurations.zoneSide
  case endOfPlan t => exact (h.atTime t).reachPlanEnd_zoneSide
  case overtimeLimit t => exact (h.atTime t).expireOvertime.zoneSide
  case dormantCountExpiry t => exact (h.atTime t).expireDormant.zoneSide
  case flashPhaseChange t => exact .ite (begun t) fun _ => ((begunSide t).setDisp _).redraw
  case pictureRefresh t =>
    dsimp only
    split
    · exact begunSide t
    · exact (begunSide t).setDisp _
  case pictureSent t => exact (begunSide t).setDisp _
  case pageTimerExpiry t => exact .ite (begun t) fun _ => ((begunSide t).setDisp _).redraw
  case stepTimerExpiry t => exact (begun t).stepTimer_zoneSide
  case holdSoundEnd t => exact .ite (begun t) fun _ => (begunSide t).endSound rfl rfl
  case raiseChirpEnd t => exact .ite (begun t) fun _ => (begunSide t).endSound rfl rfl
  case lineIdle t => exact (begun t).endGap_zoneSide
  case transmissionStart t => exact (begun t).transmissionStart_zoneSide
  case frameSent t =>
    split
    · exact (begun t).sent_zoneSide _
    · exact begunSide t
  case collision t =>
    split
    · exact (begun t).collide_zoneSide _
    · exact begunSide t
  case backoffEnd t => exact .ite (begun t) fun _ => (begunSide t).setBus _ rfl
  case frameDropped t why => exact (begunSide t).setBus _ rfl
  case zoneStatus t frame => exact (begun t).receive_zoneSide frame _ (begun t).onZoneStatus_zoneSide
  case timeMark t frame => exact (begun t).receive_zoneSide frame _ (begun t).onTimeMark_zoneSide
  case count t frame => exact (begun t).receive_zoneSide frame _ (begun t).onCount_zoneSide
  case message t frame => exact (begun t).receive_zoneSide frame _ (begun t).onMessage_zoneSide
  case withdrawal t frame => exact (begun t).receive_zoneSide frame _ (begun t).onWithdrawal_zoneSide
  case identify t frame =>
    exact (begun t).receive_zoneSide frame _ fun e => (begun t).served_zoneSide e fun v => by
      simp [v.answerRequest_trouble]
  case readRecord t frame =>
    exact (begun t).receive_zoneSide frame _ fun e => (begun t).served_zoneSide e fun v => by
      simp [v.serveRead_trouble]
  case markCollected t frame =>
    exact (begun t).receive_zoneSide frame _ fun e => (begun t).served_zoneSide e fun v => by
      simp [v.serveMark_trouble, v.serveMark_shift, v.serveMark_serial]
  case badRequest t frame =>
    exact (begun t).receive_zoneSide frame _ fun e => (begun t).served_zoneSide e fun v => by
      simp [v.answerRequest_trouble]
  case reply t frame => exact (begun t).receive_zoneSide frame _ fun _ => (begunSide t).endReception
  case wakeActivity t => exact .ite (begun t) fun _ => (begun t).activity_zoneSide
  case wakeWindowExpiry t => exact (begun t).wakeWindow_zoneSide
  case lineBusy t => exact .ite (begun t) fun _ => (begunSide t).setBus _ rfl
  case rstwActive t =>
    dsimp only
    split
    · exact begunSide t
    · exact (begunSide t).setStart _
  case supplyDisturbance t => exact (begunSide t).setCheck _

theorem step_zoneSide {s u : State} (h : s.Ok) (ran : step s = .next u) : u.ZoneSide := by
  unfold step at ran
  split at ran
  · exact .of_ran ran h.zoneSide
  · exact exec_zoneSide (h.setPending _) _ ran

end Sys2Proof.Machine

open Sys2Proof Sys2Proof.Machine

/-- Settles O10: of every command, `exec_zoneSide`; that a mirror composes no record is one of its own laws. -/
theorem stepKeepsZoneTable : Obligations.StepKeepsZoneTable := by
  intro s u h ran
  obtain ⟨table, own⟩ := step_zoneSide h ran
  refine ⟨table, own, fun mirror => ?_⟩
  obtain ⟨-, -, -, -, -, -, -, -, -, -, -, -, -, -, -, -, -, -, -, -, initial, -⟩ :=
    (step_motionSide h ran).mirrorQuiet mirror
  exact initial

end

section
namespace Sys2Proof.Machine

variable {s : State}

/-! ## Counts and sources at their limit (R57, R87, R96, R109, R116, R124) -/

theorem State.expireRefresh_of (hr : s.running = true) (hm : s.mirror = false)
    (full : s.cfg.refresh ≤ s.table.refreshCount) :
    s.expireRefresh = (s.setTable { s.table with refreshCount := 0 }).setBus
      { s.bus with status := s.bus.status.mark } := by
  have counted : s.expireRefresh = (s.setTable { s.table with refreshCount := 0 }).mark .status :=
    if_pos (by simp [hr, full])
  rw [counted, State.mark_value]
  exact if_pos ⟨hr, hm⟩

theorem State.expireMarkCount_of (hr : s.running = true) (hm : s.mirror = false)
    (ha : s.clock.authority = true) (full : 10 ≤ s.clock.markCount) :
    s.expireMarkCount = (s.setClock { s.clock with markCount := 0 }).setBus
      { s.bus with time := s.bus.time.mark } := by
  have counted : s.expireMarkCount = (s.setClock { s.clock with markCount := 0 }).mark .time :=
    if_pos (by simp [hr, ha, full])
  rw [counted, State.mark_value]
  exact if_pos ⟨hr, hm⟩

theorem State.expirePeriod_of (hr : s.running = true) (hm : s.mirror = false)
    (hc : s.cfg.roles.countPoint = true) (hs : s.ret.serial ≠ none) (full : 10 ≤ s.pace.period) :
    s.expirePeriod = (s.setPace { s.pace with period := 0 }).setBus
      { s.bus with count := s.bus.count.mark } := by
  have counted : s.expirePeriod = (s.setPace { s.pace with period := 0 }).mark .count :=
    if_pos (by simp [hr, hc, Option.isSome_iff_ne_none, hs, full])
  rw [counted, State.mark_value]
  exact if_pos ⟨hr, hm⟩

theorem State.expireSilence_of (ha : s.mode.awake = true) (hs : s.clock.source ≠ none)
    (ho : s.clock.sourceOwn = false) (full : 30 ≤ s.clock.silence) :
    s.expireSilence = s.setClock { s.clock with sourceFree := true } :=
  if_pos (by simp [ha, State.sourceIsOther, Option.isSome_iff_ne_none, hs, ho, full])

theorem State.expireCountSilence_of (ha : s.mode.awake = true) (hs : s.pace.source ≠ none)
    (full : 30 ≤ s.pace.silence) : s.expireCountSilence = s.setPace { s.pace with sourceFree := true } :=
  if_pos (by simp [ha, Option.isSome_iff_ne_none, hs, full])

/-- Another station that was not heard is a free source (R87). -/
theorem Clock.isFree_of_silent {c : Clock} (ho : c.sourceOwn = false) :
    ({ c with sourceFree := true } : Clock).isFree = true := by
  simp [Clock.isFree, ho]

end Sys2Proof.Machine

open Sys2Proof Sys2Proof.Machine

/-- Settles O44: each limit's command replaces its count or flag, and a mark fills its slot. -/
theorem limitsOfCountsAndSources : Obligations.LimitsOfCountsAndSources := by
  intro t s b
  have filled (x : Slot) : x.mark.state ≠ .empty := x.mark_value.1
  refine ⟨fun hr hm full => ?_, fun hr hm ha full => ?_, fun hr hm hc hs full => ?_, fun ha hs ho full => ?_,
    fun ha hs full => ?_⟩
  · exact ⟨_, congrArg Host.Outcome.next (State.expireRefresh_of hr hm full), rfl, filled _⟩
  · exact ⟨_, congrArg Host.Outcome.next (State.expireMarkCount_of hr hm ha full), rfl, filled _⟩
  · exact ⟨_, congrArg Host.Outcome.next (State.expirePeriod_of hr hm hc hs full), rfl, filled _⟩
  · exact ⟨_, congrArg Host.Outcome.next (State.expireSilence_of ha hs ho full), rfl, Clock.isFree_of_silent ho⟩
  · exact ⟨_, congrArg Host.Outcome.next (State.expireCountSilence_of ha hs full), rfl, by simp [Pace.isFree]⟩

end

section
namespace Sys2Proof.Machine

variable {b : State}

/-! ## Filtered levels (R54, R62) -/

@[simp] theorem ZoneTable.filter_setFilter (z : ZoneTable) (x : Sensor) (f : Filter) :
    (z.setFilter x f).filter x = f := by
  cases x <;> rfl

@[simp] theorem Pins.sensor_setSensor (p : Pins) (x : Sensor) (v : Bool) : (p.setSensor x v).sensor x = v := by
  cases x <;> rfl

/-- A running board's own zone record shows the flags of both buffer sensors (R55). -/
theorem State.finish_own_sensors (hr : b.running = true) (hm : b.mirror = false) :
    b.finish.table.own.starved = b.table.starved.flag ∧ b.finish.table.own.blocked = b.table.blocked.flag := by
  rw [b.finish_own.1 (State.awake_of_running hr) hm]
  simp [State.ownRecord]

theorem State.finish_filter (x : Sensor) : b.finish.table.filter x = b.table.filter x := by
  cases x <;> simp [ZoneTable.filter]

/-- The attributor's copy of the read-back state follows it at the end of a command (R61, R62). -/
theorem State.finish_copied_readBack : b.finish.att.copies.readBack = b.att.readBack.flag := by
  simp [State.handOn_blocks, State.followCause_att, State.copyInputs_att, State.attInputs]

end Sys2Proof.Machine

open Sys2Proof Sys2Proof.Machine

/-- Settles O41: a change replaces level and filter alone, an expiry the flag, which the blocks then follow. -/
theorem sensorsAreFiltered : Obligations.SensorsAreFiltered := by
  intro t x v s b
  have change : exec (.bufferSensorChange t x v) s = .next (if b.pins.sensor x = v then b
      else (b.setPins (b.pins.setSensor x v)).setTable
        (b.table.setFilter x { b.table.filter x with since := b.now })) := rfl
  have expiry : exec (.bufferSensorQualifyExpiry t x) s = .next
      (if b.sensorSampled x && (b.table.filter x).since + bufferFilter ≤ b.now then
        (b.setTable (b.table.setFilter x ⟨(b.table.filter x).since, b.pins.sensor x⟩)).finish else b) := rfl
  have changeBack : exec (.readBackChange t v) s = .next (if b.pins.holdrb = v then b
      else (b.setPins { b.pins with holdrb := v }).setAtt
        { b.att with readBack := { b.att.readBack with since := b.now } }) := rfl
  have expiryBack : exec (.readBackQualifyExpiry t) s = .next
      (if b.running && b.att.readBack.since + readBackFilter ≤ b.now then
        (b.setAtt { b.att with readBack := ⟨b.att.readBack.since, b.pins.holdrb⟩ }).finish else b) := rfl
  clear_value b
  refine ⟨fun moved => ?_, fun sampled stood => ?_, fun moved => ?_, fun run stood => ?_⟩
  · rw [change, if_neg moved]
    exact ⟨_, rfl, by simp, by simp, by simp⟩
  · have due : (b.sensorSampled x && (b.table.filter x).since + bufferFilter ≤ b.now) = true :=
      (Bool.and_eq_true ..).mpr ⟨sampled, decide_eq_true stood⟩
    have run : b.running = true := (Bool.and_eq_true .. ▸ sampled).1
    rw [expiry, if_pos due]
    refine ⟨_, rfl, by rw [State.finish_filter]; simp, fun mirror => ?_, State.followedFrom_finish _⟩
    obtain ⟨starved, blocked⟩ := State.finish_own_sensors
      (b := b.setTable (b.table.setFilter x ⟨(b.table.filter x).since, b.pins.sensor x⟩)) run mirror
    cases x with
    | strv => exact starved
    | blkd => exact blocked
  · rw [changeBack, if_neg moved]
    exact ⟨_, rfl, rfl, rfl, rfl⟩
  · have due : (b.running && b.att.readBack.since + readBackFilter ≤ b.now) = true :=
      (Bool.and_eq_true ..).mpr ⟨run, decide_eq_true stood⟩
    rw [expiryBack, if_pos due]
    exact ⟨_, rfl, by simp, State.finish_copied_readBack, State.followedFrom_finish _⟩

end

section
namespace Sys2Proof.Machine

variable {b v : State} {x : Tx}

/-! ## The end of an attempt (R158, R159) -/

/-- `v` is `b` with an attempt ended and the blocks yet to follow: bus controller, request server and what the
zone table tells of the own transmissions are as they may be, all else that the end of a command reads from
stands. -/
structure State.AttemptEnded (b v : State) : Prop where
  mode : v.mode = b.mode
  cfg : v.cfg = b.cfg
  pins : v.pins = b.pins
  calls : v.calls = b.calls
  sec : v.sec = b.sec
  out : v.out = b.out
  clock : v.clock = b.clock
  ret : v.ret = b.ret
  disp : v.disp = b.disp
  own : v.table.own = b.table.own
  starved : v.table.starved = b.table.starved
  blocked : v.table.blocked = b.table.blocked

theorem State.AttemptEnded.setBus (b : State) (y : Bus) : b.AttemptEnded (b.setBus y) := by
  constructor <;> rfl

theorem State.reportSent_table (s : State) (x : Tx) :
    (s.reportSent x).table = { s.table with
      refreshCount := if x.slot = .status then 0 else s.table.refreshCount
      restarted := s.table.restarted && !(x.slot = .status ∧ frameRestarted x.frame = true : Bool) } := by
  unfold State.reportSent
  cases x.slot <;> simp

theorem State.reportSent_req (s : State) (x : Tx) :
    (s.reportSent x).req = if x.slot = .reply then { s.req with inFlight := none } else s.req := by
  unfold State.reportSent
  cases x.slot <;> simp

theorem State.replyEnded_req (s : State) (x : Tx) (f : Requests → Requests) :
    (s.replyEnded x f).req = if x.slot = .reply then f s.req else s.req := by
  unfold State.replyEnded
  cases x.slot <;> simp

theorem State.AttemptEnded.reportSent (h : b.AttemptEnded v) (x : Tx) : b.AttemptEnded (v.reportSent x) := by
  obtain ⟨mode, cfg, pins, calls, sec, out, clock, ret, disp, own, starved, blocked⟩ := h
  constructor <;> simpa [State.reportSent_table]

theorem State.AttemptEnded.replyEnded (h : b.AttemptEnded v) (x : Tx) (f : Requests → Requests) :
    b.AttemptEnded (v.replyEnded x f) := by
  obtain ⟨mode, cfg, pins, calls, sec, out, clock, ret, disp, own, starved, blocked⟩ := h
  constructor <;> simpa

/-- What an ended attempt leaves alone, and how the end of the command goes on from there. -/
theorem State.AttemptEnded.finish_kept (h : b.AttemptEnded v) :
    v.finish.calls = b.calls ∧ v.finish.clock = b.clock ∧ v.finish.mode = b.mode ∧ v.finish.cfg = b.cfg ∧
    v.finish.pins = b.pins ∧ v.finish.disp.store = b.disp.store ∧ b.LinkFollows v.finish :=
  ⟨by simp [h.calls], by simp [h.clock], by simp [h.mode], by simp [h.cfg], by simp [h.pins], by simp [h.disp],
    State.linkFollows_congr v.finish_linkFollows (congrArg Display.picture h.disp) (congrArg Display.link h.disp)⟩

theorem State.finish_reported (v : State) :
    v.finish.table.refreshCount = v.table.refreshCount ∧ v.finish.table.restarted = v.table.restarted := by
  simp [v.handOn_table]

/-- The end of a command may mark the STATUS slot, and leaves all else of the bus controller (R56). -/
theorem State.finish_bus (v : State) :
    v.finish.bus = { v.bus with status := v.finish.bus.status } ∧
    (v.finish.bus.status = v.bus.status ∨ v.finish.bus.status = v.bus.status.mark) := by
  rw [(v.finish_blocks).2.2.2.2.2.2.1, v.handOn_bus]
  refine ⟨rfl, ?_⟩
  dsimp only
  split
  · exact .inl rfl
  · exact .inr rfl

theorem State.finish_slot (v : State) {i : SlotId} (hi : i ≠ .status) : v.finish.bus.slot i = v.bus.slot i := by
  rw [(v.finish_bus).1]
  cases i with
  | status => exact absurd rfl hi
  | reply => rfl
  | count => rfl
  | time => rfl

theorem State.finish_status_of (v : State) (hr : v.running = true) (hm : v.mirror = false)
    (changed : v.finish.table.own ≠ v.table.own) : v.finish.bus.status = v.bus.status.mark := by
  rw [(v.finish_blocks).2.2.2.2.2.2.1, v.handOn_bus]
  rw [(v.finish_blocks).2.1] at changed
  simp [changed, hr, hm]

/-- A changed bus-trouble flag is a changed own zone record, which marks STATUS (R55, R56). -/
theorem State.AttemptEnded.status_of_trouble (h : b.AttemptEnded v) (hr : b.running = true)
    (hm : b.mirror = false) (own : b.OwnFollows) (changed : v.bus.trouble ≠ b.bus.trouble) :
    v.finish.bus.status = v.bus.status.mark := by
  have run : v.running = true := (State.running_congr h.mode).trans hr
  have mirror : v.mirror = false := (State.mirror_congr h.cfg).trans hm
  refine v.finish_status_of run mirror fun same => changed ?_
  have after : v.finish.table.own.busTrouble = v.bus.trouble := by
    rw [v.finish_own.1 (State.awake_of_running run) mirror]
    simp [State.ownRecord]
  have before : v.table.own.busTrouble = b.bus.trouble := by
    rw [h.own, own.1 (State.awake_of_running hr) hm]
    rfl
  exact after.symm.trans ((congrArg OwnRecord.busTrouble same).trans before)

/-- On a sound board an ended attempt that leaves the bus-trouble flag leaves the own zone record: its other
sources all stand. -/
theorem State.AttemptEnded.own_of_trouble (h : b.AttemptEnded v) (ok : b.Ok) (hx : b.bus.tx = some x)
    (same : v.bus.trouble = b.bus.trouble) : v.finish.table.own = v.table.own := by
  have awake := ok.awake_of_tx hx
  have mirror := ok.mirror_of_tx hx
  obtain ⟨-, -, -, -, -, times, -⟩ := ok.sectionOk
  have current : v.currentTimes = b.currentTimes :=
    State.currentTimes_congr h.mode h.cfg h.clock (congrArg Retained.shift h.ret)
  have wanted : v.holdWanted = b.holdWanted :=
    State.holdWanted_congr h.mode h.cfg (congrArg CallUnit.list h.calls) (congrArg CallUnit.overflow h.calls)
  have running := State.running_congr h.mode
  have sec : v.finish.sec = b.sec := by
    obtain ⟨-, -, -, -, -, -, -, -, -, still, -⟩ := v.followedFrom_finish
    have stands : v.sec.times = v.currentTimes ∨ v.running = false := by
      cases run : b.running with
      | false => exact .inr (running.trans run)
      | true => exact .inl (by rw [h.sec, current, times run])
    obtain ⟨-, -, -, -, kept⟩ := still stands
    rw [kept (by rw [h.out, wanted]; exact ok.holdFollows), h.sec]
  have record : v.finish.ownRecord = b.ownRecord := by
    apply State.ownRecord_congr <;>
      simp only [sec, State.finish_blocks, State.finish_frame, State.handOn_kept, State.handOn_ret_frame, h.mode,
        h.cfg, h.calls, h.clock, h.ret, h.starved, h.blocked, same]
  rw [v.finish_own.1 (by rw [h.mode, awake]) ((State.mirror_congr h.cfg).trans mirror), record, h.own,
    ok.ownFollows.1 awake mirror]

/-- On a sound board the end of an attempt marks STATUS exactly where it changed the bus-trouble flag (R56). -/
theorem State.AttemptEnded.finish_status (h : b.AttemptEnded v) (ok : b.Ok) (hx : b.bus.tx = some x)
    (run : v.bus.trouble ≠ b.bus.trouble → b.running = true) :
    v.finish.bus.status = if v.bus.trouble = b.bus.trouble then v.bus.status else v.bus.status.mark := by
  split
  · next same =>
    have own := h.own_of_trouble ok hx same
    rw [(v.finish_blocks).2.1] at own
    rw [(v.finish_blocks).2.2.2.2.2.2.1, v.handOn_bus]
    simp [own]
  · next changed =>
    exact h.status_of_trouble (run changed) (ok.mirror_of_tx hx) ok.ownFollows changed

/-- A sound board whose attempt has not slept is a running one (R168). -/
theorem State.Ok.running_of_tx (h : b.Ok) (hx : b.bus.tx = some x) (hs : x.slept = false) : b.running = true := by
  have awake := h.awake_of_tx hx
  obtain ⟨-, -, -, -, -, slept, -⟩ := h.slotsOk
  have up : b.mode ≠ .dormant := fun m => by simp [slept m x hx] at hs
  unfold State.running
  cases m : b.mode <;> simp_all [Mode.awake, Mode.runs]

/-! ## A frame sent (R158) -/

/-- The slot an attempt leaves when its frame is off: PENDING where it was re-marked meanwhile, and not of an
attempt that has slept (R158, R168). -/
def Tx.freed (x : Tx) (y : Bus) : Slot :=
  if (y.slot x.slot).remark = true ∧ x.slept = false then ⟨.pending, 0, false⟩ else ⟨.empty, 0, false⟩

/-- The board after FRAME_SENT, before its blocks follow. -/
def State.frameOff (x : Tx) (s : State) : State :=
  let b := { s.bus with tx := none, gapFrom := s.now + bitTime }
  if x.slept then ((s.setBus (b.setSlot x.slot .clear)).reportSent x).replyEnded x Requests.lost
  else (s.setBus { b.setSlot x.slot (b.slot x.slot).ended with trouble := false }).reportSent x

theorem State.sent_eq (s : State) (x : Tx) : s.sent x = (s.frameOff x).finish := by
  unfold State.sent State.frameOff
  dsimp only
  split <;> rfl

theorem State.frameOff_ended (b : State) (x : Tx) : b.AttemptEnded (b.frameOff x) := by
  unfold State.frameOff
  dsimp only
  split
  · exact ((State.AttemptEnded.setBus b _).reportSent x).replyEnded x _
  · exact (State.AttemptEnded.setBus b _).reportSent x

theorem Bus.setSlot_sent (y : Bus) (i : SlotId) (f : Slot) (g : Time) :
    ({ y with tx := none, gapFrom := g } : Bus).setSlot i f = { y.setSlot i f with tx := none, gapFrom := g } := by
  cases i <;> rfl

theorem State.frameOff_bus (s : State) (x : Tx) :
    (s.frameOff x).bus = { s.bus.setSlot x.slot (x.freed s.bus) with
      tx := none, gapFrom := s.now + bitTime, trouble := s.bus.trouble && x.slept } := by
  have slot : ({ s.bus with tx := none, gapFrom := s.now + bitTime } : Bus).slot x.slot = s.bus.slot x.slot := by
    cases x.slot <;> rfl
  unfold State.frameOff Tx.freed
  cases hs : x.slept with
  | true => cases x.slot <;> simp [Bus.setSlot, Slot.clear]
  | false => simp [slot, Slot.ended, Slot.clear, Bus.setSlot_sent]

theorem State.frameOff_table (s : State) (x : Tx) :
    (s.frameOff x).table = { s.table with
      refreshCount := if x.slot = .status then 0 else s.table.refreshCount
      restarted := s.table.restarted && !(x.slot = .status ∧ frameRestarted x.frame = true : Bool) } := by
  unfold State.frameOff
  dsimp only
  split <;> simp [State.reportSent_table]

theorem State.frameOff_req (s : State) (x : Tx) :
    (s.frameOff x).req = if x.slot ≠ .reply then s.req
      else if x.slept = true then ⟨none, none⟩ else { s.req with inFlight := none } := by
  unfold State.frameOff
  dsimp only
  split <;> by_cases reply : x.slot = .reply <;>
    simp [State.reportSent_req, State.replyEnded_req, Requests.lost, *]

theorem State.frameOff_slot (s : State) (x : Tx) (i : SlotId) :
    (s.frameOff x).bus.slot i = (s.bus.setSlot x.slot (x.freed s.bus)).slot i := by
  rw [s.frameOff_bus]
  cases i <;> rfl

theorem State.frameOff_status (s : State) (x : Tx) :
    (s.frameOff x).bus.status = if x.slot = .status then x.freed s.bus else s.bus.status := by
  have slot := s.frameOff_slot x .status
  split
  · next mine => exact slot.trans (by rw [mine, Bus.slot_setSlot_self])
  · next other => exact slot.trans (Bus.slot_setSlot_other _ _ _ _ (Ne.symm other))

/-- The flag a sent frame clears is one that was set, by an attempt that has not slept (R158, R168). -/
theorem State.frameOff_trouble_changed :
    (b.frameOff x).bus.trouble ≠ b.bus.trouble ↔ b.bus.trouble = true ∧ x.slept = false := by
  rw [b.frameOff_bus]
  cases b.bus.trouble <;> cases x.slept <;> simp

end Sys2Proof.Machine

open Sys2Proof Sys2Proof.Machine

/-- Settles O52: the frame is off (`State.frameOff`), and STATUS is marked where that changed the bus-trouble
flag (`State.AttemptEnded.finish_status`). -/
theorem sentFrameFreesSlot : Obligations.SentFrameFreesSlot := by
  intro t x s b free status hx
  have ran : exec (.frameSent t) s = .next (match b.bus.tx with | some x => b.sent x | none => b) := rfl
  have freed : x.freed b.bus = free := rfl
  clear_value b
  rw [ran, hx]
  dsimp only
  rw [b.sent_eq]
  have ended := b.frameOff_ended x
  have statusOff : (b.frameOff x).bus.status = status := by rw [b.frameOff_status, freed]
  have off := b.frameOff_bus x
  clear_value free
  obtain ⟨calls, clock, mode, cfg, pins, store, link⟩ := ended.finish_kept
  obtain ⟨bus, marked⟩ := (b.frameOff x).finish_bus
  obtain ⟨refresh, restarted⟩ := (b.frameOff x).finish_reported
  have slot (i : SlotId) (hi : i ≠ .status) := ((b.frameOff x).finish_slot hi).trans (b.frameOff_slot x i)
  refine ⟨_, rfl, ?_, ?_, fun other => ?_, fun mine => ?_, fun ok => ?_, ?_, ?_, ?_, ?_, ?_, ?_, fun j hj hs => ?_,
    fun trouble slept run mirror own => ?_, calls, clock, mode, cfg, pins, store, link⟩
  · rw [bus, off]
  · rw [bus, off]
    simp
  · rw [slot _ other, Bus.slot_setSlot_self, freed]
  · rw [statusOff, show status = free from if_pos mine] at marked
    exact marked
  · have run (changed : (b.frameOff x).bus.trouble ≠ b.bus.trouble) : b.running = true :=
      ok.running_of_tx hx (State.frameOff_trouble_changed.mp changed).2
    rw [ended.finish_status ok hx run, statusOff]
    simp only [← State.frameOff_trouble_changed (b := b) (x := x), ne_eq, ite_not]
  · rw [bus, off]
  · rw [refresh, b.frameOff_table]
  · rw [restarted, b.frameOff_table]
  · simp [b.frameOff_req]
  · rw [bus, off]
    simp
  · rw [bus, off]
    simp
  · rw [slot _ hs, Bus.slot_setSlot_other _ _ _ _ hj]
  · rw [ended.status_of_trouble run mirror own (State.frameOff_trouble_changed.mpr ⟨trouble, slept⟩)]
    exact (Slot.mark_value _).1

end

section
namespace Sys2Proof.Machine

variable {b v : State} {x : Tx}

/-! ## A collision (R159 to R161) -/

/-- The bus controller while a collision's jam is on the line (R159). -/
def State.jamBus (s : State) : Bus :=
  { s.bus with tx := none, jam := some (jamStart s.now), idle := false, gapFrom := jamEnd s.now }

@[simp] theorem State.jamBus_slot (s : State) (i : SlotId) : s.jamBus.slot i = s.bus.slot i := by
  cases i <;> rfl

/-- The board after a collision that leaves the bus controller `y`, before its blocks follow. -/
def State.collided (s : State) (x : Tx) (y : Bus) (f : Requests → Requests) : State :=
  (s.setBus y).replyEnded x f

@[simp] theorem State.collided_bus (s : State) (x : Tx) (y : Bus) (f : Requests → Requests) :
    (s.collided x y f).bus = y := by
  simp [State.collided]

theorem State.collided_req (s : State) (x : Tx) (y : Bus) (f : Requests → Requests) :
    (s.collided x y f).finish.req = if x.slot = .reply then f s.req else s.req := by
  simp [State.collided, State.replyEnded_req]

theorem State.collided_ended (b : State) (x : Tx) (y : Bus) (f : Requests → Requests) :
    b.AttemptEnded (b.collided x y f) :=
  (State.AttemptEnded.setBus b y).replyEnded x f

theorem State.collide_of_slept (s : State) (hs : x.slept = true) :
    s.collide x = (s.collided x (s.jamBus.setSlot x.slot .clear) Requests.lost).finish :=
  if_pos hs

theorem State.collide_of_below (s : State) (hs : x.slept = false) (hc : (s.bus.slot x.slot).c + 1 < 8) :
    s.collide x = (s.collided x ((s.jamBus.draw ((s.bus.slot x.slot).c + 1) (jamEnd s.now)).setSlot x.slot
      ((s.bus.slot x.slot).collided x.slot)) Requests.collided).finish := by
  rw [← s.jamBus_slot] at hc ⊢
  exact (if_neg (by simp [hs])).trans (if_pos hc)

theorem State.collide_of_eighth (s : State) (hs : x.slept = false) (hc : 8 ≤ (s.bus.slot x.slot).c + 1) :
    s.collide x = (s.collided x { s.jamBus.setSlot x.slot (s.bus.slot x.slot).ended with trouble := true }
      fun r => { r with inFlight := none }).finish := by
  rw [← s.jamBus_slot] at hc ⊢
  exact (if_neg (by simp [hs])).trans (if_neg (Nat.not_lt.mpr hc))

/-- A jam drives the line to space for 20 bit times, and only then (R159). -/
theorem State.finish_jammed (v : State) {m : Time} (tx : v.bus.tx = none) (jam : v.bus.jam = some m)
    (idle : v.bus.idle = false) :
    v.finish.bus.tx = none ∧ v.finish.bus.jam = some m ∧ v.finish.bus.idle = false ∧
    ∀ n : Time, v.finish.bus.driverEnabled n = true ↔ m ≤ n ∧ n < m + 160 := by
  have txU : v.finish.bus.tx = none := by rw [(v.finish_bus).1, ← tx]
  have jamU : v.finish.bus.jam = some m := by rw [(v.finish_bus).1, ← jam]
  refine ⟨txU, jamU, by rw [(v.finish_bus).1, ← idle], fun n => ?_⟩
  obtain ⟨-, low, driver⟩ := v.finish.bus.txLevel_value n
  rw [driver, Bool.not_eq_true', low txU, jamU]
  simp

/-- The generator's next state: a shift, and the taps where a 1 falls out (R161). -/
theorem nextRandom_eq (g : BitVec 16) :
    nextRandom g = if g.toNat % 2 = 1 then (g >>> 1) ^^^ 0xB400#16 else g >>> 1 := by
  have bit : g.getLsbD 0 = decide (g.toNat % 2 = 1) := Nat.testBit_zero _
  simp only [nextRandom, bit, decide_eq_true_eq]

/-- What a collision leaves of the bus controller but its slot, its draw and the bus-trouble flag. -/
structure State.Jammed (b : State) (x : Tx) (y : Bus) : Prop where
  tx : y.tx = none
  jam : y.jam = some (b.now + 8)
  idle : y.idle = false
  slots : ∀ j, j ≠ x.slot → y.slot j = b.bus.slot j

theorem State.Jammed.collided_kept {y : Bus} (h : b.Jammed x y) (f : Requests → Requests) :
    let u := (b.collided x y f).finish
    (∀ j, j ≠ x.slot → j ≠ .status → u.bus.slot j = b.bus.slot j) ∧
    u.table.refreshCount = b.table.refreshCount ∧ u.table.restarted = b.table.restarted ∧
    u.calls = b.calls ∧ u.clock = b.clock ∧ u.mode = b.mode ∧ u.cfg = b.cfg ∧ b.LinkFollows u := by
  obtain ⟨calls, clock, mode, cfg, -, -, link⟩ := (b.collided_ended x y f).finish_kept
  obtain ⟨refresh, restarted⟩ := (b.collided x y f).finish_reported
  have table : (b.collided x y f).table = b.table := by simp [State.collided]
  refine ⟨fun j hj hs => ?_, by rw [refresh, table], by rw [restarted, table], calls, clock, mode, cfg, link⟩
  rw [State.finish_slot _ hs, b.collided_bus, h.slots j hj]

theorem State.Jammed.setSlot (b : State) (x : Tx) (y : Slot) : b.Jammed x (b.jamBus.setSlot x.slot y) where
  tx := by simp [State.jamBus]
  jam := by simp [State.jamBus, jamStart, bitTime]
  idle := by simp [State.jamBus]
  slots j hj := by rw [Bus.slot_setSlot_other _ _ _ _ hj, b.jamBus_slot]

/-- Draw and bus-trouble flag are no part of what the jam leaves. -/
theorem State.Jammed.congr {y z : Bus} (h : b.Jammed x y) (tx : z.tx = y.tx) (jam : z.jam = y.jam)
    (idle : z.idle = y.idle) (slots : ∀ j, z.slot j = y.slot j) : b.Jammed x z :=
  ⟨tx.trans h.tx, jam.trans h.jam, idle.trans h.idle, fun j hj => (slots j).trans (h.slots j hj)⟩

theorem Bus.setSlot_draw_slot (y : Bus) (c : Nat) (m : Time) (i j : SlotId) (z : Slot) :
    ((y.draw c m).setSlot i z).slot j = (y.setSlot i z).slot j := by
  cases i <;> cases j <;> rfl

theorem Bus.trouble_slot (y : Bus) (d : Bool) (j : SlotId) : ({ y with trouble := d } : Bus).slot j = y.slot j := by
  cases j <;> rfl

theorem State.Jammed.backedOff (b : State) (x : Tx) (c : Nat) (z : Slot) :
    b.Jammed x ((b.jamBus.draw c (jamEnd b.now)).setSlot x.slot z) :=
  (State.Jammed.setSlot b x z).congr (by simp [Bus.draw]) (by simp [Bus.draw]) (by simp [Bus.draw])
    fun _ => Bus.setSlot_draw_slot ..

theorem State.Jammed.discarded (b : State) (x : Tx) (z : Slot) :
    b.Jammed x { b.jamBus.setSlot x.slot z with trouble := true } :=
  (State.Jammed.setSlot b x z).congr rfl rfl rfl fun _ => Bus.trouble_slot ..

/-- A slot that is PENDING stays as it is at the end of a command (R156). -/
theorem State.finish_slot_pending (v : State) (i : SlotId) (h : (v.bus.slot i).state = .pending) :
    v.finish.bus.slot i = v.bus.slot i := by
  by_cases hi : i = .status
  · subst hi
    rcases v.finish_bus.2 with same | marked
    · exact same
    · exact marked.trans ((Slot.mark_value _).2.2.1 h)
  · exact v.finish_slot hi

theorem State.jamBus_status (s : State) (i : SlotId) (z : Slot) :
    (s.jamBus.setSlot i z).slot .status = if i = .status then z else s.bus.status := by
  split
  · next mine => rw [mine, Bus.slot_setSlot_self]
  · next other => exact (Bus.slot_setSlot_other _ _ _ _ (Ne.symm other)).trans (s.jamBus_slot .status)

/-- On a sound board a collision leaves STATUS as the bus controller has it, marked where the bus-trouble flag
changed. -/
theorem State.collided_status (ok : b.Ok) (hx : b.bus.tx = some x) (y : Bus) (f : Requests → Requests)
    (run : y.trouble ≠ b.bus.trouble → b.running = true) :
    (b.collided x y f).finish.bus.status =
      if y.trouble = b.bus.trouble then y.slot .status else (y.slot .status).mark := by
  rw [(b.collided_ended x y f).finish_status ok hx (by rwa [b.collided_bus]), b.collided_bus]
  rfl

/-- A collision that leaves the bus-trouble flag leaves STATUS to its own slot's change. -/
theorem State.collided_status_same (ok : b.Ok) (hx : b.bus.tx = some x) (y : Bus) (f : Requests → Requests)
    (same : y.trouble = b.bus.trouble) : (b.collided x y f).finish.bus.status = y.slot .status := by
  rw [State.collided_status ok hx y f (absurd same), if_pos same]

theorem State.collided_finish_bus (b : State) (x : Tx) (y : Bus) (f : Requests → Requests) :
    (b.collided x y f).finish.bus = { y with status := (b.collided x y f).finish.bus.status } := by
  have left := (b.collided x y f).finish_bus.1
  rwa [b.collided_bus] at left

end Sys2Proof.Machine

open Sys2Proof Sys2Proof.Machine

/-- Settles O53: the three branches of `State.collide`, each a jam (`State.finish_jammed`) that leaves all but
its slot, draw and flag (`State.Jammed.collided_kept`). -/
theorem collisionBacksOffOrDiscards : Obligations.CollisionBacksOffOrDiscards := by
  intro t x g s b c g' r ended status jammedFrom kept hx hg
  have ran : exec (.collision t) s = .next (match b.bus.tx with | some x => b.collide x | none => b) := rfl
  have jammed {y : Bus} (f : Requests → Requests) (h : b.Jammed x y) :
      jammedFrom (b.collided x y f).finish (b.now + 8) ∧ kept (b.collided x y f).finish := by
    refine ⟨State.finish_jammed _ ?_ ?_ ?_, h.collided_kept f⟩
    · rw [b.collided_bus, h.tx]
    · rw [b.collided_bus, h.jam]
    · rw [b.collided_bus, h.idle]
  have random : nextRandom g = g' := nextRandom_eq g
  have ended_eq : (b.bus.slot x.slot).ended = ended := rfl
  clear_value b jammedFrom kept g' ended
  rw [ran, hx]
  dsimp only
  refine ⟨fun awake run below => ?_, fun awake run full => ?_, fun slept => ?_⟩
  · rw [b.collide_of_below awake below]
    obtain ⟨wave, same⟩ := jammed Requests.collided (State.Jammed.backedOff b x _ _)
    refine ⟨_, rfl, wave, same, ?_, ?_, ?_, ?_, fun ok other => ?_, fun mine => ?_, fun other => ?_⟩
    · rw [State.finish_slot_pending _ _ (by simp [Slot.collided]), b.collided_bus, Bus.slot_setSlot_self]
      by_cases mine : x.slot = .reply
      · simp [Slot.collided, mine, c, Bus.slot]
      · simp [Slot.collided, mine, c]
    · rw [State.collided_finish_bus]
      simp [Bus.draw, State.jamBus, hg, random]
    · rw [State.collided_finish_bus]
      simp [Bus.draw, State.jamBus, hg, random]
      rfl
    · rw [State.collided_finish_bus]
      simp [Bus.draw, State.jamBus]
    · rw [State.collided_status_same ok hx _ _ (by simp [Bus.draw, State.jamBus]), Bus.setSlot_draw_slot,
        b.jamBus_status, if_neg other]
    · rw [b.collided_req, if_pos mine]
      rfl
    · rw [b.collided_req, if_neg other]
  · rw [b.collide_of_eighth awake full, ended_eq]
    obtain ⟨wave, same⟩ := jammed (fun q => { q with inFlight := none }) (State.Jammed.discarded b x ended)
    have statusNow : ({ b.jamBus.setSlot x.slot ended with trouble := true } : Bus).slot .status = status := by
      rw [Bus.trouble_slot, b.jamBus_status]
    refine ⟨_, rfl, wave, same, ?_, ?_, ?_, fun other => ?_, fun ok => ?_, fun clear mirror own => ?_, ?_⟩
    · rw [State.collided_finish_bus]
    · rw [State.collided_finish_bus]
      simp [State.jamBus, hg]
    · rw [State.collided_finish_bus]
      simp [State.jamBus]
    · rw [State.finish_slot _ other, b.collided_bus, Bus.trouble_slot, Bus.slot_setSlot_self]
    · rw [State.collided_status ok hx _ _ (fun _ => run), statusNow]
      simp only [eq_comm]
    · rw [(b.collided_ended x _ _).status_of_trouble run mirror own (by simp [clear])]
      exact (Slot.mark_value _).1
    · rw [b.collided_req]
  · rw [b.collide_of_slept slept]
    obtain ⟨wave, same⟩ := jammed Requests.lost (State.Jammed.setSlot b x .clear)
    have trouble : (b.jamBus.setSlot x.slot .clear).trouble = b.bus.trouble := by simp [State.jamBus]
    refine ⟨_, rfl, wave, same, ?_, ?_, ?_, fun sound => ?_, fun ok other => ?_, ?_⟩
    · rw [State.collided_finish_bus, ← trouble]
    · rw [State.collided_finish_bus]
      simp [State.jamBus, hg]
    · rw [State.collided_finish_bus]
      simp [State.jamBus]
    · by_cases mine : x.slot = .status
      · have ok := sound.resolve_left (not_not_intro mine)
        have left := State.collided_status_same ok hx _ Requests.lost trouble
        rw [b.jamBus_status, if_pos mine] at left
        rw [mine] at left ⊢
        exact left
      · rw [State.finish_slot _ mine, b.collided_bus, Bus.slot_setSlot_self]
        rfl
    · rw [State.collided_status_same ok hx _ _ trouble, b.jamBus_status, if_neg other]
    · rw [b.collided_req]
      rfl

end

section
namespace Sys2Proof.Machine

/-! ## Bytes and codes as they are read again (R169, R170) -/

theorem byteOf_toNat {n : Nat} (h : n < 256) : (byteOf n).toNat = n :=
  (BitVec.toNat_ofNat n 8).trans (Nat.mod_eq_of_lt h)

/-- A 16-bit value reads back from its two bytes (R169). -/
theorem be16_word {n : Nat} (h : n < 65536) : (byteOf (n / 256)).toNat * 256 + (byteOf n).toNat = n := by
  rw [byteOf_toNat (Nat.div_lt_of_lt_mul h), byteOf, BitVec.toNat_ofNat]
  exact Nat.div_add_mod' n 256

theorem testBit_flags (bits : List Bool) (j : Nat) :
    (bits.foldr (fun (b : Bool) acc => 2 * acc + b.toNat) 0).testBit j = bits.getD j false := by
  induction bits generalizing j with
  | nil => simp
  | cons b rest ih =>
    rw [List.foldr_cons, ← Nat.bit_val]
    cases j with
    | zero => simp
    | succ j => simpa [Nat.testBit_bit_succ] using ih j

/-- A flag reads back from its byte (R169). -/
theorem flagAt_flagByte (bits : List Bool) {j : Nat} (h : j < 8) :
    flagAt (flagByte bits).toNat j = bits.getD j false := by
  have byte : (flagByte bits).toNat = bits.foldr (fun b acc => 2 * acc + b.toNat) 0 % 2 ^ 8 :=
    BitVec.toNat_ofNat ..
  rw [flagAt, byte, Nat.testBit_mod_two_pow, testBit_flags]
  simp [h]

theorem kindCode_le (k : Option CallKind) : kindCode k ≤ 4 := by
  rcases k with _ | _ | _ | _ | _ <;> decide

theorem kindOfCode_kindCode (k : Option CallKind) : kindOfCode (kindCode k) = k := by
  rcases k with _ | _ | _ | _ | _ <;> rfl

theorem kindCode_ne_zero (k : Option CallKind) : kindCode k ≠ 0 ↔ k.isSome = true := by
  rw [← kindOfCode_isSome (kindCode_le k), kindOfCode_kindCode]

theorem Condition.code_le (c : Condition) : c.code ≤ 2 := by cases c <;> decide

theorem conditionOfCode_code (c : Condition) : conditionOfCode c.code = some c := by cases c <;> rfl

theorem Condition.code_eq_two {c : Condition} : c.code = 2 ↔ c = .hold := by cases c <;> decide

theorem Condition.code_eq_one {c : Condition} : c.code = 1 ↔ c = .call := by cases c <;> decide

theorem Motion.code_le (m : Motion) : m.code ≤ 2 := by cases m <;> decide

theorem motionOfCode_code (m : Motion) : motionOfCode m.code = some m := by cases m <;> rfl

theorem startCode_lt {x : Option Nat} (h : ∀ y ∈ x, y ≤ 57599) : startCode x < 65536 := by
  cases x with
  | none => decide
  | some y =>
    have := h y rfl
    simp only [startCode]
    omega

theorem startOfCode_startCode {x : Option Nat} (h : ∀ y ∈ x, y ≤ 57599) : startOfCode (startCode x) = x := by
  cases x with
  | none => rfl
  | some y => exact if_pos (h y rfl)

/-! ## The own zone record within its ranges (R21, R42, R53) -/

/-- The own zone record as the checks of R44 want one: a hold kind exactly under HOLD, an open call under CALL,
an oldest kind exactly with an open call, and its ranges. -/
structure OwnRecord.Sound (r : OwnRecord) : Prop where
  hold : r.condition = .hold ↔ r.holdKind.isSome = true
  call : r.condition = .call → r.openCalls ≠ 0
  oldest : r.oldestKind.isSome = true ↔ 0 < r.openCalls
  calls : r.openCalls ≤ 16
  start : ∀ y ∈ r.holdStart, y ≤ 57599
  shift : r.shift ≤ 3
  serial : r.serial ≤ 255

/-- The earliest holder is one of the holders (R21). -/
theorem earliestHolder_mem {l : List Candidate} {h : Candidate} (e : earliestHolder l = some h) : h ∈ l := by
  induction l generalizing h with
  | nil => exact absurd e (by simp [earliestHolder])
  | cons x rest ih =>
    unfold earliestHolder at e
    split at e
    · exact Option.some.inj e ▸ List.mem_cons_self
    · next g found =>
      split at e
      · exact Option.some.inj e ▸ List.mem_cons_of_mem _ (ih found)
      · exact Option.some.inj e ▸ List.mem_cons_self

/-- A holder shows the start of a call of the list or of the overflow hold (R21). -/
theorem CallUnit.start_of_holder {c : CallUnit} {zone : Nat} {h : Candidate} (hh : h ∈ c.holders zone) :
    (∃ x ∈ c.list, h.start = x.holdStart) ∨ ∃ o ∈ c.overflow, h.start = o.setAt := by
  rcases List.mem_append.mp hh with listed | spilled
  · obtain ⟨x, hx, rfl⟩ := List.mem_map.mp listed
    exact .inl ⟨x, (List.mem_filter.mp hx).1, rfl⟩
  · cases ho : c.overflow with
    | none => simp [ho] at spilled
    | some o =>
      rw [ho] at spilled
      exact .inr ⟨o, rfl, congrArg Candidate.start (List.mem_singleton.mp spilled)⟩

variable {s : State}

theorem State.ownHolder_start (h : s.CallsOk) {c : Candidate} (hc : s.ownHolder = some c) :
    ∀ y ∈ c.start, y ≤ 57599 := by
  obtain ⟨-, -, calls, overflow, -⟩ := h
  have held : s.holdWanted = true := by
    by_contra idle
    exact absurd hc (by simp [State.ownHolder, idle])
  have earliest : earliestHolder (s.calls.holders s.cfg.zone) = some c := by
    rw [← hc, State.ownHolder, if_pos held]
  rcases CallUnit.start_of_holder (earliestHolder_mem earliest) with ⟨x, hx, start⟩ | ⟨o, ho, start⟩
  · obtain ⟨-, -, -, -, -, within, -⟩ := calls x hx
    exact start ▸ within
  · exact start ▸ overflow o ho

theorem State.zoneCondition_hold : s.zoneCondition = .hold ↔ s.ownHolder.isSome = true := by
  cases held : s.holdWanted with
  | true => simp [State.zoneCondition, held, State.ownHolder_isSome s held]
  | false =>
    have none : s.ownHolder = none := by simp [State.ownHolder, held]
    cases empty : s.calls.list.isEmpty <;> simp [State.zoneCondition, held, none, empty]

theorem State.zoneCondition_call (h : s.zoneCondition = .call) : s.calls.list ≠ [] := by
  intro empty
  cases held : s.holdWanted <;> simp [State.zoneCondition, held, empty] at h

theorem State.Ok.ownRecord_sound (h : s.Ok) : s.ownRecord.Sound where
  hold := by simpa [State.ownRecord] using State.zoneCondition_hold
  call hc := by simpa [State.ownRecord] using State.zoneCondition_call hc
  oldest := by cases hl : s.calls.list <;> simp [State.ownRecord, hl]
  calls := h.callsOk.1
  start y hy := by
    obtain ⟨c, hc, start⟩ := Option.bind_eq_some_iff.mp hy
    exact State.ownHolder_start h.callsOk hc y start
  shift := h.shiftOk.1
  serial := by
    obtain ⟨-, -, -, serial, -⟩ := h.shiftOk
    cases hs : s.ret.serial with
    | none => simp [State.ownRecord, hs]
    | some x => simpa [State.ownRecord, hs] using serial x hs

/-! ## The payload of ZONE STATUS (R172) -/

variable {cfg : Cfg} {own : OwnRecord} {restarted : Bool} {second actual : Nat}

/-- What a receiver reads at the offsets of R172. -/
theorem statusPayload_read (h : own.Sound) (ha : actual ≤ 9999) (hr : cfg.refresh ≤ 10) (hs : cfg.section_ ≤ 8) :
    let p := statusPayload cfg own restarted second actual
    byteAt p 0 = own.shift ∧ byteAt p 1 = own.serial ∧ byteAt p 5 = own.condition.code ∧
    byteAt p 6 = own.openCalls ∧ byteAt p 7 = kindCode own.oldestKind ∧ byteAt p 8 = kindCode own.holdKind ∧
    wordAt p 9 = startCode own.holdStart ∧ byteAt p 11 = own.motion.code ∧ wordAt p 13 = actual ∧
    byteAt p 15 = cfg.refresh ∧ byteAt p 16 = cfg.section_ := by
  have small {n m : Nat} (low : n ≤ m) (hm : m < 256) : (byteOf n).toNat = n := byteOf_toNat (low.trans_lt hm)
  exact ⟨small h.shift (by decide), small h.serial (by decide), small own.condition.code_le (by decide),
    small h.calls (by decide), small (kindCode_le _) (by decide), small (kindCode_le _) (by decide),
    be16_word (startCode_lt h.start), small own.motion.code_le (by decide),
    be16_word (ha.trans_lt (by decide)), small hr (by decide), small hs (by decide)⟩

/-- Bit `j` of the flag byte at offset 4, and of the one at offset 12 (R172). -/
theorem statusPayload_flags {j : Nat} (hj : j < 8) :
    let p := statusPayload cfg own restarted second actual
    flagAt (byteAt p 4) j = [own.timeValid, restarted, cfg.roles.head, cfg.roles.tail, cfg.roles.countPoint,
      cfg.roles.reference, own.holdFail, own.overflow].getD j false ∧
    flagAt (byteAt p 12) j = [own.starved, own.blocked, own.encFault, own.busTrouble].getD j false :=
  ⟨flagAt_flagByte _ hj, flagAt_flagByte _ hj⟩

/-- The ZONE STATUS of a sound record passes every check of R44. -/
theorem statusAccepted_statusPayload (h : own.Sound) (hc : cfg.Ok) (ha : actual ≤ 9999) {nS : Nat}
    (hn : cfg.section_ ≤ nS) :
    statusAccepted nS cfg.zone (statusPayload cfg own restarted second actual) = true := by
  obtain ⟨low, high, -, lines, first, last, -, -, -, -, -, -, fresh, slow, -⟩ := hc
  obtain ⟨shift, -, condition, calls, oldest, kind, -, motion, -, refresh, section_⟩ :=
    statusPayload_read (restarted := restarted) (second := second) h ha slow (last.trans lines)
  rw [statusAccepted_iff, shift, condition, calls, oldest, kind, motion, refresh, section_]
  refine ⟨low, high, first, hn, own.condition.code_le, h.calls, ?_, ?_, ?_, kindCode_le _, kindCode_le _,
    own.motion.code_le, h.shift, fresh, slow⟩
  · rw [Ne, Condition.code_eq_one]
    exact (em (own.condition = .call)).symm.imp_right h.call
  · rw [Condition.code_eq_two, kindCode_ne_zero, h.hold]
  · rw [kindCode_ne_zero, h.oldest]

/-- The entry that a ZONE STATUS writes is the record it was composed from (R45, R172). -/
theorem entryOfStatus_statusPayload (h : own.Sound) (ha : actual ≤ 9999) (hr : cfg.refresh ≤ 10)
    (hs : cfg.section_ ≤ 8) :
    entryOfStatus cfg.zone (statusPayload cfg own restarted second actual) =
      { zone := cfg.zone, section_ := cfg.section_
        head := cfg.roles.head, tail := cfg.roles.tail
        countPoint := cfg.roles.countPoint, reference := cfg.roles.reference
        condition := own.condition, openCalls := own.openCalls
        oldestKind := own.oldestKind, holdKind := own.holdKind, holdStart := own.holdStart
        overflow := own.overflow, holdFail := own.holdFail
        starved := own.starved, blocked := own.blocked, encFault := own.encFault, busTrouble := own.busTrouble
        restarted := restarted, timeValid := own.timeValid
        motion := own.motion, shift := own.shift, serial := own.serial
        actual := actual, refresh := cfg.refresh, age := 0, live := true } := by
  obtain ⟨shift, serial, condition, calls, oldest, kind, start, motion, count, refresh, section_⟩ :=
    statusPayload_read (restarted := restarted) (second := second) h ha hr hs
  unfold entryOfStatus
  simp [shift, serial, condition, calls, oldest, kind, start, motion, count, refresh, section_,
    statusPayload_flags, conditionOfCode_code, motionOfCode_code, kindOfCode_kindCode,
    startOfCode_startCode h.start, actualOfCode, ha]

end Sys2Proof.Machine

open Sys2Proof Sys2Proof.Machine

/-- Settles O23: the own zone record of a sound board is within its ranges, and such a record is accepted and
reads back. -/
theorem statusReadsBack : Obligations.StatusReadsBack := by
  intro s nS h run mirror known
  have cfg := h.cfgOk (State.awake_of_running run)
  obtain ⟨-, -, -, lines, -, last, -, -, -, -, -, -, -, slow, -⟩ := id cfg
  exact ⟨_, rfl, rfl, statusAccepted_statusPayload h.ownRecord_sound cfg h.paceOk.1 known,
    entryOfStatus_statusPayload h.ownRecord_sound h.paceOk.1 slow (last.trans lines)⟩

end

section
namespace Sys2Proof.Machine

/-! ## The shift clock's own laws (R87, R93, R94, R96, R103) -/

/-- The laws of the shift clock that speak neither of the mode nor of the serial: its ranges, what authority
and an own time source need, and the plans with the flag that R103 gives each. -/
structure Clock.Fits (c : Clock) (k : Cfg) : Prop where
  second : c.s ≤ 57599
  pause : c.pause ≤ 60
  silence : c.silence ≤ 30
  authority : c.authority = true → k.roles.reference = true ∧ c.timeValid = true
  own : c.sourceOwn = true → c.source = some k.zone ∧ c.authority = true
  plans : ∀ p ∈ [c.plans.p1, c.plans.p2, c.plans.p3], p.usable = usableEntries p.entries

/-- The laws of the clock are its own, that its second is 0 on an awake board outside SHIFT, and that
authority comes with a serial (R87, R89, R96). -/
theorem State.clockOk_iff {s : State} :
    s.ClockOk ↔ s.clock.Fits s.cfg ∧ (s.mode.awake → s.mode ≠ .shift → s.clock.s = 0) ∧
      (s.clock.authority = true → s.ret.serial ≠ none) := by
  constructor
  · rintro ⟨second, pause, silence, zero, authority, own, plans⟩
    exact ⟨⟨second, pause, silence, fun h => ⟨(authority h).1, (authority h).2.2⟩,
      fun h => ⟨(own h).1, (own h).2.2⟩, plans⟩, zero, fun h => (authority h).2.1⟩
  · rintro ⟨⟨second, pause, silence, authority, own, plans⟩, zero, serial⟩
    refine ⟨second, pause, silence, zero, fun h => ⟨(authority h).1, serial h, (authority h).2⟩, fun h => ?_, plans⟩
    obtain ⟨source, held⟩ := own h
    exact ⟨source, by simp [Clock.isFree, source, h], held⟩

section Fits

variable {c : Clock} {k : Cfg}

/-- Second and pause remainder set, silence count, mark count and free flag whatever they become. -/
theorem Clock.Fits.set (h : c.Fits k) {n m q : Nat} (hn : n ≤ 57599) (hm : m ≤ 60) (hq : q ≤ 30) (count : Nat)
    (free : Bool) : { c with s := n, pause := m, silence := q, markCount := count, sourceFree := free }.Fits k :=
  ⟨hn, hm, hq, h.authority, h.own, h.plans⟩

theorem Clock.Fits.trackers (h : c.Fits k) (x y : Tracker) : { c with shst := x, shend := y }.Fits k :=
  ⟨h.second, h.pause, h.silence, h.authority, h.own, h.plans⟩

/-- An own shift input on a reference board (R93, R94). -/
theorem Clock.Fits.ownInput (h : c.Fits k) (hr : k.roles.reference = true) : (c.ownInput k.zone).Fits k :=
  ⟨by simp [Clock.ownInput], by simp [Clock.ownInput], by simp [Clock.ownInput], fun _ => ⟨hr, rfl⟩,
    fun _ => ⟨rfl, rfl⟩, h.plans⟩

/-- Authority taken by a reference board whose time is valid (R94, R98). -/
theorem Clock.Fits.authorise (h : c.Fits k) (hr : k.roles.reference = true) (ht : c.timeValid = true)
    (count : Nat) : { c with authority := true, markCount := count }.Fits k :=
  ⟨h.second, h.pause, h.silence, fun _ => ⟨hr, ht⟩, fun own => ⟨(h.own own).1, rfl⟩, h.plans⟩

/-- A mark adopted from any station (R98, R99). -/
theorem Clock.Fits.heed (h : c.Fits k) (sender : Nat) : (c.heed sender).Fits k :=
  ⟨h.second, h.pause, by simp [Clock.heed], fun held => ⟨(h.authority held).1, rfl⟩,
    fun own => absurd own (by simp [Clock.heed]), h.plans⟩

/-- A mark of the same boundary moves second and pause remainder alone (R100). -/
theorem Clock.follow_eq (c : Clock) (m : Nat) :
    c.follow m = { c with s := (c.follow m).s, pause := (c.follow m).pause } := by
  unfold Clock.follow
  repeat' split
  all_goals rfl

theorem Clock.follow_ranges (h : c.Fits k) {m : Nat} (hm : m ≤ 57599) :
    (c.follow m).s ≤ 57599 ∧ (c.follow m).pause ≤ 60 := by
  have second := h.second
  unfold Clock.follow
  repeat' split
  all_goals simp_all

/-- A mark of second 0 on a board whose second is 0 leaves it there. -/
theorem Clock.follow_zero (hc : c.s = 0) : (c.follow 0).s = 0 := by
  unfold Clock.follow
  repeat' split
  all_goals simp_all

theorem Clock.Fits.follow (h : c.Fits k) {m : Nat} (hm : m ≤ 57599) : (c.follow m).Fits k := by
  obtain ⟨second, pause⟩ := Clock.follow_ranges h hm
  rw [c.follow_eq]
  exact h.set second pause h.silence _ _

end Fits

end Sys2Proof.Machine
end

section
namespace Sys2Proof.Machine

variable {s u v : State}

/-! ## What a command must leave of records, shift and clock (R75, R87, R91) -/

/-- The laws of shift records, shift number, serial and shift clock together. -/
structure State.Booked (s : State) : Prop where
  recordsOk : s.RecordsOk
  shiftOk : s.ShiftOk
  clockOk : s.ClockOk

theorem State.Ok.booked (h : s.Ok) : s.Booked := ⟨h.recordsOk, h.shiftOk, h.clockOk⟩

/-- Records, shift number and serial alike: car counter, actual and peak are no part of these laws. -/
structure Retained.SameBooks (x y : Retained) : Prop where
  current : y.current = x.current
  last : y.last = x.last
  interval : y.interval = x.interval
  shift : y.shift = x.shift
  serial : y.serial = x.serial

theorem Retained.SameBooks.refl (x : Retained) : x.SameBooks x := ⟨rfl, rfl, rfl, rfl, rfl⟩

theorem Retained.SameBooks.of_eq {x y : Retained} (h : y = x) : x.SameBooks y := h ▸ .refl x

/-- The laws depend on these fields alone. -/
theorem State.Booked.congr (h : s.Booked) (hm : u.mode = s.mode) (hc : u.cfg = s.cfg) (hk : u.clock = s.clock)
    (hr : s.ret.SameBooks u.ret) : u.Booked where
  recordsOk := by
    unfold State.RecordsOk
    rw [hr.current, hr.last, hr.interval]
    exact h.recordsOk
  shiftOk := by
    unfold State.ShiftOk
    rw [hr.current, hr.interval, hr.shift, hr.serial, hm]
    exact h.shiftOk
  clockOk := h.clockOk.congr hm hc hk hr.serial

/-- Another clock on the same board. -/
theorem State.Booked.withClock (h : s.Booked) (hm : u.mode = s.mode) (hr : s.ret.SameBooks u.ret)
    (hk : u.ClockOk) : u.Booked := by
  have same : (u.setClock s.clock).setCfg s.cfg |>.Booked := h.congr hm rfl rfl hr
  exact ⟨same.recordsOk, same.shiftOk, hk⟩

/-- An evaluation of the target peak changes the peak alone (R112). -/
theorem State.evalPeak_books : s.ret.SameBooks s.evalPeak.ret := by
  rw [s.evalPeak_value.1]
  exact ⟨rfl, rfl, rfl, rfl, rfl⟩

theorem State.setCar_books (n : Nat) : s.ret.SameBooks (s.setCar n).ret := by
  unfold State.setCar
  split
  · exact .refl _
  · exact ⟨by simp, by simp, by simp, by simp, by simp⟩

theorem State.Booked.evalPeak (h : s.Booked) : s.evalPeak.Booked :=
  h.congr (by simp) (by simp) (by simp) s.evalPeak_books

theorem State.Booked.setCar (h : s.Booked) (n : Nat) : (s.setCar n).Booked :=
  h.congr (by simp) (by simp) (by simp) (s.setCar_books n)

theorem State.Booked.mark (h : s.Booked) (i : SlotId) : (s.mark i).Booked :=
  h.congr (by simp) (by simp) (by simp) (.of_eq (by simp))

theorem State.Booked.setCalls (h : s.Booked) (x : CallUnit) : (s.setCalls x).Booked :=
  h.congr rfl rfl rfl (.refl _)

/-- No board that is awake outside SHIFT has an open interval (R71, R194). -/
theorem State.ShiftOk.noInterval (h : s.ShiftOk) (ha : s.mode.awake = true) (m : s.mode ≠ .shift) :
    s.ret.interval = none := by
  obtain ⟨-, stands, -, -, mode, open_⟩ := h
  by_contra some
  exact m ((mode ha).mpr (stands.mp (open_ (Option.isSome_iff_ne_none.mpr some))))

/-- The blocks that follow a command keep these laws. -/
theorem State.Booked.finish (h : s.Booked) : s.finish.Booked :=
  ⟨s.finish_recordsOk h.recordsOk, s.finish_shiftOk h.shiftOk,
    h.clockOk.congr (by simp) (by simp) (by simp) (by simp)⟩

theorem State.Booked.handOn (h : s.Booked) : s.handOn.Booked :=
  h.finish.congr (by simp) (by simp) (by simp) (.of_eq (by simp))

/-! ## Boundaries -/

/-- The records of a new boundary: the ending one frozen behind, a new one begun (R80). -/
theorem State.RecordsOk.boundary (h : s.RecordsOk) {shift : Nat} (hs : shift ≤ 3) (serial : Nat) :
    (s.boundary shift serial).RecordsOk := by
  obtain ⟨-, -, interval, current, -⟩ := s.ret.cross_value shift serial
  have last := Retained.cross_last h shift serial
  unfold State.RecordsOk
  rw [s.boundary_ret shift serial]
  refine ⟨fun r hr => ?_, last, fun i hi => absurd (interval.symm.trans hi) (by simp)⟩
  have begun : (if shift = 0 then none else some (Record.begin_ shift serial)) = some r := current.symm.trans hr
  split at begun
  · exact absurd begun (by simp)
  · rw [← Option.some.inj begun]
    exact ⟨Record.ok_begin (by omega) hs, rfl⟩

/-- Number, serial, record and mode of a new boundary (R80, R91). -/
theorem State.boundary_shiftOk {shift serial : Nat} (hs : shift ≤ 3) (hn : serial ≤ 255) :
    (s.boundary shift serial).ShiftOk := by
  obtain ⟨num, ser, interval, current, -⟩ := s.ret.cross_value shift serial
  unfold State.ShiftOk
  rw [(s.boundary_blocks shift serial).1, s.boundary_ret shift serial]
  dsimp only
  rw [num, ser, interval, current]
  refine ⟨hs, ?_, fun r hr => ?_, fun x hx => Option.some.inj hx ▸ hn, fun _ => ?_, by simp⟩
  · by_cases zero : shift = 0 <;> simp [zero]
  · split at hr
    · exact absurd hr (by simp)
    · rw [← Option.some.inj hr]
      exact ⟨rfl, rfl⟩
  · by_cases zero : shift = 0 <;> simp [zero]

theorem State.boundary_clockOk (h : s.clock.Fits s.cfg) {shift : Nat} (hz : shift = 0 → s.clock.s = 0)
    (serial : Nat) : (s.boundary shift serial).ClockOk := by
  rw [State.clockOk_iff, (s.boundary_blocks shift serial).1, s.boundary_ret shift serial]
  dsimp only
  rw [(s.ret.cross_value shift serial).2.1]
  refine ⟨by simpa using h, fun _ off => ?_, fun _ => by simp⟩
  by_cases zero : shift = 0
  · simpa using hz zero
  · simp [zero] at off

/-- A boundary leaves the laws, whatever shift the board was in, where the clock keeps its own (R91). -/
theorem State.RecordsOk.crossed (h : s.RecordsOk) (hk : s.clock.Fits s.cfg) {shift serial : Nat} (hs : shift ≤ 3)
    (hn : serial ≤ 255) (hz : shift = 0 → s.clock.s = 0) : (s.boundary shift serial).Booked :=
  ⟨h.boundary hs serial, State.boundary_shiftOk hs hn, State.boundary_clockOk hk hz serial⟩

/-- The same with the clock that the boundary is handed on with (R91). -/
theorem State.Booked.cross (h : s.Booked) {c : Clock} (hk : c.Fits s.cfg) {shift serial : Nat} (hs : shift ≤ 3)
    (hn : serial ≤ 255) (hz : shift = 0 → c.s = 0) : ((s.setClock c).boundary shift serial).Booked := by
  have records : (s.setClock c).RecordsOk := h.recordsOk
  exact records.crossed hk hs hn hz

theorem State.Booked.fits (h : s.Booked) : s.clock.Fits s.cfg := (State.clockOk_iff.mp h.clockOk).1

/-- A change of the clock that keeps second and authority. -/
theorem State.Booked.setClock (h : s.Booked) {c : Clock} (hc : c.Fits s.cfg) (hs : c.s = s.clock.s)
    (ha : c.authority = s.clock.authority) : (s.setClock c).Booked := by
  obtain ⟨-, zero, serial⟩ := State.clockOk_iff.mp h.clockOk
  refine ⟨h.recordsOk, h.shiftOk, State.clockOk_iff.mpr ⟨hc, fun awake m => ?_, fun held => ?_⟩⟩
  · exact hs.trans (zero awake m)
  · exact serial (ha.symm.trans held)

theorem State.Booked.markTime (h : s.Booked) : s.markTime.Booked := by
  have counted : (s.setClock { s.clock with markCount := 0 }).Booked :=
    h.setClock (h.fits.set h.fits.second h.fits.pause h.fits.silence 0 _) rfl rfl
  exact counted.mark .time

theorem State.Booked.endOvertime (h : s.Booked) : s.endOvertime.Booked := by
  have fits : { s.clock with s := 0, pause := 0 }.Fits s.cfg :=
    h.fits.set (Nat.zero_le _) (Nat.zero_le _) h.fits.silence _ _
  have crossed : ((s.setClock { s.clock with s := 0, pause := 0 }).boundary 0 (nextSerial s.ret.serial)).Booked :=
    h.cross fits (by omega) (nextSerial_le _) fun _ => rfl
  unfold State.endOvertime
  dsimp only
  split
  · exact crossed.markTime
  · exact crossed

theorem State.Booked.checkOvertime (h : s.Booked) : s.checkOvertime.Booked := by
  unfold State.checkOvertime
  split
  · exact h.handOn.endOvertime
  · exact h

/-- An own shift input crosses a boundary on a reference board (R93, R94). -/
theorem State.Booked.ownBoundary (h : s.Booked) (hr : s.cfg.roles.reference = true) {shift serial : Nat}
    (hs : shift ≤ 3) (hn : serial ≤ 255) : (s.ownBoundary shift serial).Booked :=
  (h.cross (h.fits.ownInput hr) hs hn fun _ => rfl).markTime

theorem State.Booked.shiftStart (h : s.Booked) (hr : s.cfg.roles.reference = true) {code : Nat} (hc : code ≤ 3) :
    (s.shiftStart code).Booked := by
  rw [s.shiftStart_steps]
  exact h.ownBoundary hr (by split <;> omega) (nextSerial_le _)

/-- In shift 0 the pulse takes authority and leaves the second at 0 (R94). -/
theorem State.Booked.shiftEnd (h : s.Booked) (hr : s.cfg.roles.reference = true) : s.shiftEnd.Booked := by
  cases hs : s.ret.serial with
  | none => rwa [s.shiftEnd_without_serial hs]
  | some x =>
    rw [s.shiftEnd_steps hs]
    split
    · have timed : { s.clock with timeValid := true, s := 0 }.Fits s.cfg :=
        ⟨Nat.zero_le _, h.fits.pause, h.fits.silence, fun held => ⟨(h.fits.authority held).1, rfl⟩, h.fits.own,
          h.fits.plans⟩
      exact ⟨h.recordsOk, h.shiftOk, State.clockOk_iff.mpr
        ⟨timed.authorise hr rfl _, fun _ _ => rfl, fun _ => by simp [hs]⟩⟩
    · exact h.ownBoundary hr (by omega) (by omega)

/-! ## TIME MARKs (R97 to R100) -/

/-- Authority is gained by a reference board whose time is valid alone (R98). -/
theorem State.gainAuthority_fits (h : s.clock.Fits s.cfg) (ht : s.clock.timeValid = true) :
    s.gainAuthority.clock.Fits s.cfg ∧ s.gainAuthority.clock.s = s.clock.s := by
  unfold State.gainAuthority
  split
  · next hg => exact ⟨h.authorise hg.1 ht 0, rfl⟩
  · exact ⟨h, rfl⟩

theorem State.Booked.adoptBoundary (h : s.Booked) {shift serial second : Nat} (sender : Nat) (hs : shift ≤ 3)
    (hn : serial ≤ 255) (hm : second ≤ 57599) : (s.adoptBoundary sender shift serial second).Booked := by
  have heeded : { s.clock.heed sender with s := if shift = 0 then 0 else second, pause := 0 }.Fits s.cfg := by
    have ranges := h.fits.heed sender
    exact ranges.set (by split <;> omega) (Nat.zero_le _) ranges.silence _ _
  set v := s.setClock { s.clock.heed sender with s := if shift = 0 then 0 else second, pause := 0 } with hv
  obtain ⟨fits, same⟩ := State.gainAuthority_fits (s := v) heeded rfl
  have gained : v.gainAuthority.clock.Fits v.gainAuthority.cfg := by simpa using fits
  have records : v.gainAuthority.RecordsOk := by
    have ret : v.gainAuthority.ret = s.ret := by simp [hv]
    unfold State.RecordsOk
    rw [ret]
    exact h.recordsOk
  refine (records.crossed gained hs hn fun zero => ?_).checkOvertime
  rw [same]
  exact if_pos zero

/-- A mark of the same boundary, on a board that holds its serial (R99, R100). -/
theorem State.Booked.adoptSame (h : s.Booked) {second : Nat} (sender : Nat) (hm : second ≤ 57599)
    (hn : s.ret.serial ≠ none) : (s.adoptSame sender second).Booked := by
  have off (awake : s.mode.awake = true) (m : s.mode ≠ .shift) : s.ret.shift = 0 := by
    obtain ⟨-, -, -, -, mode, -⟩ := h.shiftOk
    by_contra runs
    exact m ((mode awake).mpr runs)
  obtain ⟨-, zero, -⟩ := State.clockOk_iff.mp h.clockOk
  have adopted {n : Nat} (range : n ≤ 57599) (none : s.ret.shift = 0 → n = 0) :
      (s.setClock ((s.clock.follow n).heed sender)).gainAuthority.Booked := by
    have heeded := (h.fits.follow range).heed sender
    obtain ⟨fits, same⟩ := State.gainAuthority_fits (s := s.setClock ((s.clock.follow n).heed sender)) heeded rfl
    refine h.withClock (by simp) (.of_eq (by simp)) (State.clockOk_iff.mpr
      ⟨by simpa using fits, fun awake m => ?_, fun _ => by simpa using hn⟩)
    have awake : s.mode.awake = true := by simpa using awake
    have m : s.mode ≠ .shift := by simpa using m
    rw [same, State.setClock_clock, none (off awake m)]
    exact Clock.follow_zero (zero awake m)
  unfold State.adoptSame
  dsimp only
  have range : (if s.ret.shift = 0 then 0 else second) ≤ 57599 := by split <;> omega
  have none : s.ret.shift = 0 → (if s.ret.shift = 0 then 0 else second) = 0 := fun z => if_pos z
  generalize (if s.ret.shift = 0 then 0 else second) = n at *
  refine State.Booked.checkOvertime ?_
  split
  · exact (adopted range none).evalPeak
  · exact adopted range none

/-- Whatever a TIME MARK brings (R97). -/
theorem State.Booked.judgeMark (h : s.Booked) (sender shift second : Nat) {serial : Nat} (hn : serial ≤ 255) :
    (s.judgeMark sender shift serial second).Booked := by
  unfold State.judgeMark
  dsimp only
  split
  · exact h
  · next range =>
    have hs : shift ≤ 3 := by omega
    have hm : second ≤ 57599 := Nat.not_lt.mp fun late => range (.inr late)
    split
    · exact h.adoptBoundary sender hs hn hm
    · next own hs' =>
      repeat' split
      · exact h.adoptSame sender hm (by simp [hs'])
      · exact h
      · exact h.adoptBoundary sender hs hn hm
      · exact h

end Sys2Proof.Machine
end

section
namespace Sys2Proof.Machine

variable {s u v : State}

/-! ## Counts of the current record (R24) -/

theorem Record.ok_countRaised {r : Record} (h : r.Ok) (k : CallKind) : (r.countRaised k).Ok := by
  unfold Record.countRaised
  split
  · next below =>
    refine Record.ok_advance ?_
    obtain ⟨h1, h2, hv, ht, rq, rm, re, rs, rest⟩ := h
    have up := Nat.succ_le_of_lt below
    cases k
    · exact ⟨h1, h2, hv, ht, up, rm, re, rs, rest⟩
    · exact ⟨h1, h2, hv, ht, rq, up, re, rs, rest⟩
    · exact ⟨h1, h2, hv, ht, rq, rm, up, rs, rest⟩
    · exact ⟨h1, h2, hv, ht, rq, rm, re, up, rest⟩
  · exact h

theorem Record.ok_countHold {r : Record} (h : r.Ok) (k : CallKind) : (r.countHold k).Ok := by
  unfold Record.countHold
  split
  · next below =>
    refine Record.ok_advance ?_
    obtain ⟨h1, h2, hv, ht, rq, rm, re, rs, hq, hm, he, hs, rest⟩ := h
    have up := Nat.succ_le_of_lt below
    cases k
    · exact ⟨h1, h2, hv, ht, rq, rm, re, rs, up, hm, he, hs, rest⟩
    · exact ⟨h1, h2, hv, ht, rq, rm, re, rs, hq, up, he, hs, rest⟩
    · exact ⟨h1, h2, hv, ht, rq, rm, re, rs, hq, hm, up, hs, rest⟩
    · exact ⟨h1, h2, hv, ht, rq, rm, re, rs, hq, hm, he, up, rest⟩
  · exact h

/-- A change of a record that keeps it sound and keeps shift number, serial and closing pair. -/
structure Record.Sound (f : Record → Record) : Prop where
  ok : ∀ r : Record, r.Ok → (f r).Ok
  bears : ∀ r : Record, (f r).shift = r.shift ∧ (f r).serial = r.serial ∧ (f r).close = r.close

theorem Record.countRaised_sound (k : CallKind) : Record.Sound (fun r => r.countRaised k) where
  ok _ h := Record.ok_countRaised h k
  bears r := by
    unfold Record.countRaised
    split <;> exact ⟨rfl, rfl, rfl⟩

theorem Record.countHold_sound (k : CallKind) : Record.Sound (fun r => r.countHold k) where
  ok _ h := Record.ok_countHold h k
  bears r := by
    unfold Record.countHold
    split <;> exact ⟨rfl, rfl, rfl⟩

/-- Clearing the changed flag touches none of a record's laws (R184). -/
theorem Record.clear_sound : Record.Sound (fun r => { r with changed := false }) where
  ok _ h := h
  bears _ := ⟨rfl, rfl, rfl⟩

/-- Current and last record changed in ways that keep them sound. -/
theorem State.Booked.setRecords (h : s.Booked) {f g : Record → Record} (hf : Record.Sound f) (hg : Record.Sound g) :
    (s.setRet { s.ret with current := s.ret.current.map f, last := s.ret.last.map g }).Booked := by
  obtain ⟨current, last, interval⟩ := h.recordsOk
  obtain ⟨range, stands, bears, serial, mode, open_⟩ := h.shiftOk
  refine ⟨⟨fun r hr => ?_, fun r hr => ?_, interval⟩,
    ⟨range, by simpa using stands, fun r hr => ?_, serial, mode, by simpa using open_⟩, h.clockOk⟩
  · obtain ⟨x, hx, rfl⟩ := Option.map_eq_some_iff.mp hr
    exact ⟨hf.ok x (current x hx).1, (hf.bears x).2.2.trans (current x hx).2⟩
  · obtain ⟨x, hx, rfl⟩ := Option.map_eq_some_iff.mp hr
    exact ⟨hg.ok x (last x hx).1, by rw [(hg.bears x).2.2]; exact (last x hx).2⟩
  · obtain ⟨x, hx, rfl⟩ := Option.map_eq_some_iff.mp hr
    rw [(hf.bears x).1, (hf.bears x).2.1]
    exact bears x hx

theorem Record.Sound.id : Record.Sound (fun r => r) := ⟨fun _ h => h, fun _ => ⟨rfl, rfl, rfl⟩⟩

theorem State.Booked.setCurrent (h : s.Booked) {f : Record → Record} (hf : Record.Sound f) :
    (s.setRet { s.ret with current := s.ret.current.map f }).Booked := by
  simpa using h.setRecords hf .id

theorem State.Booked.setLast (h : s.Booked) {f : Record → Record} (hf : Record.Sound f) :
    (s.setRet { s.ret with last := s.ret.last.map f }).Booked := by
  simpa using h.setRecords .id hf

theorem State.Booked.charge (h : s.Booked) {f : Record → Record} (hf : Record.Sound f) : (s.charge f).Booked := by
  unfold State.charge
  split
  · exact h.setCurrent hf
  · exact h

theorem State.Booked.enterHold (h : s.Booked) (k : CallKind) : (s.enterHold k).Booked :=
  (h.charge (Record.countHold_sound k)).setCalls _

theorem State.Booked.appendCall (h : s.Booked) (x : Call) : (s.appendCall x).Booked :=
  (h.setCalls _).charge (Record.countRaised_sound x.kind)

theorem State.Booked.startAlert (h : s.Booked) (k : CallKind) : (s.startAlert k).Booked :=
  h.congr (by simp) (by simp) (by simp) (.of_eq (by simp))

/-- What a pull charges the current record (R9, R10, R17, R24). -/
theorem State.Booked.pull (h : s.Booked) (cord : Cord) : (s.pull cord).Booked := by
  have new : (s.pullNew cord).Booked := by
    unfold State.pullNew
    split
    · exact h
    · split
      · exact (h.setCalls _).enterHold _
      · split
        · exact ((h.appendCall _).enterHold .safety).startAlert .safety
        · exact h.appendCall _
  unfold State.pull
  split
  · exact h
  · split
    · exact new
    · split
      · exact h
      · split <;> exact h.setCalls _

/-- The calls that enter their hold at an accepted pulse (R13, R24). -/
theorem State.Booked.enterHolds (h : s.Booked) (l : List Call) :
    (l.foldl (fun s x => s.enterHold x.kind) s).Booked := by
  induction l generalizing s with
  | nil => exact h
  | cons x rest ih => exact ih (h.enterHold x.kind)

theorem State.Booked.paced (h : s.Booked) : s.paced.Booked := by
  have accepted : (s.setSec (s.sec.accept s.now)).Booked := h.congr rfl rfl rfl (.refl _)
  exact (accepted.setCalls _).enterHolds _

/-! ## A stop that is re-keyed (R71, R73) -/

/-- The record into which an interval is closed bears what it bore (R75, R77). -/
theorem Retained.closeInterval_keeps_bearing {x : Retained}
    (h : ∀ r ∈ x.current, r.shift = x.shift ∧ x.serial = some r.serial) :
    ∀ r ∈ x.closeInterval.current, r.shift = x.shift ∧ x.serial = some r.serial := by
  intro r hr
  have borne : x.current.map (fun c => (c.shift, c.serial)) = some (r.shift, r.serial) := by
    have hr : x.closeInterval.current = some r := hr
    rw [← x.closeInterval_bears, hr]
    rfl
  obtain ⟨y, hy, same⟩ := Option.map_eq_some_iff.mp borne
  obtain ⟨shift, serial⟩ := Prod.mk.inj same
  rw [← shift, ← serial]
  exact h y hy

/-- Closing the open interval neither makes nor drops the current record (R77). -/
theorem Retained.closeInterval_present (x : Retained) :
    x.closeInterval.current.isSome = x.current.isSome := by
  simpa using congrArg Option.isSome x.closeInterval_bears

/-- A stop in SHIFT re-keyed to what an evaluation names (R71). -/
theorem State.Booked.rekey (h : s.Booked) (m : s.mode = .shift) {r : Option CauseKey}
    (hr : ∀ k ∈ r, k.kind ≠ .other) : (s.rekey r).Booked := by
  have running : s.ret.current.isSome = true := by
    obtain ⟨-, stands, -, -, mode, -⟩ := h.shiftOk
    exact stands.mpr ((mode (by rw [m]; rfl)).mp m)
  have closed := h.recordsOk.closeInterval
  obtain ⟨-, last, -⟩ := h.recordsOk
  obtain ⟨range, stands, bears, serial, mode, -⟩ := h.shiftOk
  have present := s.ret.closeInterval_present
  obtain ⟨-, lastC, shiftC, serialC, -⟩ := s.ret.closeInterval_value
  by_cases key : s.ret.interval.map (fun i => i.key) = r
  · rw [s.rekey_same key]
    exact h.congr rfl rfl rfl (.refl _)
  · rw [s.rekey_other key]
    refine ⟨⟨closed, by simpa [lastC] using last, fun i hi => ?_⟩,
      ⟨by simpa [shiftC] using range, by simpa [present, shiftC] using stands, fun c hc => ?_,
        by simpa [serialC] using serial, by simpa [shiftC] using mode, fun _ => by simpa [present] using running⟩,
      ?_⟩
    · obtain ⟨k, hk, rfl⟩ := Option.map_eq_some_iff.mp hi
      exact ⟨hr k hk, by simp⟩
    · simpa [shiftC, serialC] using Retained.closeInterval_keeps_bearing bears c hc
    · exact h.clockOk.congr rfl rfl rfl (by simp [serialC])

theorem rekeyAfter_booked (p : State × State) (c : Instr) (h : p.2.Booked) (m : p.2.mode = .shift) :
    (rekeyAfter p c).2.Booked ∧ (rekeyAfter p c).2.mode = .shift := by
  unfold rekeyAfter
  dsimp only
  split
  · exact ⟨h.rekey m fun k hk => evaluate_kind hk, by simpa using m⟩
  · exact ⟨h, m⟩

theorem State.Booked.rekeyTogether (h : s.Booked) : s.rekeyTogether.Booked := by
  have folded (l : List Instr) (p : State × State) (hp : p.2.Booked ∧ p.2.mode = .shift) :
      (l.foldl rekeyAfter p).2.Booked := by
    induction l generalizing p with
    | nil => exact hp.1
    | cons c rest ih => exact ih _ (rekeyAfter_booked p c hp.1 hp.2)
  unfold State.rekeyTogether
  split
  · next m => exact folded _ _ ⟨h, m⟩
  · exact h

theorem State.Booked.rekeyed (h : s.Booked) : s.rekeyed.Booked := by
  unfold State.rekeyed
  split
  · exact h.paced.handOn
  · exact h.paced.handOn.rekeyTogether

/-! ## A second (R72, R88, R89) -/

theorem State.Booked.tickClock (h : s.Booked) : s.tickClock.Booked := by
  obtain ⟨fits, zero, serial⟩ := State.clockOk_iff.mp h.clockOk
  obtain ⟨second, pause, silence, -, -, -⟩ := id fits
  refine h.withClock (by simp) (.of_eq (by simp)) (State.clockOk_iff.mpr ?_)
  rw [s.tickClock_clock]
  refine ⟨?_, fun awake m => ?_, by simpa using serial⟩
  · simp only [State.tickClock_frame]
    refine fits.set ?_ ?_ ?_ _ _
    · split <;> omega
    · split <;> omega
    · split <;> omega
  · have m : s.mode ≠ .shift := by simpa using m
    simpa [m] using zero (by simpa using awake) m

/-- The second counted in the open interval, and the mark count (R72, R96). -/
theorem State.Booked.tallied (h : s.Booked) : s.tallied.Booked := by
  obtain ⟨current, last, interval⟩ := h.recordsOk
  obtain ⟨range, stands, bears, serial, mode, open_⟩ := h.shiftOk
  obtain ⟨fits, zero, held⟩ := State.clockOk_iff.mp h.clockOk
  refine ⟨?_, ?_, ?_⟩
  · unfold State.RecordsOk
    rw [s.tallied_ret]
    refine ⟨current, last, fun i hi => ?_⟩
    dsimp only at hi
    split at hi
    · obtain ⟨x, hx, rfl⟩ := Option.map_eq_some_iff.mp hi
      exact ⟨(interval x hx).1, addSeconds_lt ..⟩
    · exact interval i hi
  · unfold State.ShiftOk
    have sameMode : s.tallied.mode = s.mode := by simp
    rw [s.tallied_ret, sameMode]
    refine ⟨range, stands, bears, serial, mode, fun some => open_ ?_⟩
    dsimp only at some
    split at some
    · simpa using some
    · exact some
  · rw [State.clockOk_iff, s.tallied_marks.1, s.tallied_ret]
    refine ⟨?_, by simpa using zero, by simpa using held⟩
    simp only [State.tallied_frame]
    exact fits.set fits.second fits.pause fits.silence _ _

/-! ## Modes (R192, R195, R196) -/

/-- A mode that is awake and no SHIFT, entered outside SHIFT. -/
theorem State.Booked.setMode (h : s.Booked) {m : Mode} (ha : s.mode.awake = true) (hm : s.mode ≠ .shift)
    (hn : m ≠ .shift) : (s.setMode m).Booked := by
  obtain ⟨range, stands, bears, serial, mode, open_⟩ := h.shiftOk
  obtain ⟨fits, zero, held⟩ := State.clockOk_iff.mp h.clockOk
  have none : s.ret.shift = 0 := by
    by_contra runs
    exact hm ((mode ha).mpr runs)
  exact ⟨h.recordsOk, ⟨range, stands, bears, serial, fun _ => by simp [none, hn], open_⟩,
    State.clockOk_iff.mpr ⟨fits, fun _ _ => zero ha hm, held⟩⟩

/-- A board that wakes is in STANDBY, its clock as it was but for the mark count (R108, R196). -/
theorem State.Booked.waking (h : s.Booked) (m : s.mode = .dormant) : s.waking.Booked := by
  obtain ⟨mode, clock, ret, -, cfg, -⟩ := s.waking_value
  have standby : (s.setMode .standby).Booked := h.setMode (by rw [m]; rfl) (by simp [m]) (by simp)
  have counted : ((s.setMode .standby).setClock s.clock.woken).Booked :=
    standby.setClock (h.fits.set h.fits.second h.fits.pause h.fits.silence _ _) rfl rfl
  exact counted.congr mode cfg clock (.of_eq ret)

theorem State.Booked.wake (h : s.Booked) (m : s.mode = .dormant) : s.wake.Booked :=
  s.wake_steps ▸ (h.waking m).finish

theorem State.Booked.wakeIfDormant (h : s.Booked) : s.wakeIfDormant.Booked := by
  unfold State.wakeIfDormant
  split
  · next m => exact h.wake m
  · exact h

end Sys2Proof.Machine
end

section
namespace Sys2Proof.Machine

variable {s b u v : State}

/-! ## Cause, records, shift and clock together (R64, R71, R75, R87, R91) -/

/-- The laws of the stop attributor, the shift records, the shift number and the shift clock. -/
structure State.StopSide (s : State) : Prop where
  booked : s.Booked
  causeFollows : s.CauseFollows

theorem State.Ok.stopSide (h : s.Ok) : s.StopSide := ⟨h.booked, h.causeFollows⟩

/-- Whatever a command did, its end evaluates the cause anew and re-keys the interval (R64, R71). -/
theorem State.Booked.followed (h : s.Booked) : s.finish.StopSide where
  booked := h.finish
  causeFollows := by
    have mode : s.finish.mode = s.mode := by simp
    unfold State.CauseFollows
    rw [mode]
    refine ⟨s.finish_cause.1, fun m => ⟨s.finish_cause.2 m, fun awake => ?_⟩⟩
    rw [(s.finish_ret_of_no_shift m).1]
    exact h.shiftOk.noInterval awake m

/-- A command that hands nothing on leaves these laws where it leaves what they speak of. -/
theorem State.StopSide.congr (h : s.StopSide) (hm : u.mode = s.mode) (hc : u.cfg = s.cfg)
    (hk : u.clock = s.clock) (hr : s.ret.SameBooks u.ret) (ha : u.att.cause = s.att.cause)
    (hi : u.attInputs = s.attInputs) : u.StopSide where
  booked := h.booked.congr hm hc hk hr
  causeFollows := by
    unfold State.CauseFollows
    rw [hm, hc, ha, hi, hr.interval]
    exact h.causeFollows

theorem State.StopSide.ite (h : b.Ok) {g : Prop} [Decidable g] (hv : g → v.StopSide) :
    (if g then v else b).StopSide := by
  split
  · next hg => exact hv hg
  · exact h.stopSide

theorem State.StopSide.of_ran (ran : (.next v : Host.Outcome State Fault Refusal) = .next u)
    (h : v.StopSide) : u.StopSide :=
  Host.Outcome.next.inj ran ▸ h

theorem State.StopSide.setBus (h : s.StopSide) (x : Bus) : (s.setBus x).StopSide :=
  h.congr rfl rfl rfl (.refl _) rfl rfl

theorem State.StopSide.setDisp (h : s.StopSide) (x : Display) : (s.setDisp x).StopSide :=
  h.congr rfl rfl rfl (.refl _) rfl rfl

theorem State.StopSide.setStart (h : s.StopSide) (x : StartUp) : (s.setStart x).StopSide :=
  h.congr rfl rfl rfl (.refl _) rfl rfl

theorem State.StopSide.setCheck (h : s.StopSide) (x : BitVec 16) : (s.setCheck x).StopSide :=
  h.congr rfl rfl rfl (.refl _) rfl rfl

theorem State.StopSide.setPins (h : s.StopSide) (x : Pins) : (s.setPins x).StopSide :=
  h.congr rfl rfl rfl (.refl _) rfl rfl

/-- The trackers are no part of what these laws speak of, those of the clock included. -/
theorem State.StopSide.setTracker (h : s.StopSide) (i : InputId) (x : Tracker) : (s.setTracker i x).StopSide := by
  obtain ⟨⟨records, shift, clock⟩, cause⟩ := h
  cases i <;> exact ⟨⟨records, shift, clock⟩, cause⟩

theorem State.StopSide.redraw (h : s.StopSide) : s.redraw.StopSide := by
  have inputs : s.redraw.attInputs = s.attInputs := by apply State.attInputs_congr <;> simp
  exact h.congr (by simp) (by simp) (by simp) (.of_eq (by simp)) (by simp) inputs

theorem State.StopSide.endReception (h : s.StopSide) : s.endReception.StopSide := h.setBus _

/-- The end of a command that leaves mode, configuration, clock and records of a sound board alone. -/
theorem State.Ok.followed_stopSide (h : b.Ok) (hm : v.mode = b.mode) (hc : v.cfg = b.cfg)
    (hk : v.clock = b.clock) (hr : b.ret.SameBooks v.ret) : v.finish.StopSide :=
  (h.booked.congr hm hc hk hr).followed

end Sys2Proof.Machine
end

section
namespace Sys2Proof.Machine

variable {s b u v : State}

/-! ## Start-up (R188 to R193) -/

theorem PlanStore.usable_of_image (mem : List Byte) :
    ∀ p ∈ [(plansOf mem).p1, (plansOf mem).p2, (plansOf mem).p3], p.usable = usableEntries p.entries := by
  simp [plansOf, judge]

/-- The clock of a board that starts (R87, R107). -/
theorem Clock.initial_fits (k : Cfg) {plans : PlanStore}
    (h : ∀ p ∈ [plans.p1, plans.p2, plans.p3], p.usable = usableEntries p.entries) :
    { Clock.initial with plans := plans }.Fits k where
  second := Nat.zero_le _
  pause := Nat.zero_le _
  silence := Nat.zero_le _
  authority held := absurd held (by simp [Clock.initial])
  own held := absurd held (by simp [Clock.initial])
  plans := h

/-- Records and shift number of a board whose mode is not awake, whatever mode that is. -/
theorem State.ShiftOk.asleep (h : s.ShiftOk) (hr : u.ret = s.ret) (ha : ¬ u.mode.awake = true) : u.ShiftOk := by
  unfold State.ShiftOk
  rw [hr]
  obtain ⟨range, stands, bears, serial, -, open_⟩ := h
  exact ⟨range, stands, bears, serial, fun awake => absurd awake ha, open_⟩

/-- Every block takes the values of a start; the retained area stands (R188). -/
theorem State.Ok.enterLoading_stopSide (h : b.Ok) (bpol : Bool) (link : Link) (startup : StartUp) :
    (b.enterLoading bpol link startup).StopSide where
  booked.recordsOk := h.recordsOk
  booked.shiftOk := h.shiftOk.asleep rfl (by simp [State.enterLoading, Mode.awake])
  booked.clockOk := State.clockOk_iff.mpr ⟨Clock.initial_fits .blank (by simp; decide),
    fun awake => absurd awake (by simp [State.enterLoading, Mode.awake]),
    fun held => absurd held (by simp [State.enterLoading, Clock.initial])⟩
  causeFollows := ⟨fun m => absurd m (by simp [State.enterLoading]),
    fun _ => ⟨rfl, fun awake => absurd awake (by simp [State.enterLoading, Mode.awake])⟩⟩

/-- A cleared area keeps every law of an area on a board that is not awake and holds no authority. -/
theorem State.StopSide.clearArea (h : s.StopSide) (ha : ¬ s.mode.awake = true)
    (hn : s.clock.authority = false) : s.clearArea.StopSide := by
  obtain ⟨fits, -, -⟩ := State.clockOk_iff.mp h.booked.clockOk
  have ret := s.clearArea_value.1
  have rest : ¬ s.clearArea.mode.awake = true := by simpa using ha
  have shift : s.mode ≠ .shift := fun m => ha (by rw [m]; rfl)
  have att : s.clearArea.att = s.att := by simp
  refine ⟨⟨?_, ?_, State.clockOk_iff.mpr ⟨by simpa using fits, fun awake => absurd awake rest, fun held => ?_⟩⟩, ?_⟩
  · unfold State.RecordsOk
    rw [ret]
    simp [Retained.cleared]
  · unfold State.ShiftOk
    rw [ret]
    exact ⟨Nat.zero_le _, by simp [Retained.cleared], by simp [Retained.cleared], by simp [Retained.cleared],
      fun awake => absurd awake rest, by simp [Retained.cleared]⟩
  · simp [hn] at held
  · refine ⟨fun m => absurd (by simpa using m) shift, fun _ => ⟨?_, fun awake => absurd awake rest⟩⟩
    rw [att]
    exact (h.causeFollows.2 shift).1

theorem State.Ok.powerOn_stopSide (h : b.Ok) (bpol : Bool) : (b.powerOn bpol).StopSide :=
  (h.enterLoading_stopSide bpol _ _).clearArea (by simp [State.enterLoading, Mode.awake]) rfl

/-- A board in LOADING that halts keeps its records (R190). -/
theorem State.Ok.halt_stopSide (h : b.Ok) (hm : b.mode = .loading) (c : HaltCode) : (b.halt c).StopSide := by
  obtain ⟨-, -, -, -, -, -, -, -, clock⟩ := h.loading _ hm
  have halted : (b.setMode .halted).Booked := by
    refine ⟨h.recordsOk, h.shiftOk.asleep rfl (by simp [Mode.awake]), State.clockOk_iff.mpr
      ⟨h.booked.fits, fun awake => absurd awake (by simp [Mode.awake]), fun held => ?_⟩⟩
    simp [clock, Clock.initial] at held
  exact State.Booked.followed (halted.congr rfl rfl rfl (.refl _))

/-- The area that a start goes on with: the retained one, or a cleared one (R192). -/
theorem State.Booked.judged (h : s.Booked) : (s.setRet s.judged).RecordsOk ∧
    s.judged.shift ≤ 3 ∧ (s.judged.current.isSome ↔ s.judged.shift ≠ 0) ∧
    (∀ r ∈ s.judged.current, r.shift = s.judged.shift ∧ s.judged.serial = some r.serial) ∧
    (∀ x ∈ s.judged.serial, x ≤ 255) := by
  obtain ⟨range, stands, bears, serial, -, -⟩ := h.shiftOk
  unfold State.judged
  split
  · simp [State.RecordsOk, Retained.cleared]
  · exact ⟨h.recordsOk, range, stands, bears, serial⟩

/-- A board that leaves LOADING: the retained interval closed, the mode that the shift number gives, the
clock at its start values with the plans of the image (R84, R192). -/
theorem State.Ok.leaving_booked (h : b.Ok) (hm : b.mode = .loading) (c : Cfg) (mem : List Byte) :
    (b.leaving c (plansOf mem)).Booked := by
  obtain ⟨-, -, -, -, -, -, -, -, initial⟩ := h.loading _ hm
  obtain ⟨records, range, stands, bears, serial⟩ := h.booked.judged
  obtain ⟨mode, -, clock, -⟩ := b.leaving_blocks c (plansOf mem)
  have ret := b.leaving_ret c (plansOf mem)
  obtain ⟨interval, last, shift, ser, -⟩ := b.judged.closeInterval_value
  have present := b.judged.closeInterval_present
  refine ⟨?_, ?_, ?_⟩
  · unfold State.RecordsOk
    rw [ret]
    refine ⟨by simpa using records.closeInterval, ?_, ?_⟩
    · simpa [last] using records.2.1
    · simp [interval]
  · unfold State.ShiftOk
    rw [ret, mode]
    refine ⟨by simpa [shift] using range, by simpa [present, shift] using stands, fun r hr => ?_,
      by simpa [ser] using serial, fun _ => ?_, by simp [interval]⟩
    · simpa [shift, ser] using Retained.closeInterval_keeps_bearing bears r hr
    · by_cases zero : b.judged.shift = 0 <;> simp [zero, shift]
  · rw [State.clockOk_iff, clock, initial]
    exact ⟨Clock.initial_fits _ (PlanStore.usable_of_image mem), fun _ _ => rfl,
      fun held => absurd held (by simp [Clock.initial])⟩

theorem State.Booked.takeUpWork (h : s.Booked) : s.takeUpWork.Booked :=
  h.congr (by simp) (by simp) (by simp) (.of_eq (by simp))

theorem State.Booked.beginTrackers (h : s.Booked) : s.beginTrackers.Booked := by
  obtain ⟨records, shift, clock⟩ := h
  exact ⟨records, shift, clock⟩

theorem State.Ok.readImage_stopSide (h : b.Ok) (mem : List Byte) (hm : b.mode = .loading) :
    (match imageFault mem with
      | some c => b.halt c
      | none => b.leaveLoading (cfgOf mem) (plansOf mem)).StopSide := by
  split
  · exact h.halt_stopSide hm _
  · rw [State.leaveLoading_steps]
    exact (h.leaving_booked hm _ mem).takeUpWork.beginTrackers.followed

end Sys2Proof.Machine
end

section
namespace Sys2Proof.Machine

variable {s b u v : State}

/-! ## Inputs, pulses and the seconds expiry -/

theorem State.Ok.changeLevel_stopSide (h : b.Ok) (i : InputId) (level : Bool) :
    (b.changeLevel i level).StopSide := by
  have moved := h.stopSide.setPins (b.pins.setLevel i level)
  unfold State.changeLevel
  dsimp only
  split
  · exact h.stopSide
  · split
    · exact moved.setTracker i _
    · exact moved

/-- A counted pull, press or pulse (R3, R4, R92): a shift start bears a number of two bits (R93). -/
theorem State.Ok.counted_stopSide (h : b.Ok) {i : InputId} (hi : b.sampled i = true) (x : Tracker) {code : Nat}
    (hc : code ≤ 3) : ((b.setTracker i x).counted i code).StopSide := by
  have side := h.stopSide.setTracker i x
  have woken := side.booked.wakeIfDormant
  have cfg : (b.setTracker i x).wakeIfDormant.cfg = b.cfg := by simp
  cases i with
  | clr => exact (woken.setCalls _).followed
  | shst => exact (woken.shiftStart (cfg ▸ State.reference_of_shst hi) hc).followed
  | shend => exact (woken.shiftEnd (cfg ▸ State.reference_of_shend hi)).followed
  | call n =>
    unfold State.counted
    dsimp only
    split
    · exact side
    · split
      · exact side
      · exact (woken.pull _).followed

theorem State.Ok.qualify_stopSide (h : b.Ok) (i : InputId) {code : Nat} (hc : code ≤ 3) :
    (b.qualify i code).StopSide := by
  unfold State.qualify
  dsimp only
  refine .ite h fun hg => ?_
  split
  · exact h.counted_stopSide (Bool.and_eq_true .. ▸ hg).1 _ hc
  · exact h.stopSide.setTracker i _

theorem shiftCode_le (x y : Bool) : shiftCode x y ≤ 3 := by cases x <;> cases y <;> decide

theorem State.Booked.setMotion (h : s.Booked) (m : Motion) : (s.setMotion m).Booked :=
  h.congr (by simp) (by simp) (by simp) (.of_eq (by simp))

theorem State.Ok.setSec_stopSide (h : b.Ok) (x : SectionMonitor) : (b.setSec x).finish.StopSide :=
  h.followed_stopSide rfl rfl rfl (.refl _)

theorem State.Ok.pulse_stopSide (h : b.Ok) (gap : Nat) : (b.pulse gap).StopSide := by
  by_cases soon : b.sec.tooSoon gap b.now = true
  · rw [State.pulse, if_pos soon]
    exact h.setSec_stopSide _
  · have steps : b.pulse gap = (b.rekeyed.setMotion .moving).finish := if_neg soon
    rw [steps]
    exact (h.booked.rekeyed.setMotion .moving).followed

theorem State.Ok.countCar_stopSide (h : b.Ok) : b.countCar.StopSide := by
  have edge : (b.setSec { b.sec with lastCar := some b.now }).Booked := h.booked.congr rfl rfl rfl (.refl _)
  exact (edge.setCar _).followed

theorem State.Ok.tick_stopSide (h : b.Ok) : b.tick.StopSide := by
  rw [b.tick_steps]
  exact h.booked.tickClock.handOn.tallied.followed

theorem State.Ok.reachPlanEnd_stopSide (h : b.Ok) : b.reachPlanEnd.StopSide :=
  .ite h fun _ => h.booked.evalPeak.followed

/-! ## Sensors and read-back: a change of level leaves the flag (R54, R62) -/

theorem State.Ok.sensorChange_stopSide (h : b.Ok) (p : Pins) (x : Sensor) (since : Time) :
    ((b.setPins p).setTable (b.table.setFilter x { b.table.filter x with since := since })).StopSide := by
  cases x <;> exact h.stopSide.congr rfl rfl rfl (.refl _) rfl rfl

theorem State.Ok.sensorQualify_stopSide (h : b.Ok) (x : ZoneTable) : (b.setTable x).finish.StopSide :=
  h.followed_stopSide rfl rfl rfl (.refl _)

theorem State.Ok.readBackQualify_stopSide (h : b.Ok) (x : Attributor) : (b.setAtt x).finish.StopSide :=
  h.followed_stopSide rfl rfl rfl (.refl _)

theorem State.StopSide.readBackChange (h : s.StopSide) (p : Pins) (since : Time) :
    ((s.setPins p).setAtt { s.att with readBack := { s.att.readBack with since := since } }).StopSide :=
  h.congr rfl rfl rfl (.refl _) rfl rfl

/-! ## Display -/

theorem State.Ok.stepTimer_stopSide (h : b.Ok) :
    (match b.disp.running with
    | some r => if b.running && r.due ≤ b.now then (b.stepText r).redraw else b
    | none => b).StopSide := by
  split
  · next r _ =>
    have inputs : (b.stepText r).attInputs = b.attInputs := by apply State.attInputs_congr <;> simp
    have stepped : (b.stepText r).StopSide :=
      h.stopSide.congr (by simp) (by simp) (by simp) (.of_eq (by simp)) (by simp) inputs
    exact .ite h fun _ => stepped.redraw
  · exact h.stopSide

/-- A sound that ends leaves list and overflow hold. -/
theorem State.StopSide.endSound (h : s.StopSide) {c : CallUnit} (hl : c.list = s.calls.list)
    (ho : c.overflow = s.calls.overflow) : (s.setCalls c).redraw.StopSide := by
  have inputs : (s.setCalls c).attInputs = s.attInputs :=
    State.attInputs_congr rfl rfl hl ho rfl rfl rfl rfl rfl rfl rfl rfl rfl
  exact (h.congr rfl rfl rfl (.refl _) rfl inputs : (s.setCalls c).StopSide).redraw

/-! ## The line -/

theorem State.Ok.endGap_stopSide (h : b.Ok) : (if b.gapOver then b.endGap true
    else if b.gapCutNow then b.endGap false else b).StopSide := by
  have ended (idle : Bool) : (b.endGap idle).StopSide := h.stopSide.setBus _
  split
  · exact ended true
  · exact .ite h fun _ => ended false

theorem State.StopSide.startAttempt (h : s.StopSide) (i : SlotId) (f : List Byte) :
    (s.startAttempt i f).StopSide := by
  cases i <;> exact h.congr rfl rfl rfl (.refl _) rfl rfl

theorem State.Ok.transmissionStart_stopSide (h : b.Ok) :
    (match b.bus.firstPending with
    | some i =>
      match b.frameFor i with
      | some f => if b.mayTransmit then b.startAttempt i f else b
      | none => b
    | none => b).StopSide := by
  split
  · split
    · exact .ite h fun _ => h.stopSide.startAttempt _ _
    · exact h.stopSide
  · exact h.stopSide

theorem State.Ok.sent_stopSide (h : b.Ok) (x : Tx) : (b.sent x).StopSide := by
  unfold State.sent
  dsimp only
  split <;> exact h.followed_stopSide (by simp) (by simp) (by simp) (.of_eq (by simp))

theorem State.Ok.collide_stopSide (h : b.Ok) (x : Tx) : (b.collide x).StopSide := by
  have ended (y : Bus) (f : Requests → Requests) : ((b.setBus y).replyEnded x f).finish.StopSide :=
    h.followed_stopSide (by simp) (by simp) (by simp) (.of_eq (by simp))
  unfold State.collide
  dsimp only
  split
  · exact ended _ _
  · split <;> exact ended _ _

/-- Activity wakes a board in DORMANT alone (R196). -/
theorem State.Ok.activity_stopSide (h : b.Ok) (hb : b.beginsActivity = true) : b.activity.StopSide := by
  have asleep : b.mode = .dormant := of_decide_eq_true (Bool.and_eq_true .. ▸ hb).1
  have woken (x : Bus) : (b.setBus x).wake.StopSide :=
    State.wake_steps _ ▸ ((h.stopSide.setBus x).booked.waking asleep).followed
  unfold State.activity
  dsimp only
  split
  · exact woken _
  · split
    · split
      · exact woken _
      · exact (h.stopSide.setBus _).setBus _
    · exact (h.stopSide.setBus _).setBus _
    · exact (h.stopSide.setBus _).setBus _

theorem State.Ok.wakeWindow_stopSide (h : b.Ok) :
    (match b.bus.wake with
    | .seen d =>
      if b.mode = Mode.dormant ∧ d ≤ b.now then b.setBus { b.bus with wake := .waiting } else b
    | .waiting => b
    | .off => b).StopSide := by
  split
  · exact .ite h fun _ => h.stopSide.setBus _
  · exact h.stopSide
  · exact h.stopSide

/-! ## Frames -/

theorem State.Ok.receive_stopSide (h : b.Ok) (frame : List Byte) (row : Envelope → Bool)
    {owner : Envelope → State → State} (ho : ∀ e, (owner e b.endReception).StopSide) :
    (b.receive frame row owner).StopSide := by
  unfold State.receive
  refine .ite h fun _ => ?_
  split
  · split
    · exact ho _
    · exact h.stopSide.endReception
  · exact h.stopSide.endReception

theorem State.Ok.served_stopSide (h : b.Ok) (e : Envelope) {f : Envelope → State → State}
    (hf : ∀ v : State, v.StopSide → (f e v).StopSide) : (State.serve f e b.endReception).StopSide := by
  unfold State.serve
  split
  · exact hf _ h.stopSide.endReception
  · exact h.stopSide.endReception

theorem State.StopSide.answerRequest (h : s.StopSide) (e : Envelope) (status : Nat) (body : List Byte) :
    (s.answerRequest e status body).StopSide := by
  have inputs : (s.answerRequest e status body).attInputs = s.attInputs := by
    apply State.attInputs_congr <;> simp
  exact h.congr (by simp) (by simp) (by simp) (.of_eq (by simp)) (by simp) inputs

theorem State.StopSide.serveRead (h : s.StopSide) (e : Envelope) : (s.serveRead e).StopSide := by
  have inputs : (s.serveRead e).attInputs = s.attInputs := by apply State.attInputs_congr <;> simp
  exact h.congr (by simp) (by simp) (by simp) (.of_eq (by simp)) (by simp) inputs

/-- MARK COLLECTED clears the changed flag of a record alone (R184). -/
theorem State.StopSide.clearChanged (h : s.StopSide) (sel : Nat) : (s.clearChanged sel).StopSide := by
  unfold State.clearChanged
  split
  · exact ⟨h.booked.setCurrent Record.clear_sound, h.causeFollows⟩
  · exact ⟨h.booked.setLast Record.clear_sound, h.causeFollows⟩

theorem State.StopSide.serveMark (h : s.StopSide) (e : Envelope) : (s.serveMark e).StopSide := by
  unfold State.serveMark
  dsimp only
  split
  · exact h.answerRequest _ _ _
  · split
    · exact (h.clearChanged _).answerRequest _ _ _
    · exact h.answerRequest _ _ _

theorem State.Ok.onMessage_stopSide (h : b.Ok) (e : Envelope) : (b.endReception.onMessage e).StopSide := by
  unfold State.onMessage
  split
  · exact h.followed_stopSide (by simp) (by simp) (by simp) (.of_eq (by simp))
  · exact h.stopSide.endReception

theorem State.Ok.onWithdrawal_stopSide (h : b.Ok) (e : Envelope) : (b.endReception.onWithdrawal e).StopSide := by
  unfold State.onWithdrawal
  split
  · exact h.followed_stopSide (by simp) (by simp) (by simp) (.of_eq (by simp))
  · exact h.stopSide.endReception

/-- The serial of a TIME MARK is a byte (R173). -/
theorem State.Ok.onTimeMark_stopSide (h : b.Ok) (e : Envelope) : (b.endReception.onTimeMark e).StopSide :=
  (h.stopSide.endReception.booked.judgeMark _ _ _ (Nat.le_of_lt_succ (byteAt_lt _ _))).followed

theorem State.Ok.onZoneStatus_stopSide (h : b.Ok) (e : Envelope) : (b.endReception.onZoneStatus e).StopSide := by
  have taken : (b.endReception.takeStatus e).Booked :=
    h.booked.congr (by simp) (by simp) (by simp) (.of_eq (by simp))
  refine State.Booked.followed ?_
  unfold State.recoverCount
  dsimp only
  split
  · exact taken.setCar _
  · exact taken

/-- A COUNT changes the adopted actual, which is no part of these laws (R117). -/
theorem State.Ok.onCount_stopSide (h : b.Ok) (e : Envelope) : (b.endReception.onCount e).StopSide := by
  refine h.followed_stopSide (by simp) (by simp) (by simp) ?_
  unfold State.useCount
  split
  · exact ⟨rfl, rfl, rfl, rfl, rfl⟩
  · exact .refl _

/-! ## Every command -/

/-- Every command leaves cause, records, shift number and shift clock in agreement, row by row of the table. -/
theorem exec_stopSide {s u : State} (h : s.Ok) (i : Instr) (ran : exec i s = .next u) : u.StopSide := by
  have begun (t : Time) : (s.begin_ t).Ok := h.begin t
  have begunSide (t : Time) : (s.begin_ t).StopSide := (begun t).stopSide
  cases i
  all_goals refine .of_ran ran ?_
  case powerOn t bpol => exact (begun t).powerOn_stopSide bpol
  case restartInput t bpol => exact .ite (begun t) fun _ => (begun t).enterLoading_stopSide bpol _ _
  case rstwRelease t => exact (begunSide t).setStart _
  case configImageRead t mem => exact .ite (begun t) fun hg => (begun t).readImage_stopSide mem hg.1
  case inputActive t x => exact (begun t).changeLevel_stopSide x true
  case inputInactive t x => exact (begun t).changeLevel_stopSide x false
  case qualifyTimeExpiry t x c0 c1 => exact (begun t).qualify_stopSide x (shiftCode_le c0 c1)
  case releaseTimeExpiry t x => exact .ite (begun t) fun _ => (begunSide t).setTracker x _
  case advancePulse t => exact .ite (begun t) fun _ => (begun t).pulse_stopSide _
  case stopDetectExpiry t => exact .ite (begun t) fun _ => ((begun t).booked.setMotion _).followed
  case holdResponseExpiry t => exact .ite (begun t) fun _ => (begun t).setSec_stopSide _
  case carOutEdge t => exact .ite (begun t) fun _ => (begun t).countCar_stopSide
  case bufferSensorChange t x level =>
    dsimp only
    split
    · exact begunSide t
    · exact (begun t).sensorChange_stopSide _ x _
  case bufferSensorQualifyExpiry t x => exact .ite (begun t) fun _ => (begun t).sensorQualify_stopSide _
  case readBackChange t level =>
    dsimp only
    split
    · exact begunSide t
    · exact (begunSide t).readBackChange _ _
  case readBackQualifyExpiry t => exact .ite (begun t) fun _ => (begun t).readBackQualify_stopSide _
  case secondsExpiry t => exact .ite (begun t) fun _ => (begun t).tick_stopSide
  case holdLimitExpiry t => exact (h.atTime t).expireHolds.stopSide
  case entrySilent t => exact (h.atTime t).silenceEntries.stopSide
  case clashCountExpiry t => exact (h.atTime t).expireClash.stopSide
  case refreshCountExpiry t => exact (h.atTime t).expireRefresh.stopSide
  case markCountExpiry t => exact (h.atTime t).expireMarkCount.stopSide
  case countPeriodExpiry t => exact (h.atTime t).expirePeriod.stopSide
  case silenceCountExpiry t => exact (h.atTime t).expireSilence.stopSide
  case countSilenceExpiry t => exact (h.atTime t).expireCountSilence.stopSide
  case messageDurationExpiry t => exact (h.atTime t).expireDurations.stopSide
  case endOfPlan t => exact (h.atTime t).reachPlanEnd_stopSide
  case overtimeLimit t => exact (h.atTime t).expireOvertime.stopSide
  case dormantCountExpiry t => exact (h.atTime t).expireDormant.stopSide
  case flashPhaseChange t => exact .ite (begun t) fun _ => ((begunSide t).setDisp _).redraw
  case pictureRefresh t =>
    dsimp only
    split
    · exact begunSide t
    · exact (begunSide t).setDisp _
  case pictureSent t => exact (begunSide t).setDisp _
  case pageTimerExpiry t => exact .ite (begun t) fun _ => ((begunSide t).setDisp _).redraw
  case stepTimerExpiry t => exact (begun t).stepTimer_stopSide
  case holdSoundEnd t => exact .ite (begun t) fun _ => (begunSide t).endSound rfl rfl
  case raiseChirpEnd t => exact .ite (begun t) fun _ => (begunSide t).endSound rfl rfl
  case lineIdle t => exact (begun t).endGap_stopSide
  case transmissionStart t => exact (begun t).transmissionStart_stopSide
  case frameSent t =>
    split
    · exact (begun t).sent_stopSide _
    · exact begunSide t
  case collision t =>
    split
    · exact (begun t).collide_stopSide _
    · exact begunSide t
  case backoffEnd t => exact .ite (begun t) fun _ => (begunSide t).setBus _
  case frameDropped t why => exact (begunSide t).setBus _
  case zoneStatus t frame => exact (begun t).receive_stopSide frame _ (begun t).onZoneStatus_stopSide
  case timeMark t frame => exact (begun t).receive_stopSide frame _ (begun t).onTimeMark_stopSide
  case count t frame => exact (begun t).receive_stopSide frame _ (begun t).onCount_stopSide
  case message t frame => exact (begun t).receive_stopSide frame _ (begun t).onMessage_stopSide
  case withdrawal t frame => exact (begun t).receive_stopSide frame _ (begun t).onWithdrawal_stopSide
  case identify t frame =>
    exact (begun t).receive_stopSide frame _ fun e => (begun t).served_stopSide e fun _ k => k.answerRequest _ _ _
  case readRecord t frame =>
    exact (begun t).receive_stopSide frame _ fun e => (begun t).served_stopSide e fun _ k => k.serveRead e
  case markCollected t frame =>
    exact (begun t).receive_stopSide frame _ fun e => (begun t).served_stopSide e fun _ k => k.serveMark e
  case badRequest t frame =>
    exact (begun t).receive_stopSide frame _ fun e => (begun t).served_stopSide e fun _ k => k.answerRequest _ _ _
  case reply t frame => exact (begun t).receive_stopSide frame _ fun _ => (begunSide t).endReception
  case wakeActivity t => exact .ite (begun t) fun hg => (begun t).activity_stopSide hg
  case wakeWindowExpiry t => exact (begun t).wakeWindow_stopSide
  case lineBusy t => exact .ite (begun t) fun _ => (begunSide t).setBus _
  case rstwActive t =>
    dsimp only
    split
    · exact begunSide t
    · exact (begunSide t).setStart _
  case supplyDisturbance t => exact (begunSide t).setCheck _

theorem step_stopSide {s u : State} (h : s.Ok) (ran : step s = .next u) : u.StopSide := by
  unfold step at ran
  split at ran
  · exact .of_ran ran h.stopSide
  · exact exec_stopSide (h.setPending _) _ ran

/-- An evaluation names a cause exactly while the section stands outside every break (R65). -/
theorem evaluate_isSome_iff {cfg : Cfg} {c : AttInputs} :
    (evaluate cfg c).isSome = true ↔ c.motion = .stopped ∧ c.inBreak = false := by
  refine ⟨fun some => ?_, fun ⟨stands, out⟩ => ?_⟩
  · by_contra other
    have none : evaluate cfg c = none := if_pos (by
      rcases not_and_or.mp other with moves | inside
      · exact .inl moves
      · exact .inr (by simpa using inside))
    simp [none] at some
  · obtain ⟨k, found⟩ := evaluate_isSome (cfg := cfg) stands out
    simp [found]

/-- An interval is open exactly in SHIFT, STOPPED, outside every break (R65, R71). -/
theorem State.StopSide.interval_isSome (h : u.StopSide) (ha : u.mode.awake = true) :
    u.ret.interval.isSome = true ↔ u.mode = .shift ∧ u.ownMotion = .stopped ∧ u.inBreak = false := by
  by_cases m : u.mode = .shift
  · obtain ⟨cause, key⟩ := h.causeFollows.1 m
    have open_ : u.ret.interval.isSome = (evaluate u.cfg u.attInputs).isSome := by
      rw [← cause, ← key, Option.isSome_map]
    rw [open_, evaluate_isSome_iff]
    exact ⟨fun ⟨stands, out⟩ => ⟨m, stands, out⟩, fun ⟨_, stands, out⟩ => ⟨stands, out⟩⟩
  · have none := (h.causeFollows.2 m).2 ha
    simp [none, m]

end Sys2Proof.Machine

open Sys2Proof Sys2Proof.Machine

/-- Settles O11: of every command, `exec_stopSide`; the interval's key is the evaluation's result, which is
present exactly while the section stands outside every break. -/
theorem stepKeepsCauseAndInterval : Obligations.StepKeepsCauseAndInterval := by
  intro s u h ran
  have side := step_stopSide h ran
  exact ⟨side.causeFollows, side.interval_isSome⟩

/-- Settles O13: of every command, `exec_stopSide`. -/
theorem stepKeepsShiftAndClock : Obligations.StepKeepsShiftAndClock := by
  intro s u h ran
  have booked := (step_stopSide h ran).booked
  exact ⟨booked.shiftOk, booked.clockOk⟩

end

section
namespace Sys2Proof.Machine

variable {b s u v : State}

/-! ## The check word of the retained area (R83, R193) -/

/-- From `b` to `s` the check word followed every change of the retained area: either neither of them moved,
or the word agrees with the area. -/
def State.CheckFollows (b s : State) : Prop :=
  (s.ret = b.ret ∧ s.check = b.check) ∨ s.check = checkWordOf s.ret

theorem State.CheckFollows.refl (s : State) : s.CheckFollows s := .inl ⟨rfl, rfl⟩

/-- A change of the area is one that the word has followed. -/
theorem State.CheckFollows.agrees (h : b.CheckFollows s) (hr : s.ret ≠ b.ret) : s.check = checkWordOf s.ret :=
  h.resolve_left fun ⟨same, _⟩ => hr same

/-- Agreement lasts (R193). -/
theorem State.CheckFollows.lasts (h : b.CheckFollows s) (hb : b.check = checkWordOf b.ret) :
    s.check = checkWordOf s.ret := by
  rcases h with ⟨ret, check⟩ | agree
  · rw [check, ret, hb]
  · exact agree

theorem State.CheckFollows.trans (h : b.CheckFollows s) (hu : s.CheckFollows u) : b.CheckFollows u := by
  rcases hu with ⟨ret, check⟩ | agree
  · rcases h with ⟨retS, checkS⟩ | agree
    · exact .inl ⟨ret.trans retS, check.trans checkS⟩
    · exact .inr (by rw [check, ret, agree])
  · exact .inr agree

/-- What changes neither area nor word. -/
theorem State.CheckFollows.keep (h : b.CheckFollows s) (hr : u.ret = s.ret) (hc : u.check = s.check) :
    b.CheckFollows u :=
  h.trans (.inl ⟨hr, hc⟩)

/-- The one way in which a command other than a supply disturbance changes the area (R83). -/
theorem State.CheckFollows.setRet (h : b.CheckFollows s) (x : Retained) : b.CheckFollows (s.setRet x) := by
  by_cases same : x = s.ret
  · exact h.keep (by simp [same]) (by simp [same])
  · exact .inr (by simp [same])

theorem State.CheckFollows.ite (h : b.CheckFollows s) {g : Prop} [Decidable g] (hv : g → b.CheckFollows v) :
    b.CheckFollows (if g then v else s) := by
  split
  · next hg => exact hv hg
  · exact h

theorem State.CheckFollows.of_ran (ran : (.next v : Host.Outcome State Fault Refusal) = .next u)
    (h : b.CheckFollows v) : b.CheckFollows u :=
  Host.Outcome.next.inj ran ▸ h

/-! ## What the end of a command and the parts of a command do to area and word -/

theorem State.CheckFollows.handOn (h : b.CheckFollows s) : b.CheckFollows s.handOn := by
  obtain ⟨kept, moved⟩ := s.handOn_check
  by_cases same : s.handOn.ret = s.ret
  · exact h.keep same (kept same)
  · exact .inr (moved same)

theorem State.CheckFollows.finish (h : b.CheckFollows s) : b.CheckFollows s.finish :=
  h.handOn.keep (by simp) (by simp)

theorem State.CheckFollows.setCalls (h : b.CheckFollows s) (x : CallUnit) : b.CheckFollows (s.setCalls x) :=
  h.keep rfl rfl

theorem State.CheckFollows.setPins (h : b.CheckFollows s) (x : Pins) : b.CheckFollows (s.setPins x) :=
  h.keep rfl rfl

theorem State.CheckFollows.setTable (h : b.CheckFollows s) (x : ZoneTable) : b.CheckFollows (s.setTable x) :=
  h.keep rfl rfl

theorem State.CheckFollows.setSec (h : b.CheckFollows s) (x : SectionMonitor) : b.CheckFollows (s.setSec x) :=
  h.keep rfl rfl

theorem State.CheckFollows.setClock (h : b.CheckFollows s) (x : Clock) : b.CheckFollows (s.setClock x) :=
  h.keep rfl rfl

theorem State.CheckFollows.setBus (h : b.CheckFollows s) (x : Bus) : b.CheckFollows (s.setBus x) :=
  h.keep rfl rfl

theorem State.CheckFollows.setDisp (h : b.CheckFollows s) (x : Display) : b.CheckFollows (s.setDisp x) :=
  h.keep rfl rfl

theorem State.CheckFollows.setStart (h : b.CheckFollows s) (x : StartUp) : b.CheckFollows (s.setStart x) :=
  h.keep rfl rfl

theorem State.CheckFollows.setAtt (h : b.CheckFollows s) (x : Attributor) : b.CheckFollows (s.setAtt x) :=
  h.keep rfl rfl

theorem State.CheckFollows.redraw (h : b.CheckFollows s) : b.CheckFollows s.redraw := h.keep (by simp) (by simp)

theorem State.CheckFollows.evalPeak (h : b.CheckFollows s) : b.CheckFollows s.evalPeak := by
  unfold State.evalPeak
  split
  · exact .ite h fun _ => h.setRet _
  · exact h

theorem State.CheckFollows.setCar (h : b.CheckFollows s) (n : Nat) : b.CheckFollows (s.setCar n) := by
  unfold State.setCar
  split
  · exact h
  · exact (h.setRet { s.ret with car := n, actual := n }).keep (by simp) (by simp)

theorem State.CheckFollows.charge (h : b.CheckFollows s) (f : Record → Record) : b.CheckFollows (s.charge f) :=
  .ite h fun _ => h.setRet _

theorem State.CheckFollows.crossMode (h : b.CheckFollows s) (shift : Nat) : b.CheckFollows (s.crossMode shift) :=
  h.keep (by simp) (by simp)

theorem State.CheckFollows.crossPace (h : b.CheckFollows s) : b.CheckFollows s.crossPace := by
  have planned (x : Pace) : b.CheckFollows (s.setPace x) := h.keep rfl rfl
  exact (planned _).setRet _

theorem State.CheckFollows.boundary (h : b.CheckFollows s) (shift serial : Nat) :
    b.CheckFollows (s.boundary shift serial) := by
  have crossed := (((h.setRet (s.ret.cross shift serial)).setCalls s.calls.forgetTimes).setTable
    s.table.dropSilent).setAtt { s.att with carried := none }
  exact (((crossed.crossMode shift).setCar 0).setSec _).crossPace.evalPeak

theorem State.CheckFollows.markTime (h : b.CheckFollows s) : b.CheckFollows s.markTime :=
  h.keep (by simp) (by simp)

theorem State.CheckFollows.endOvertime (h : b.CheckFollows s) : b.CheckFollows s.endOvertime := by
  have crossed := (h.setClock { s.clock with s := 0, pause := 0 }).boundary 0
    (nextSerial s.ret.serial)
  exact .ite crossed fun _ => crossed.markTime

theorem State.CheckFollows.checkOvertime (h : b.CheckFollows s) : b.CheckFollows s.checkOvertime :=
  .ite h fun _ => h.handOn.endOvertime

theorem State.CheckFollows.ownBoundary (h : b.CheckFollows s) (shift serial : Nat) :
    b.CheckFollows (s.ownBoundary shift serial) :=
  ((h.setClock (s.clock.ownInput s.cfg.zone)).boundary shift serial).markTime

theorem State.CheckFollows.shiftEnd (h : b.CheckFollows s) : b.CheckFollows s.shiftEnd := by
  cases hs : s.ret.serial with
  | none => rwa [s.shiftEnd_without_serial hs]
  | some x =>
    rw [s.shiftEnd_steps hs]
    split
    · exact h.setClock _
    · exact h.ownBoundary _ _

/-- Whatever a TIME MARK brings (R97). -/
theorem State.CheckFollows.judgeMark (h : b.CheckFollows s) (sender shift serial second : Nat) :
    b.CheckFollows (s.judgeMark sender shift serial second) := by
  have gained (c : Clock) : b.CheckFollows (s.setClock c).gainAuthority := h.keep (by simp) (by simp)
  have cross : b.CheckFollows (s.adoptBoundary sender shift serial second) :=
    ((gained _).boundary shift serial).checkOvertime
  have same : b.CheckFollows (s.adoptSame sender second) := by
    unfold State.adoptSame
    dsimp only
    generalize (if s.ret.shift = 0 then 0 else second) = m
    exact State.CheckFollows.checkOvertime (.ite (gained _) fun _ => (gained _).evalPeak)
  unfold State.judgeMark
  dsimp only
  repeat' split
  all_goals assumption

theorem State.CheckFollows.enterHold (h : b.CheckFollows s) (k : CallKind) : b.CheckFollows (s.enterHold k) :=
  (h.charge _).keep rfl rfl

theorem State.CheckFollows.appendCall (h : b.CheckFollows s) (x : Call) : b.CheckFollows (s.appendCall x) :=
  (h.setCalls _).charge _

theorem State.CheckFollows.startAlert (h : b.CheckFollows s) (k : CallKind) : b.CheckFollows (s.startAlert k) :=
  h.keep (by simp) (by simp)

theorem State.CheckFollows.raiseSafety (h : b.CheckFollows s) (station : Nat) :
    b.CheckFollows (s.raiseSafety station) :=
  ((h.appendCall _).enterHold .safety).startAlert .safety

/-- What a pull charges the current record (R9, R10, R17, R24). -/
theorem State.CheckFollows.pull (h : b.CheckFollows s) (cord : Cord) : b.CheckFollows (s.pull cord) := by
  have new : b.CheckFollows (s.pullNew cord) := by
    unfold State.pullNew
    refine State.CheckFollows.ite ?_ fun _ => h
    split
    · exact (h.setCalls _).enterHold _
    · split
      · exact h.raiseSafety _
      · exact h.appendCall _
  unfold State.pull
  split
  · exact h
  · split
    · exact new
    · split
      · exact h
      · split <;> exact h.setCalls _

theorem State.CheckFollows.enterHolds (h : b.CheckFollows s) (l : List Call) :
    b.CheckFollows (l.foldl (fun s x => s.enterHold x.kind) s) := by
  induction l generalizing s with
  | nil => exact h
  | cons x rest ih => exact ih (h.enterHold x.kind)

theorem State.CheckFollows.paced (h : b.CheckFollows s) : b.CheckFollows s.paced :=
  ((h.setSec (s.sec.accept s.now)).setCalls _).enterHolds _

theorem State.CheckFollows.rekey (h : b.CheckFollows s) (r : Option CauseKey) : b.CheckFollows (s.rekey r) := by
  obtain ⟨ret, check, -⟩ := s.rekey_ret r
  by_cases same : s.ret.interval.map (fun i => i.key) = r
  · exact h.keep (by rw [ret, if_pos same]) (by rw [check, if_pos same])
  · exact .inr (by rw [check, if_neg same])

theorem State.CheckFollows.rekeyAfter {p : State × State} (h : b.CheckFollows p.2) (c : Instr) :
    b.CheckFollows (Machine.rekeyAfter p c).2 := by
  unfold Machine.rekeyAfter
  dsimp only
  split
  · exact h.rekey _
  · exact h

theorem State.CheckFollows.rekeyTogether (h : b.CheckFollows s) : b.CheckFollows s.rekeyTogether := by
  have folded (l : List Instr) (p : State × State) (hp : b.CheckFollows p.2) :
      b.CheckFollows (l.foldl Machine.rekeyAfter p).2 := by
    induction l generalizing p with
    | nil => exact hp
    | cons c rest ih => exact ih _ (hp.rekeyAfter c)
  exact .ite h fun _ => folded _ _ h

theorem State.CheckFollows.rekeyed (h : b.CheckFollows s) : b.CheckFollows s.rekeyed := by
  unfold State.rekeyed
  split
  · exact h.paced.handOn
  · exact h.paced.handOn.rekeyTogether

theorem State.CheckFollows.tick (h : b.CheckFollows s) : b.CheckFollows s.tick := by
  have ticked : b.CheckFollows s.tickClock.handOn := (h.keep (by simp) (by simp)).handOn
  have counted : b.CheckFollows s.tickClock.handOn.countStopSecond := .ite ticked fun _ => ticked.setRet _
  have peaked := (counted.keep (u := s.tickClock.handOn.countStopSecond.tickCalls.tickTable.tickMarks)
    (by simp) (by simp)).evalPeak
  exact (peaked.keep (by simp) (by simp)).finish

theorem State.CheckFollows.wake (h : b.CheckFollows s) : b.CheckFollows s.wake := by
  obtain ⟨-, ret, check⟩ := s.wake_value
  exact h.keep ret check

theorem State.CheckFollows.wakeIfDormant (h : b.CheckFollows s) : b.CheckFollows s.wakeIfDormant :=
  .ite h fun _ => h.wake

/-! ## What a command finds (log 3) -/

theorem State.CheckFollows.expireHolds (h : b.CheckFollows s) : b.CheckFollows s.expireHolds :=
  .ite h fun _ => (h.setCalls _).finish

theorem State.CheckFollows.silenceEntries (h : b.CheckFollows s) : b.CheckFollows s.silenceEntries :=
  .ite h fun _ => (h.setTable _).finish

theorem State.CheckFollows.expireClash (h : b.CheckFollows s) : b.CheckFollows s.expireClash :=
  .ite h fun _ => (h.setTable _).finish

theorem State.CheckFollows.expireRefresh (h : b.CheckFollows s) : b.CheckFollows s.expireRefresh :=
  h.keep (by simp) (by simp)

theorem State.CheckFollows.expireMarkCount (h : b.CheckFollows s) : b.CheckFollows s.expireMarkCount :=
  h.keep (by simp) (by simp)

theorem State.CheckFollows.expirePeriod (h : b.CheckFollows s) : b.CheckFollows s.expirePeriod :=
  h.keep (by simp) (by simp)

theorem State.CheckFollows.expireSilence (h : b.CheckFollows s) : b.CheckFollows s.expireSilence :=
  h.keep (by simp) (by simp)

theorem State.CheckFollows.expireCountSilence (h : b.CheckFollows s) : b.CheckFollows s.expireCountSilence :=
  h.keep (by simp) (by simp)

theorem State.CheckFollows.expireDurations (h : b.CheckFollows s) : b.CheckFollows s.expireDurations :=
  .ite h fun _ => (h.keep (by simp) (by simp)).finish

theorem State.CheckFollows.reachPlanEnd (h : b.CheckFollows s) : b.CheckFollows s.reachPlanEnd :=
  .ite h fun _ => h.evalPeak.finish

theorem State.CheckFollows.expireOvertime (h : b.CheckFollows s) : b.CheckFollows s.expireOvertime :=
  .ite h fun _ => h.endOvertime.finish

/-- The entry of DORMANT keeps the retained area (R195). -/
theorem State.CheckFollows.expireDormant (h : b.CheckFollows s) : b.CheckFollows s.expireDormant := by
  refine .ite h fun _ => ?_
  unfold State.enterDormant
  dsimp only
  exact State.CheckFollows.finish (h.keep (by simp) (by simp))

theorem State.CheckFollows.settle (h : b.CheckFollows s) : b.CheckFollows s.settle := by
  have counted := h.expireHolds.silenceEntries.expireClash.expireRefresh.expireMarkCount.expirePeriod
  exact counted.expireSilence.expireCountSilence.expireDurations.expireOvertime.expireDormant

theorem State.CheckFollows.atTime (h : b.CheckFollows s) (t : Time) : b.CheckFollows (s.atTime t) :=
  h.keep (by simp) (by simp)

theorem State.CheckFollows.begin_ (h : b.CheckFollows s) (t : Time) : b.CheckFollows (s.begin_ t) :=
  h.settle.atTime t

end Sys2Proof.Machine
end

section
namespace Sys2Proof.Machine

variable {b s u v : State}

/-! ## Area and check word at start-up (R188, R190, R192) -/

/-- A power-on clears the area and sets the word to agree; a restart leaves both (R188). -/
theorem State.powerOn_check (bpol : Bool) : (s.powerOn bpol).check = checkWordOf (s.powerOn bpol).ret :=
  (State.clearArea_value _).2

theorem State.CheckFollows.restart (h : b.CheckFollows s) (bpol : Bool) : b.CheckFollows (s.restart bpol) :=
  h.keep rfl rfl

theorem State.CheckFollows.halt (h : b.CheckFollows s) (c : HaltCode) : b.CheckFollows (s.halt c) := by
  have halted : b.CheckFollows ((s.setMode .halted).setStart { s.start with halt := some c, reading := false }) :=
    h.keep rfl rfl
  exact halted.finish

theorem State.CheckFollows.clearArea : b.CheckFollows s.clearArea := .inr (State.clearArea_value _).2

theorem State.CheckFollows.judgeArea (h : b.CheckFollows s) : b.CheckFollows s.judgeArea := by
  have counter {v : State} (hv : b.CheckFollows v) :
      b.CheckFollows (if v.cfg.roles.countPoint then v else v.setRet { v.ret with car := 0 }) := by
    split
    · exact hv
    · exact hv.setRet _
  exact counter (.ite h fun _ => .clearArea)

theorem State.CheckFollows.setMode (h : b.CheckFollows s) (m : Mode) : b.CheckFollows (s.setMode m) :=
  h.keep rfl rfl

theorem State.CheckFollows.setPace (h : b.CheckFollows s) (x : Pace) : b.CheckFollows (s.setPace x) :=
  h.keep rfl rfl

theorem State.CheckFollows.leaving (h : b.CheckFollows s) (c : Cfg) (plans : PlanStore) :
    b.CheckFollows (s.leaving c plans) := by
  have loaded : b.CheckFollows ((s.setCfg c).setClock { s.clock with plans := plans }) := h.keep rfl rfl
  have closed : b.CheckFollows ((s.setCfg c).setClock { s.clock with plans := plans }).judgeArea.closeRetained :=
    (loaded.judgeArea.setAtt _).setRet _
  exact ((((closed.setStart _).setMode _).setPace _).setRet _).setBus _

theorem State.CheckFollows.leaveLoading (h : b.CheckFollows s) (c : Cfg) (plans : PlanStore) :
    b.CheckFollows (s.leaveLoading c plans) := by
  rw [State.leaveLoading_steps]
  exact State.CheckFollows.finish ((h.leaving c plans).keep (by simp) (by simp))

theorem State.CheckFollows.readImage (h : b.CheckFollows s) (mem : List Byte) :
    b.CheckFollows (match imageFault mem with
      | some c => s.halt c
      | none => s.leaveLoading (cfgOf mem) (plansOf mem)) := by
  split
  · exact h.halt _
  · exact h.leaveLoading _ _

/-! ## Inputs -/

theorem State.CheckFollows.setTracker (h : b.CheckFollows s) (i : InputId) (x : Tracker) :
    b.CheckFollows (s.setTracker i x) :=
  h.keep (by simp) (by simp)

theorem State.CheckFollows.changeLevel (h : b.CheckFollows s) (i : InputId) (level : Bool) :
    b.CheckFollows (s.changeLevel i level) :=
  h.keep (by simp) (by simp)

theorem State.CheckFollows.counted (h : b.CheckFollows s) (i : InputId) (code : Nat) :
    b.CheckFollows (s.counted i code) := by
  have woken := h.wakeIfDormant
  cases i with
  | clr => exact (woken.setCalls _).finish
  | shst => exact (woken.ownBoundary _ _).finish
  | shend => exact woken.shiftEnd.finish
  | call n =>
    unfold State.counted
    dsimp only
    split
    · exact h
    · split
      · exact h
      · exact (woken.pull _).finish

theorem State.CheckFollows.qualify (h : b.CheckFollows s) (i : InputId) (code : Nat) :
    b.CheckFollows (s.qualify i code) := by
  unfold State.qualify
  dsimp only
  refine .ite h fun _ => ?_
  split
  · exact (h.setTracker i _).counted i code
  · exact h.setTracker i _

theorem State.CheckFollows.setMotion (h : b.CheckFollows s) (m : Motion) : b.CheckFollows (s.setMotion m) :=
  h.keep (by simp) (by simp)

theorem State.CheckFollows.pulse (h : b.CheckFollows s) (gap : Nat) : b.CheckFollows (s.pulse gap) := by
  by_cases soon : s.sec.tooSoon gap s.now = true
  · rw [State.pulse, if_pos soon]
    exact (h.setSec _).finish
  · have steps : s.pulse gap = (s.rekeyed.setMotion .moving).finish := if_neg soon
    rw [steps]
    exact (h.rekeyed.setMotion .moving).finish

/-! ## The line -/

theorem State.CheckFollows.endGap (h : b.CheckFollows s) :
    b.CheckFollows (if s.gapOver then s.endGap true else if s.gapCutNow then s.endGap false else s) := by
  have ended (idle : Bool) : b.CheckFollows (s.endGap idle) := h.setBus _
  split
  · exact ended true
  · exact .ite h fun _ => ended false

theorem State.CheckFollows.transmissionStart (h : b.CheckFollows s) :
    b.CheckFollows (match s.bus.firstPending with
    | some i =>
      match s.frameFor i with
      | some f => if s.mayTransmit then s.startAttempt i f else s
      | none => s
    | none => s) := by
  split
  · split
    · exact .ite h fun _ => h.keep (by simp) (by simp)
    · exact h
  · exact h

theorem State.CheckFollows.sent (h : b.CheckFollows s) (x : Tx) : b.CheckFollows (s.sent x) := by
  unfold State.sent
  dsimp only
  split <;> exact State.CheckFollows.finish (h.keep (by simp) (by simp))

theorem State.CheckFollows.collide (h : b.CheckFollows s) (x : Tx) : b.CheckFollows (s.collide x) := by
  have ended (y : Bus) (f : Requests → Requests) : b.CheckFollows ((s.setBus y).replyEnded x f).finish :=
    State.CheckFollows.finish (h.keep (by simp) (by simp))
  unfold State.collide
  dsimp only
  split
  · exact ended _ _
  · split <;> exact ended _ _

theorem State.CheckFollows.activity (h : b.CheckFollows s) : b.CheckFollows s.activity := by
  have woken (x : Bus) : b.CheckFollows (s.setBus x).wake := (h.setBus x).wake
  have seen (x y : Bus) : b.CheckFollows ((s.setBus x).setBus y) := (h.setBus x).setBus y
  unfold State.activity
  dsimp only
  split
  · exact woken _
  · split
    · split
      · exact woken _
      · exact seen _ _
    · exact seen _ _
    · exact seen _ _

theorem State.CheckFollows.wakeWindow (h : b.CheckFollows s) :
    b.CheckFollows (match s.bus.wake with
    | .seen d =>
      if s.mode = Mode.dormant ∧ d ≤ s.now then s.setBus { s.bus with wake := .waiting } else s
    | .waiting => s
    | .off => s) := by
  split
  · exact .ite h fun _ => h.setBus _
  · exact h
  · exact h

/-! ## Frames -/

theorem State.CheckFollows.endReception (h : b.CheckFollows s) : b.CheckFollows s.endReception := h.setBus _

theorem State.CheckFollows.receive (h : b.CheckFollows s) (frame : List Byte) (row : Envelope → Bool)
    {owner : Envelope → State → State} (ho : ∀ e, b.CheckFollows (owner e s.endReception)) :
    b.CheckFollows (s.receive frame row owner) := by
  unfold State.receive
  refine .ite h fun _ => ?_
  split
  · split
    · exact ho _
    · exact h.endReception
  · exact h.endReception

theorem State.CheckFollows.served (h : b.CheckFollows s) (e : Envelope) {f : Envelope → State → State}
    (hf : ∀ v : State, b.CheckFollows v → b.CheckFollows (f e v)) : b.CheckFollows (State.serve f e s) :=
  .ite h fun _ => hf _ h

theorem State.CheckFollows.answerRequest (h : b.CheckFollows s) (e : Envelope) (status : Nat)
    (body : List Byte) : b.CheckFollows (s.answerRequest e status body) :=
  h.keep (by simp) (by simp)

theorem State.CheckFollows.serveRead (h : b.CheckFollows s) (e : Envelope) : b.CheckFollows (s.serveRead e) :=
  h.keep (by simp) (by simp)

/-- MARK COLLECTED clears a changed flag, which is part of the area (R184). -/
theorem State.CheckFollows.serveMark (h : b.CheckFollows s) (e : Envelope) : b.CheckFollows (s.serveMark e) := by
  have cleared (sel : Nat) : b.CheckFollows (s.clearChanged sel) := by
    unfold State.clearChanged
    split <;> exact h.setRet _
  unfold State.serveMark
  dsimp only
  split
  · exact h.answerRequest _ _ _
  · split
    · exact (cleared _).answerRequest _ _ _
    · exact h.answerRequest _ _ _

theorem State.CheckFollows.onMessage (h : b.CheckFollows s) (e : Envelope) : b.CheckFollows (s.onMessage e) :=
  .ite h fun _ => State.CheckFollows.finish (h.keep (by simp) (by simp))

theorem State.CheckFollows.onWithdrawal (h : b.CheckFollows s) (e : Envelope) :
    b.CheckFollows (s.onWithdrawal e) :=
  .ite h fun _ => State.CheckFollows.finish (h.keep (by simp) (by simp))

theorem State.CheckFollows.onTimeMark (h : b.CheckFollows s) (e : Envelope) : b.CheckFollows (s.onTimeMark e) :=
  (h.judgeMark _ _ _ _).finish

theorem State.CheckFollows.onZoneStatus (h : b.CheckFollows s) (e : Envelope) :
    b.CheckFollows (s.onZoneStatus e) := by
  have taken : b.CheckFollows (s.takeStatus e) := h.keep (by simp) (by simp)
  have recovered : b.CheckFollows ((s.takeStatus e).recoverCount e) := .ite taken fun _ => taken.setCar _
  exact recovered.finish

theorem State.CheckFollows.onCount (h : b.CheckFollows s) (e : Envelope) : b.CheckFollows (s.onCount e) := by
  have used : b.CheckFollows (s.useCount e) := .ite h fun _ => (h.setPace _).setRet _
  exact used.finish

end Sys2Proof.Machine
end

section
namespace Sys2Proof.Machine

/-! ## Every command -/

/-- From before every command but a supply disturbance to after it the check word follows the retained area,
row by row of the table (R83, R193). -/
theorem exec_checkFollows {s u : State} (i : Instr) (hi : ∀ t, i ≠ .supplyDisturbance t)
    (ran : exec i s = .next u) : s.CheckFollows u := by
  have start : s.CheckFollows s := .refl s
  have begun (t : Time) : s.CheckFollows (s.begin_ t) := start.begin_ t
  have timed (t : Time) : s.CheckFollows (s.atTime t) := start.atTime t
  cases i
  all_goals refine .of_ran ran ?_
  case powerOn t bpol => exact .inr (State.powerOn_check bpol)
  case restartInput t bpol => exact .ite (begun t) fun _ => (begun t).restart bpol
  case rstwRelease t => exact (begun t).setStart _
  case configImageRead t mem => exact .ite (begun t) fun _ => (begun t).readImage mem
  case inputActive t x => exact (begun t).changeLevel x true
  case inputInactive t x => exact (begun t).changeLevel x false
  case qualifyTimeExpiry t x c0 c1 => exact (begun t).qualify x _
  case releaseTimeExpiry t x => exact .ite (begun t) fun _ => (begun t).setTracker x _
  case advancePulse t => exact .ite (begun t) fun _ => (begun t).pulse _
  case stopDetectExpiry t => exact .ite (begun t) fun _ => ((begun t).setMotion _).finish
  case holdResponseExpiry t => exact .ite (begun t) fun _ => ((begun t).setSec _).finish
  case carOutEdge t => exact .ite (begun t) fun _ => (((begun t).setSec _).setCar _).finish
  case bufferSensorChange t x level =>
    dsimp only
    split
    · exact begun t
    · exact ((begun t).setPins _).setTable _
  case bufferSensorQualifyExpiry t x => exact .ite (begun t) fun _ => ((begun t).setTable _).finish
  case readBackChange t level =>
    dsimp only
    split
    · exact begun t
    · exact ((begun t).setPins _).setAtt _
  case readBackQualifyExpiry t => exact .ite (begun t) fun _ => ((begun t).setAtt _).finish
  case secondsExpiry t => exact .ite (begun t) fun _ => (begun t).tick
  case holdLimitExpiry t => exact (timed t).expireHolds
  case entrySilent t => exact (timed t).silenceEntries
  case clashCountExpiry t => exact (timed t).expireClash
  case refreshCountExpiry t => exact (timed t).expireRefresh
  case markCountExpiry t => exact (timed t).expireMarkCount
  case countPeriodExpiry t => exact (timed t).expirePeriod
  case silenceCountExpiry t => exact (timed t).expireSilence
  case countSilenceExpiry t => exact (timed t).expireCountSilence
  case messageDurationExpiry t => exact (timed t).expireDurations
  case endOfPlan t => exact (timed t).reachPlanEnd
  case overtimeLimit t => exact (timed t).expireOvertime
  case dormantCountExpiry t => exact (timed t).expireDormant
  case flashPhaseChange t => exact .ite (begun t) fun _ => ((begun t).setDisp _).redraw
  case pictureRefresh t =>
    dsimp only
    split
    · exact begun t
    · exact (begun t).setDisp _
  case pictureSent t => exact (begun t).setDisp _
  case pageTimerExpiry t => exact .ite (begun t) fun _ => ((begun t).setDisp _).redraw
  case stepTimerExpiry t =>
    split
    · exact .ite (begun t) fun _ => (begun t).keep (by simp) (by simp)
    · exact begun t
  case holdSoundEnd t => exact .ite (begun t) fun _ => ((begun t).setCalls _).redraw
  case raiseChirpEnd t => exact .ite (begun t) fun _ => ((begun t).setCalls _).redraw
  case lineIdle t => exact (begun t).endGap
  case transmissionStart t => exact (begun t).transmissionStart
  case frameSent t =>
    split
    · exact (begun t).sent _
    · exact begun t
  case collision t =>
    split
    · exact (begun t).collide _
    · exact begun t
  case backoffEnd t => exact .ite (begun t) fun _ => (begun t).setBus _
  case frameDropped t why => exact (begun t).setBus _
  case zoneStatus t frame => exact (begun t).receive frame _ (begun t).endReception.onZoneStatus
  case timeMark t frame => exact (begun t).receive frame _ (begun t).endReception.onTimeMark
  case count t frame => exact (begun t).receive frame _ (begun t).endReception.onCount
  case message t frame => exact (begun t).receive frame _ (begun t).endReception.onMessage
  case withdrawal t frame => exact (begun t).receive frame _ (begun t).endReception.onWithdrawal
  case identify t frame =>
    exact (begun t).receive frame _ fun e => (begun t).endReception.served e fun _ k => k.answerRequest _ _ _
  case readRecord t frame =>
    exact (begun t).receive frame _ fun e => (begun t).endReception.served e fun _ k => k.serveRead e
  case markCollected t frame =>
    exact (begun t).receive frame _ fun e => (begun t).endReception.served e fun _ k => k.serveMark e
  case badRequest t frame =>
    exact (begun t).receive frame _ fun e => (begun t).endReception.served e fun _ k => k.answerRequest _ _ _
  case reply t frame => exact (begun t).receive frame _ fun _ => (begun t).endReception
  case wakeActivity t => exact .ite (begun t) fun _ => (begun t).activity
  case wakeWindowExpiry t => exact (begun t).wakeWindow
  case lineBusy t => exact .ite (begun t) fun _ => (begun t).setBus _
  case rstwActive t =>
    dsimp only
    split
    · exact begun t
    · exact (begun t).setStart _
  case supplyDisturbance t => exact absurd rfl (hi t)

theorem step_checkFollows {s u : State} (hp : ∀ t, s.pending.head? ≠ some (.supplyDisturbance t))
    (ran : step s = .next u) : s.CheckFollows u := by
  unfold step at ran
  split at ran
  · exact .of_ran ran (.refl s)
  · next c rest pending =>
    have front : ∀ t, c ≠ .supplyDisturbance t := fun t same => hp t (by rw [pending, same]; rfl)
    have dequeued : s.CheckFollows (s.setPending rest) := .inl ⟨rfl, rfl⟩
    exact dequeued.trans (exec_checkFollows c front ran)

end Sys2Proof.Machine

open Sys2Proof Sys2Proof.Machine

/-- Settles O12: the records by `exec_stopSide`; the check word by `exec_checkFollows`, which names the one
operation that changes the area and what it does to the word. -/
theorem stepKeepsShiftRecords : Obligations.StepKeepsShiftRecords := by
  intro s u h ran
  refine ⟨(step_stopSide h ran).booked.recordsOk, fun hp => ?_⟩
  have follows := step_checkFollows hp ran
  exact ⟨follows.agrees, follows.lasts⟩

end

section
namespace Sys2Proof.Machine

/-! ## A charge of the tally (R76, R77) -/

/-- The entry of a key as a charge finds it: a new one where the tally holds none (R77). -/
def entryOf (tally : List TallyEntry) (k : CauseKey) : TallyEntry :=
  (tally.find? (fun e => e.key = k)).getD ⟨k, 0, 0⟩

theorem find?_key_eq_none {tally : List TallyEntry} {k : CauseKey} :
    tally.find? (fun e => e.key = k) = none ↔ k ∉ tallyKeys tally := by
  simp [mem_tallyKeys]

theorem addSeconds_of_lt {a b : Nat} (h : a + b < 4294967296) : addSeconds a b = a + b := if_pos h

/-- The charged entry takes seconds and stop (R77). -/
theorem find?_chargeTally (k : CauseKey) {secs : Nat} (hs : secs < 4294967296) (charged : Bool)
    (tally : List TallyEntry) :
    (chargeTally k secs charged tally).find? (fun e => e.key = k) =
      some ⟨k, countStop charged (entryOf tally k).stops, addSeconds (entryOf tally k).seconds secs⟩ := by
  induction tally with
  | nil => simp [chargeTally, entryOf, addSeconds_of_lt (a := 0) (by omega : 0 + secs < _)]
  | cons e rest ih =>
    unfold chargeTally
    by_cases here : e.key = k
    · simp [here, entryOf]
    · have further : entryOf (e :: rest) k = entryOf rest k := by simp [entryOf, here]
      simp [here, further, ih]

/-- The entries of other keys stay (R77). -/
theorem mem_chargeTally_of_ne {k : CauseKey} {secs : Nat} {charged : Bool} {tally : List TallyEntry}
    {e : TallyEntry} (h : e.key ≠ k) : e ∈ chargeTally k secs charged tally ↔ e ∈ tally := by
  have other {x : TallyEntry} (hx : x.key = k) : e ≠ x := fun same => h (same ▸ hx)
  induction tally with
  | nil => simp [chargeTally, other]
  | cons x rest ih =>
    unfold chargeTally
    by_cases here : x.key = k
    · simp [here, other]
    · simp [here, ih]

/-- The seconds of a tally (R79). -/
def tallySeconds (tally : List TallyEntry) : Nat := (tally.map (fun e => e.seconds)).sum

theorem tallySeconds_cons (e : TallyEntry) (rest : List TallyEntry) :
    tallySeconds (e :: rest) = e.seconds + tallySeconds rest := by simp [tallySeconds]

/-- A charge adds its seconds to the tally's, while they fit 32 bits (R77, R79). -/
theorem tallySeconds_chargeTally {k : CauseKey} {secs : Nat} {charged : Bool} {tally : List TallyEntry}
    (h : tallySeconds tally + secs < 4294967296) :
    tallySeconds (chargeTally k secs charged tally) = tallySeconds tally + secs := by
  induction tally with
  | nil => simp [chargeTally, tallySeconds]
  | cons e rest ih =>
    rw [tallySeconds_cons] at h
    unfold chargeTally
    by_cases here : e.key = k
    · rw [if_pos here, tallySeconds_cons, tallySeconds_cons, addSeconds_of_lt (by omega)]
      exact Nat.add_right_comm ..
    · rw [if_neg here, tallySeconds_cons, tallySeconds_cons, ih (by omega)]
      omega

theorem absent_iff {tally : List TallyEntry} {k : CauseKey} :
    (tally.all (fun e => e.key ≠ k)) = true ↔ k ∉ tallyKeys tally := by
  simp [mem_tallyKeys]

/-- Where the interval is charged: under its own key, or under OTHER (R76, R77). -/
theorem chargeKey_eq (tally : List TallyEntry) (k : CauseKey) :
    chargeKey tally k = if (∃ e ∈ tally, e.key = k) ∨ keyedCount tally < 31 then k else otherKey := by
  unfold chargeKey
  simp only [stopsOf_isSome, mem_tallyKeys]
  rfl

/-- A close changes the record when it creates an entry, adds seconds or raises a stop count (R77). -/
theorem closeChanges_eq {tally : List TallyEntry} (hr : ∀ x ∈ tally, x.stops ≤ 65535) (k : CauseKey)
    (i : Interval) :
    closeChanges tally k i = (tally.all (fun e => e.key ≠ k) || 0 < i.seconds ||
      countStop i.charged (entryOf tally k).stops ≠ (entryOf tally k).stops) := by
  unfold closeChanges stopsOf entryOf
  cases found : tally.find? (fun e => e.key = k) with
  | none =>
    rw [absent_iff.mpr (find?_key_eq_none.mp found)]
    rfl
  | some e =>
    have below := hr e (List.mem_of_find?_eq_some found)
    have present : (tally.all (fun e => e.key ≠ k)) = false := by
      rw [Bool.eq_false_iff, Ne, absent_iff, ← find?_key_eq_none, found]
      simp
    have raised : (!i.charged && decide (e.stops < 65535)) = decide (countStop i.charged e.stops ≠ e.stops) := by
      rw [Bool.eq_iff_iff]
      cases i.charged with
      | true => simp [countStop]
      | false =>
        simp [countStop]
        omega
    rw [present, Bool.false_or]
    exact congrArg (decide (0 < i.seconds) || ·) raised

/-- A close in terms of the entry it charges (R77, R78). -/
theorem Record.close_eq {r : Record} (h : r.Ok) (i : Interval) :
    let k := chargeKey r.tally i.key
    let changed : Bool := r.tally.all (fun e => e.key ≠ k) || 0 < i.seconds ||
      countStop i.charged (entryOf r.tally k).stops ≠ (entryOf r.tally k).stops
    r.close_ i = { r with
      tally := chargeTally k i.seconds i.charged r.tally
      total := addSeconds r.total i.seconds
      version := if changed = true then (r.version + 1) % 65536 else r.version
      changed := r.changed || changed } := by
  obtain ⟨-, -, -, -, -, -, -, -, -, -, -, -, -, ranges, -⟩ := h
  intro k changed
  have made : closeChanges r.tally k i = changed := closeChanges_eq (fun x hx => (ranges x hx).1) k i
  unfold Record.close_ Record.advance
  dsimp only
  rw [show chargeKey r.tally i.key = k from rfl, made]
  cases changed <;> simp

/-- The keys of a record after a close (R77). -/
theorem Record.close_keys (r : Record) (i : Interval) :
    tallyKeys (r.close_ i).tally = tallyKeys r.tally ++
      (if r.tally.all (fun e => e.key ≠ chargeKey r.tally i.key) = true then [chargeKey r.tally i.key] else []) := by
  obtain ⟨-, -, -, -, -, tally, -⟩ := r.close_frame i
  rw [tally, tallyKeys_chargeTally]
  by_cases present : chargeKey r.tally i.key ∈ tallyKeys r.tally
  · rw [if_pos present, if_neg (fun k => absent_iff.mp k present), List.append_nil]
  · rw [if_neg present, if_pos (absent_iff.mpr present)]

end Sys2Proof.Machine

open Sys2Proof Sys2Proof.Machine

/-- Settles O20: by the lemmas about a charge of the tally, `find?_chargeTally`, `tallyKeys_chargeTally`,
`mem_chargeTally_of_ne` and `tallySeconds_chargeTally`, and by `Record.close_eq`. -/
theorem closeKeepsTotalEqualToTally : Obligations.CloseKeepsTotalEqualToTally := by
  intro r i
  obtain ⟨-, -, -, -, -, tally, total⟩ := r.close_frame i
  refine ⟨fun agrees fits => ?_, fun area => rfl, fun ok _ below => ?_⟩
  · have sum : tallySeconds (r.close_ i).tally = tallySeconds r.tally + i.seconds := by
      rw [tally]
      exact tallySeconds_chargeTally (by rw [← show r.total = tallySeconds r.tally from agrees]; exact fits)
    rw [total, addSeconds_of_lt fits]
    exact ⟨rfl, by rw [agrees]; exact sum.symm⟩
  · have key := chargeKey_eq r.tally i.key
    have close := Record.close_eq ok i
    have keys := r.close_keys i
    intro u other keyed key' old absent stops changed
    have same : key' = chargeKey r.tally i.key := key.symm
    clear_value key'
    subst same
    refine ⟨?_, keys, fun e he => ?_, total, ?_, ?_, ?_⟩
    · show (r.close_ i).tally.find? _ = _
      rw [tally]
      exact find?_chargeTally _ below _ _
    · show e ∈ (r.close_ i).tally ↔ _
      rw [tally]
      exact mem_chargeTally_of_ne he
    · exact congrArg Record.version close
    · exact congrArg Record.changed close
    · rw [show u = r.close_ i from rfl, close]

end

section
namespace Sys2Proof.Machine

/-! ## The ranking of candidates (R21, R66) -/

/-- A hold start as a place in the ranking: an absent one behind every present one (R21). -/
def startRank : Option Nat → WithTop Nat
  | some a => a
  | none => ⊤

theorem startBefore_iff {a b : Option Nat} : startBefore a b = true ↔ startRank a < startRank b := by
  cases a <;> cases b <;> simp [startBefore, startRank]

theorem startBefore_eq_false {a b : Option Nat} : startBefore a b = false ↔ startRank b ≤ startRank a := by
  rw [← not_lt, ← startBefore_iff, Bool.not_eq_true]

theorem startRank_injective : Function.Injective startRank := by
  intro a b same
  cases a <;> cases b <;> simp_all [startRank]

/-- The place of a candidate in the ranking: hold start, then zone (R66). -/
def Candidate.rank (x : Candidate) : WithTop Nat ×ₗ Nat := toLex (startRank x.start, x.zone)

theorem Candidate.before_iff {x y : Candidate} : x.before y = true ↔ x.rank < y.rank := by
  simp [Candidate.before, Candidate.rank, Prod.Lex.toLex_lt_toLex, startBefore_iff, startRank_injective.eq_iff]

theorem Candidate.before_eq_false {x y : Candidate} : x.before y = false ↔ y.rank ≤ x.rank := by
  rw [← not_lt, ← Candidate.before_iff, Bool.not_eq_true]

/-- The ranking written out: by hold start, absent last, then by zone (R66). -/
theorem Candidate.before_cases (x y : Candidate) : x.before y = true ↔
    (match x.start, y.start with
      | some a, some b => a < b ∨ (a = b ∧ x.zone < y.zone)
      | some _, none => True
      | none, some _ => False
      | none, none => x.zone < y.zone) := by
  unfold Candidate.before
  cases x.start <;> cases y.start <;> simp [startBefore]

theorem directChoice_eq_none {l : List Candidate} : directChoice l = none ↔ l = [] := by
  cases l with
  | nil => simp [directChoice]
  | cons h t =>
    unfold directChoice
    split
    · simp
    · split <;> simp

/-- The direct choice is a candidate of the lowest rank (R66). -/
theorem directChoice_least {l : List Candidate} {x : Candidate} (hx : directChoice l = some x) :
    x ∈ l ∧ ∀ y ∈ l, x.rank ≤ y.rank := by
  induction l generalizing x with
  | nil => exact absurd hx (by simp [directChoice])
  | cons h t ih =>
    unfold directChoice at hx
    split at hx
    · next none =>
      obtain rfl := directChoice_eq_none.mp none
      obtain rfl := Option.some.inj hx
      simp
    · next g chosen =>
      obtain ⟨mem, least⟩ := ih chosen
      split at hx
      · next first =>
        obtain rfl := Option.some.inj hx
        exact ⟨List.mem_cons_of_mem _ mem, List.forall_mem_cons.mpr ⟨(Candidate.before_iff.mp first).le, least⟩⟩
      · next behind =>
        obtain rfl := Option.some.inj hx
        have head : h.rank ≤ g.rank := not_lt.mp fun first => behind (Candidate.before_iff.mpr first)
        exact ⟨List.mem_cons_self, List.forall_mem_cons.mpr ⟨le_rfl, fun y hy => head.trans (least y hy)⟩⟩

theorem earliestHolder_eq_none {l : List Candidate} : earliestHolder l = none ↔ l = [] := by
  refine ⟨fun none => ?_, fun empty => by simp [empty, earliestHolder]⟩
  by_contra some
  simpa [none] using earliestHolder_isSome some

/-- `x` stands at place `i` of a list of holders, no other's time ranks before its own, and it is the first
such (R21). -/
def FirstOfEarliest (l : List Candidate) (x : Candidate) (i : Nat) : Prop :=
  l[i]? = some x ∧ ∀ (j : Nat) (y : Candidate), l[j]? = some y →
    startBefore y.start x.start = false ∧ (j < i → startBefore x.start y.start = true)

theorem earliestHolder_first {l : List Candidate} {x : Candidate} (hx : earliestHolder l = some x) :
    ∃ i, FirstOfEarliest l x i := by
  induction l generalizing x with
  | nil => exact absurd hx (by simp [earliestHolder])
  | cons h t ih =>
    unfold earliestHolder at hx
    split at hx
    · next none =>
      obtain rfl := earliestHolder_eq_none.mp none
      obtain rfl := Option.some.inj hx
      refine ⟨0, rfl, fun j y hy => ?_⟩
      cases j with
      | zero => obtain rfl := Option.some.inj hy; simp [startBefore_eq_false]
      | succ j => simp at hy
    · next g chosen =>
      obtain ⟨i, place, least⟩ := ih chosen
      split at hx
      · next first =>
        obtain rfl := Option.some.inj hx
        refine ⟨i + 1, place, fun j y hy => ?_⟩
        cases j with
        | zero =>
          obtain rfl := Option.some.inj hy
          exact ⟨startBefore_eq_false.mpr (startBefore_iff.mp first).le, fun _ => first⟩
        | succ j =>
          obtain ⟨notBefore, earlier⟩ := least j y hy
          exact ⟨notBefore, fun before => earlier (Nat.lt_of_succ_lt_succ before)⟩
      · next behind =>
        obtain rfl := Option.some.inj hx
        have head : startRank h.start ≤ startRank g.start :=
          startBefore_eq_false.mp (Bool.eq_false_iff.mpr behind)
        refine ⟨0, rfl, fun j y hy => ⟨startBefore_eq_false.mpr ?_, fun before => absurd before (Nat.not_lt_zero j)⟩⟩
        cases j with
        | zero => obtain rfl := Option.some.inj hy; exact le_rfl
        | succ j => exact head.trans (startBefore_eq_false.mp (least j y hy).1)

/-! ## Candidates, heads and tails of a section (R66, R67) -/

theorem OwnView.candidate_eq_some {v : OwnView} {zone : Nat} {x : Candidate} :
    v.candidate zone = some x ↔
      v.condition = .hold ∧ v.holdKind = some x.kind ∧ x.zone = zone ∧ x.start = v.holdStart := by
  obtain ⟨xz, xk, xs⟩ := x
  unfold OwnView.candidate
  split
  · next k hold kind =>
    simp only [hold, kind, Option.some.injEq, Candidate.mk.injEq, true_and]
    exact ⟨fun ⟨z, q, t⟩ => ⟨q, z.symm, t.symm⟩, fun ⟨q, z, t⟩ => ⟨z.symm, q, t.symm⟩⟩
  · next other =>
    refine ⟨fun k => absurd k (by simp), fun ⟨hold, kind, _⟩ => absurd kind fun kind => other _ hold kind⟩

theorem PeerView.hold_eq_some {v : PeerView} {x : Candidate} :
    v.hold = some x ↔ v.condition = .hold ∧ v.holdKind = some x.kind ∧ x.zone = v.zone ∧ x.start = v.holdStart :=
  OwnView.candidate_eq_some

/-- The candidates of a section: its LIVE holding peers, and the own zone for the own section (R66). -/
theorem AttInputs.mem_candidates {c : AttInputs} {cfg : Cfg} {k : Nat} {x : Candidate} :
    x ∈ c.candidates cfg k ↔
      (k = cfg.section_ ∧ c.own.condition = .hold ∧ c.own.holdKind = some x.kind ∧
        x.zone = cfg.zone ∧ x.start = c.own.holdStart) ∨
      ∃ v ∈ c.peers, v.live = true ∧ v.section_ = k ∧ v.condition = .hold ∧
        v.holdKind = some x.kind ∧ x.zone = v.zone ∧ x.start = v.holdStart := by
  have own : x ∈ (if k = cfg.section_ then (c.own.candidate cfg.zone).toList else []) ↔
      k = cfg.section_ ∧ c.own.candidate cfg.zone = some x := by
    by_cases here : k = cfg.section_ <;> simp [here]
  simp only [AttInputs.candidates, List.mem_append, own, List.mem_filterMap, List.mem_filter, Bool.and_eq_true,
    beq_iff_eq, PeerView.hold_eq_some, OwnView.candidate_eq_some, and_assoc]

/-- The zones that may report for a section: its LIVE peers, and the mirrored one for the own section (R67). -/
theorem AttInputs.mem_ofSection {c : AttInputs} {own k : Nat} {v : PeerView} :
    v ∈ c.ofSection own k ↔
      (k = own ∧ c.mirror = some v) ∨ (v ∈ c.peers ∧ v.live = true ∧ v.section_ = k) := by
  have mirror : v ∈ (if k = own then c.mirror.toList else []) ↔ k = own ∧ c.mirror = some v := by
    by_cases here : k = own <;> simp [here]
  simp only [AttInputs.ofSection, List.mem_append, mirror, List.mem_filter, Bool.and_eq_true, beq_iff_eq]

theorem lowestZone_eq_none {l : List PeerView} : lowestZone l = none ↔ l = [] := by
  cases l with
  | nil => simp [lowestZone]
  | cons h t =>
    unfold lowestZone
    split
    · simp
    · split <;> simp

theorem lowestZone_least {l : List PeerView} {v : PeerView} (hv : lowestZone l = some v) :
    v ∈ l ∧ ∀ w ∈ l, v.zone ≤ w.zone := by
  induction l generalizing v with
  | nil => exact absurd hv (by simp [lowestZone])
  | cons h t ih =>
    unfold lowestZone at hv
    split at hv
    · next none =>
      obtain rfl := lowestZone_eq_none.mp none
      obtain rfl := Option.some.inj hv
      simp
    · next g lowest =>
      obtain ⟨mem, least⟩ := ih lowest
      split at hv
      · next below =>
        obtain rfl := Option.some.inj hv
        exact ⟨List.mem_cons_of_mem _ mem, List.forall_mem_cons.mpr ⟨below.le, least⟩⟩
      · next above =>
        obtain rfl := Option.some.inj hv
        exact ⟨List.mem_cons_self,
          List.forall_mem_cons.mpr ⟨le_rfl, fun w hw => (Nat.not_lt.mp above).trans (least w hw)⟩⟩

/-- The one zone whose number is below all others' is the lowest-numbered (R67). -/
theorem lowestZone_of_unique {l : List PeerView} {v : PeerView} (hv : v ∈ l)
    (unique : ∀ w ∈ l, v.zone < w.zone ∨ w = v) : lowestZone l = some v := by
  cases found : lowestZone l with
  | none => simp [lowestZone_eq_none.mp found] at hv
  | some g =>
    obtain ⟨mem, least⟩ := lowestZone_least found
    rcases unique g mem with above | same
    · exact absurd (least v hv) (Nat.not_le.mpr above)
    · rw [same]

/-- What the lowest-numbered zone of role `role` among `l` reports (R67). -/
theorem lowestZone_reports {l : List PeerView} (role report : PeerView → Bool) :
    ((∀ v ∈ l, role v = false) → (lowestZone (l.filter role)).any report = false) ∧
    (∀ v ∈ l, role v = true → (∀ w ∈ l, role w = true → v.zone < w.zone ∨ w = v) →
      (lowestZone (l.filter role)).any report = report v) := by
  refine ⟨fun none => ?_, fun v hv is unique => ?_⟩
  · have empty : l.filter role = [] := List.filter_eq_nil_iff.mpr fun v hv => by simp [none v hv]
    simp [empty, lowestZone]
  · have lowest : lowestZone (l.filter role) = some v := by
      refine lowestZone_of_unique (List.mem_filter.mpr ⟨hv, is⟩) fun w hw => ?_
      obtain ⟨mem, isW⟩ := List.mem_filter.mp hw
      exact unique w mem isW
    simp [lowest]

end Sys2Proof.Machine
end

section
namespace Sys2Proof.Machine

variable {cfg : Cfg} {c : AttInputs} {k n : Nat}

/-! ## The walks (R68, R69) -/

theorem starvedWalk_of_choice {x : Candidate} (hx : directChoice (c.candidates cfg (n + 1)) = some x) :
    starvedWalk c cfg (n + 1) = ⟨x.zone, n + 1, .call x.kind, .viaStarved⟩ := by
  simp [starvedWalk, hx]

theorem starvedWalk_of_head (hc : directChoice (c.candidates cfg (n + 1)) = none)
    (hs : c.headStarved cfg (n + 1) = true) : starvedWalk c cfg (n + 1) = starvedWalk c cfg n := by
  simp [starvedWalk, hc, hs]

theorem starvedWalk_of_silence (hc : directChoice (c.candidates cfg (n + 1)) = none)
    (hs : c.headStarved cfg (n + 1) = false) :
    starvedWalk c cfg (n + 1) = ⟨0, n + 1, .starved, .viaStarved⟩ := by
  simp [starvedWalk, hc, hs]

/-- The starved walk from section `n` ends at section `k`, or past the first one where `k` is 0 (R68). -/
structure StarvedWalkEnds (c : AttInputs) (cfg : Cfg) (n k : Nat) : Prop where
  within : k ≤ n
  passed : ∀ j, k < j → j ≤ n → directChoice (c.candidates cfg j) = none ∧ c.headStarved cfg j = true
  past : k = 0 → starvedWalk c cfg n = ⟨0, 0, .starved, .viaStarved⟩
  called : 0 < k → ∀ x ∈ directChoice (c.candidates cfg k),
    starvedWalk c cfg n = ⟨x.zone, k, .call x.kind, .viaStarved⟩
  silent : 0 < k → directChoice (c.candidates cfg k) = none →
    c.headStarved cfg k = false ∧ starvedWalk c cfg n = ⟨0, k, .starved, .viaStarved⟩

/-- The walk goes on past a section without candidate whose head reports starved (R68). -/
theorem StarvedWalkEnds.step (h : StarvedWalkEnds c cfg n k)
    (hc : directChoice (c.candidates cfg (n + 1)) = none) (hs : c.headStarved cfg (n + 1) = true) :
    StarvedWalkEnds c cfg (n + 1) k := by
  have goes := starvedWalk_of_head hc hs
  obtain ⟨within, passed, past, called, silent⟩ := h
  refine ⟨by omega, fun j low high => ?_, goes ▸ past, goes ▸ called, goes ▸ silent⟩
  rcases Nat.lt_or_eq_of_le high with below | same
  · exact passed j low (by omega)
  · exact same ▸ ⟨hc, hs⟩

/-- The walk ends at the section it stands at when that has a candidate or its head does not report (R68). -/
theorem StarvedWalkEnds.here
    (hx : ∀ x ∈ directChoice (c.candidates cfg (n + 1)),
      starvedWalk c cfg (n + 1) = ⟨x.zone, n + 1, .call x.kind, .viaStarved⟩)
    (hs : directChoice (c.candidates cfg (n + 1)) = none → c.headStarved cfg (n + 1) = false ∧
      starvedWalk c cfg (n + 1) = ⟨0, n + 1, .starved, .viaStarved⟩) :
    StarvedWalkEnds c cfg (n + 1) (n + 1) :=
  ⟨le_rfl, fun j low high => by omega, fun zero => by omega, fun _ => hx, fun _ => hs⟩

theorem starvedWalk_ends (c : AttInputs) (cfg : Cfg) (n : Nat) : ∃ k, StarvedWalkEnds c cfg n k := by
  induction n with
  | zero => exact ⟨0, Nat.le_refl 0, fun j low high => by omega, fun _ => rfl, by simp, by simp⟩
  | succ n ih =>
    cases choice : directChoice (c.candidates cfg (n + 1)) with
    | some x =>
      refine ⟨n + 1, .here (fun y hy => ?_) fun none => absurd (choice.symm.trans none) (by simp)⟩
      obtain rfl := Option.some.inj (choice.symm.trans hy)
      exact starvedWalk_of_choice choice
    | none =>
      cases head : c.headStarved cfg (n + 1) with
      | false =>
        exact ⟨n + 1, .here (fun y hy => absurd (choice.symm.trans hy) (by simp))
          fun _ => ⟨head, starvedWalk_of_silence choice head⟩⟩
      | true =>
        obtain ⟨k, ends⟩ := ih
        exact ⟨k, ends.step choice head⟩

variable {first : Nat}

/-- The blocked walk at section `first` of the line: so many sections left, of which `first` is the next. -/
theorem blockedWalk_left (low : 1 ≤ first) (high : first ≤ cfg.nS) :
    cfg.nS + 1 - first = (cfg.nS + 1 - (first + 1)) + 1 ∧ cfg.nS - (cfg.nS + 1 - (first + 1)) = first := by
  omega

theorem blockedWalk_of_choice (low : 1 ≤ first) (high : first ≤ cfg.nS) {x : Candidate}
    (hx : directChoice (c.candidates cfg first) = some x) :
    blockedWalk c cfg (cfg.nS + 1 - first) = ⟨x.zone, first, .call x.kind, .viaBlocked⟩ := by
  obtain ⟨left, at_⟩ := blockedWalk_left low high
  rw [left, blockedWalk]
  simp only [at_, hx]

theorem blockedWalk_of_tail (low : 1 ≤ first) (high : first ≤ cfg.nS)
    (hc : directChoice (c.candidates cfg first) = none) (ht : c.tailBlocked cfg first = true) :
    blockedWalk c cfg (cfg.nS + 1 - first) = blockedWalk c cfg (cfg.nS + 1 - (first + 1)) := by
  obtain ⟨left, at_⟩ := blockedWalk_left low high
  rw [left, blockedWalk]
  simp only [at_, hc, ht, if_true]

theorem blockedWalk_of_silence (low : 1 ≤ first) (high : first ≤ cfg.nS)
    (hc : directChoice (c.candidates cfg first) = none) (ht : c.tailBlocked cfg first = false) :
    blockedWalk c cfg (cfg.nS + 1 - first) = ⟨0, first, .blocked, .viaBlocked⟩ := by
  obtain ⟨left, at_⟩ := blockedWalk_left low high
  rw [left, blockedWalk]
  simp only [at_, hc, ht, if_neg Bool.false_ne_true]

/-- The blocked walk from section `first` ends at section `k`, or past the last one, N_S (R69). -/
structure BlockedWalkEnds (c : AttInputs) (cfg : Cfg) (first k : Nat) : Prop where
  starts : first ≤ k
  within : k ≤ cfg.nS + 1
  passed : ∀ j, first ≤ j → j < k → directChoice (c.candidates cfg j) = none ∧ c.tailBlocked cfg j = true
  past : k = cfg.nS + 1 → blockedWalk c cfg (cfg.nS + 1 - first) = ⟨0, 9, .blocked, .viaBlocked⟩
  called : k ≤ cfg.nS → ∀ x ∈ directChoice (c.candidates cfg k),
    blockedWalk c cfg (cfg.nS + 1 - first) = ⟨x.zone, k, .call x.kind, .viaBlocked⟩
  silent : k ≤ cfg.nS → directChoice (c.candidates cfg k) = none →
    c.tailBlocked cfg k = false ∧ blockedWalk c cfg (cfg.nS + 1 - first) = ⟨0, k, .blocked, .viaBlocked⟩

/-- The walk goes on past a section without candidate whose tail reports blocked (R69). -/
theorem BlockedWalkEnds.step (h : BlockedWalkEnds c cfg (first + 1) k) (low : 1 ≤ first) (high : first ≤ cfg.nS)
    (hc : directChoice (c.candidates cfg first) = none) (ht : c.tailBlocked cfg first = true) :
    BlockedWalkEnds c cfg first k := by
  have goes := blockedWalk_of_tail low high hc ht
  obtain ⟨starts, within, passed, past, called, silent⟩ := h
  refine ⟨by omega, within, fun j hj before => ?_, goes ▸ past, goes ▸ called, goes ▸ silent⟩
  rcases Nat.lt_or_eq_of_le hj with above | same
  · exact passed j above before
  · exact same ▸ ⟨hc, ht⟩

/-- The walk ends at the section it stands at when that has a candidate or its tail does not report (R69). -/
theorem BlockedWalkEnds.here (high : first ≤ cfg.nS)
    (hx : ∀ x ∈ directChoice (c.candidates cfg first),
      blockedWalk c cfg (cfg.nS + 1 - first) = ⟨x.zone, first, .call x.kind, .viaBlocked⟩)
    (ht : directChoice (c.candidates cfg first) = none → c.tailBlocked cfg first = false ∧
      blockedWalk c cfg (cfg.nS + 1 - first) = ⟨0, first, .blocked, .viaBlocked⟩) :
    BlockedWalkEnds c cfg first first :=
  ⟨le_rfl, by omega, fun j low below => by omega, fun past => by omega, fun _ => hx, fun _ => ht⟩

theorem blockedWalk_ends (c : AttInputs) {cfg : Cfg} (low : 1 ≤ first) (high : first ≤ cfg.nS + 1) :
    ∃ k, BlockedWalkEnds c cfg first k := by
  induction left : cfg.nS + 1 - first generalizing first with
  | zero =>
    refine ⟨first, le_rfl, high, fun j hj before => by omega, fun _ => ?_, fun within => by omega,
      fun within => by omega⟩
    rw [left]
    rfl
  | succ n ih =>
    have inside : first ≤ cfg.nS := by omega
    cases choice : directChoice (c.candidates cfg first) with
    | some x =>
      refine ⟨first, .here inside (fun y hy => ?_) fun none => absurd (choice.symm.trans none) (by simp)⟩
      obtain rfl := Option.some.inj (choice.symm.trans hy)
      exact blockedWalk_of_choice low inside choice
    | none =>
      cases tail : c.tailBlocked cfg first with
      | false =>
        exact ⟨first, .here inside (fun y hy => absurd (choice.symm.trans hy) (by simp))
          fun _ => ⟨tail, blockedWalk_of_silence low inside choice tail⟩⟩
      | true =>
        obtain ⟨k, ends⟩ := ih (first := first + 1) (by omega) (by omega) (by omega)
        exact ⟨k, ends.step low inside choice tail⟩

/-! ## The result of a walk and of an evaluation -/

/-- A key that names a zone is a call's, and none is OTHER's (R65, R76). -/
def CauseKey.Names (k : CauseKey) : Prop := k.kind ≠ .other ∧ (k.zone ≠ 0 → ∃ q, k.kind = .call q)

/-- The starved walk names a section upstream, or 0 (R68). -/
theorem starvedWalk_result (c : AttInputs) (cfg : Cfg) (n : Nat) :
    (starvedWalk c cfg n).Names ∧ (starvedWalk c cfg n).route = .viaStarved ∧
      (starvedWalk c cfg n).section_ ≤ n := by
  obtain ⟨k, ends⟩ := starvedWalk_ends c cfg n
  have within := ends.within
  rcases Nat.eq_zero_or_pos k with zero | pos
  · rw [ends.past zero]
    simp [CauseKey.Names]
  · cases choice : directChoice (c.candidates cfg k) with
    | some x =>
      rw [ends.called pos x choice]
      simpa [CauseKey.Names] using within
    | none =>
      rw [(ends.silent pos choice).2]
      simpa [CauseKey.Names] using within

/-- The blocked walk names a section downstream, or 9 (R69). -/
theorem blockedWalk_result (c : AttInputs) {cfg : Cfg} (low : 1 ≤ first) (high : first ≤ cfg.nS + 1)
    (hn : cfg.nS ≤ 8) :
    (blockedWalk c cfg (cfg.nS + 1 - first)).Names ∧
      (blockedWalk c cfg (cfg.nS + 1 - first)).route = .viaBlocked ∧
      first ≤ (blockedWalk c cfg (cfg.nS + 1 - first)).section_ ∧
      ((blockedWalk c cfg (cfg.nS + 1 - first)).section_ ≤ cfg.nS ∨
        (blockedWalk c cfg (cfg.nS + 1 - first)).section_ = 9) := by
  obtain ⟨k, ends⟩ := blockedWalk_ends c low high
  have starts := ends.starts
  rcases Nat.lt_or_eq_of_le ends.within with inside | past
  · have inside : k ≤ cfg.nS := Nat.le_of_lt_succ inside
    cases choice : directChoice (c.candidates cfg k) with
    | some x =>
      rw [ends.called inside x choice]
      simp [CauseKey.Names, starts, inside]
    | none =>
      rw [(ends.silent inside choice).2]
      simp [CauseKey.Names, starts, inside]
  · rw [ends.past past]
    simp [CauseKey.Names]
    omega

section Evaluate

variable (hm : c.motion = .stopped) (hb : c.inBreak = false)
include hm hb

/-! The five results of an evaluation of a section that stands outside a break, in their order (R65). -/

theorem evaluate_of_choice {x : Candidate} (hx : directChoice (c.candidates cfg cfg.section_) = some x) :
    evaluate cfg c = some ⟨x.zone, cfg.section_, .call x.kind, .direct⟩ := by
  simp [evaluate, hm, hb, hx]

variable (hc : directChoice (c.candidates cfg cfg.section_) = none)
include hc

theorem evaluate_of_head (hs : c.headStarved cfg cfg.section_ = true) :
    evaluate cfg c = some (starvedWalk c cfg (cfg.section_ - 1)) := by
  simp [evaluate, hm, hb, hc, hs]

theorem evaluate_of_tail (hs : c.headStarved cfg cfg.section_ = false)
    (ht : c.tailBlocked cfg cfg.section_ = true) :
    evaluate cfg c = some (blockedWalk c cfg (cfg.nS - cfg.section_)) := by
  simp [evaluate, hm, hb, hc, hs, ht]

theorem evaluate_of_readBack (hs : c.headStarved cfg cfg.section_ = false)
    (ht : c.tailBlocked cfg cfg.section_ = false) :
    evaluate cfg c = some ⟨0, cfg.section_, if c.readBack = true then .external else .drive, .direct⟩ := by
  cases hr : c.readBack <;> simp [evaluate, hm, hb, hc, hs, ht, hr]

end Evaluate

/-- A key of the route it bears: the own section, one upstream, or one downstream (R65, R68, R69). -/
structure CauseKey.Placed (k : CauseKey) (cfg : Cfg) : Prop where
  names : k.Names
  direct : k.route = .direct → k.section_ = cfg.section_
  starved : k.route = .viaStarved → k.section_ < cfg.section_
  blocked : k.route = .viaBlocked → cfg.section_ < k.section_ ∧ (k.section_ ≤ cfg.nS ∨ k.section_ = 9)

/-- A result with the own section as origin (R65). -/
theorem CauseKey.placed_direct {z : Nat} {kind : CauseKind} (h : CauseKey.Names ⟨z, cfg.section_, kind, .direct⟩) :
    CauseKey.Placed ⟨z, cfg.section_, kind, .direct⟩ cfg :=
  ⟨h, fun _ => rfl, by simp, by simp⟩

theorem evaluate_placed {k : CauseKey} (low : 1 ≤ cfg.section_) (high : cfg.section_ ≤ cfg.nS) (hn : cfg.nS ≤ 8)
    (h : evaluate cfg c = some k) : k.Placed cfg := by
  obtain ⟨stands, out⟩ := evaluate_isSome_iff.mp (Option.isSome_iff_exists.mpr ⟨k, h⟩)
  cases choice : directChoice (c.candidates cfg cfg.section_) with
  | some x =>
    obtain rfl := Option.some.inj ((evaluate_of_choice stands out choice).symm.trans h)
    exact CauseKey.placed_direct (by simp [CauseKey.Names])
  | none =>
    cases head : c.headStarved cfg cfg.section_ with
    | true =>
      obtain rfl := Option.some.inj ((evaluate_of_head stands out choice head).symm.trans h)
      obtain ⟨names, route, within⟩ := starvedWalk_result c cfg (cfg.section_ - 1)
      exact ⟨names, by simp [route], fun _ => by omega, by simp [route]⟩
    | false =>
      cases tail : c.tailBlocked cfg cfg.section_ with
      | true =>
        obtain rfl := Option.some.inj ((evaluate_of_tail stands out choice head tail).symm.trans h)
        obtain ⟨names, route, starts, ends⟩ := blockedWalk_result c (cfg := cfg) (first := cfg.section_ + 1)
          (by omega) (by omega) hn
        rw [Nat.add_sub_add_right] at names route starts ends
        exact ⟨names, by simp [route], by simp [route], fun _ => ⟨starts, ends⟩⟩
      | false =>
        obtain rfl := Option.some.inj ((evaluate_of_readBack stands out choice head tail).symm.trans h)
        exact CauseKey.placed_direct (by cases c.readBack <;> simp [CauseKey.Names])

end Sys2Proof.Machine

open Sys2Proof Sys2Proof.Machine

/-- Settles O21: the steps by `evaluate_of_choice` and the results after it, the walks by `starvedWalk_ends` and `blockedWalk_ends`, the
reports of heads and tails by `lowestZone_reports`, the ranking by `Candidate.rank`. -/
theorem causeSearch : Obligations.CauseSearch := by
  refine ⟨fun cfg c => ⟨?_, fun stands out => ⟨?_, fun none => ⟨?_, ?_, ?_⟩⟩, ?_, ?_, ?_, ?_⟩, fun l => ?_, ?_⟩
  · exact fun stop => if_pos stop
  · exact fun x hx => evaluate_of_choice stands out hx
  · exact fun head => evaluate_of_head stands out none head
  · exact fun head tail => evaluate_of_tail stands out none head tail
  · intro head tail
    have result := evaluate_of_readBack stands out none head tail
    exact ⟨fun high => by rw [result, high]; rfl, fun low => by rw [result, low]; rfl⟩
  · intro n
    obtain ⟨k, within, passed, past, called, silent⟩ := starvedWalk_ends c cfg n
    exact ⟨k, within, passed, past, fun pos => ⟨called pos, silent pos⟩⟩
  · intro first high low
    obtain ⟨k, starts, within, passed, past, called, silent⟩ := blockedWalk_ends c low high
    exact ⟨k, starts, within, passed, past, fun inside => ⟨called inside, silent inside⟩⟩
  · exact fun k x => AttInputs.mem_candidates
  · intro k there
    have mem (v : PeerView) : there v ↔ v ∈ c.ofSection cfg.section_ k := AttInputs.mem_ofSection.symm
    simp only [mem]
    refine ⟨fun own head => if_pos ⟨own, head⟩, fun own tail => if_pos ⟨own, tail⟩, fun other => ?_, fun other => ?_⟩
    · have report : c.headStarved cfg k = _ := if_neg other
      rw [report]
      exact lowestZone_reports (fun v => v.head) (fun v => v.starved)
    · have report : c.tailBlocked cfg k = _ := if_neg other
      rw [report]
      exact lowestZone_reports (fun v => v.tail) (fun v => v.blocked)
  · refine ⟨directChoice_eq_none, fun x hx => ?_, Candidate.before_cases, earliestHolder_eq_none,
      fun x hx => earliestHolder_first hx⟩
    obtain ⟨mem, least⟩ := directChoice_least hx
    exact ⟨mem, fun y hy => Candidate.before_eq_false.mpr (least y hy)⟩
  · intro cfg c low high lines
    refine ⟨?_, fun k hk => ?_⟩
    · rw [← Option.not_isSome_iff_eq_none, evaluate_isSome_iff, not_and_or, Bool.not_eq_false]
    · obtain ⟨⟨kind, zone⟩, direct, starved, blocked⟩ := evaluate_placed low high lines hk
      exact ⟨kind, zone, direct, starved, blocked⟩

end

section
namespace Sys2Proof.Machine

/-! ## Bytes read back (R169) -/

/-- A 32-bit value reads back from its four bytes (R169). -/
theorem be32_long {n : Nat} (h : n < 4294967296) :
    ((byteOf (n / 16777216)).toNat * 256 + (byteOf (n / 65536)).toNat) * 65536 +
      ((byteOf (n / 256)).toNat * 256 + (byteOf n).toNat) = n := by
  simp only [byteOf, BitVec.toNat_ofNat]
  omega

theorem byteAt_append_left {a : List Byte} {i : Nat} (h : i < a.length) (b : List Byte) :
    byteAt (a ++ b) i = byteAt a i := by
  simp [byteAt, List.getElem?_append_left h]

theorem byteAt_append_right {a : List Byte} {n : Nat} (h : a.length = n) (b : List Byte) (i : Nat) :
    byteAt (a ++ b) (n + i) = byteAt b i := by
  simp [byteAt, ← h, List.getElem?_append_right]

/-- In a row of items of `n` bytes the item of place `j` stands `n * j` bytes in. -/
theorem byteAt_flatMap {α : Type} {f : α → List Byte} {n : Nat} (hf : ∀ x, (f x).length = n) {l : List α}
    {j : Nat} {x : α} (hx : l[j]? = some x) {i : Nat} (hi : i < n) :
    byteAt (l.flatMap f) (n * j + i) = byteAt (f x) i := by
  induction l generalizing j with
  | nil => simp at hx
  | cons y rest ih =>
    rw [List.flatMap_cons]
    cases j with
    | zero =>
      obtain rfl := Option.some.inj hx
      rw [Nat.mul_zero, Nat.zero_add, byteAt_append_left ((hf y).symm ▸ hi)]
    | succ j =>
      rw [show n * (j + 1) + i = n + (n * j + i) by rw [Nat.mul_succ]; omega, byteAt_append_right (hf y)]
      exact ih hx

theorem length_flatMap_const {α : Type} {f : α → List Byte} {n : Nat} (hf : ∀ x, (f x).length = n) (l : List α) :
    (l.flatMap f).length = n * l.length := by
  simp [List.length_flatMap, hf, Nat.mul_comm]

/-! ## Records on the line (R76, R177) -/

/-- A tally holds at most 31 keyed entries and the OTHER entry (R76). -/
theorem Record.Ok.tally_length {r : Record} (h : r.Ok) : r.tally.length ≤ 32 := by
  obtain ⟨-, -, -, -, -, -, -, -, -, -, -, -, distinct, -, keyed, -⟩ := h
  have other : (tallyKeys r.tally).count otherKey ≤ 1 :=
    List.nodup_iff_count_le_one.mp (pairwise_tallyKeys.mp distinct) otherKey
  have parts := List.length_eq_countP_add_countP (fun k => decide (k ≠ otherKey)) (l := tallyKeys r.tally)
  have count : (tallyKeys r.tally).countP (fun k => ¬ decide (k ≠ otherKey) = true) =
      (tallyKeys r.tally).count otherKey := by
    rw [List.count]
    exact List.countP_congr fun k _ => by simp
  rw [keyedCount_eq, ← List.countP_eq_length_filter] at keyed
  have length : (tallyKeys r.tally).length = r.tally.length := by simp [tallyKeys]
  omega

/-- What the four bytes of a key read back as, where `l` has them at `i` (R170). -/
structure KeyAt (l : List Byte) (i : Nat) (k : CauseKey) : Prop where
  zone : k.zone ≤ 64 → byteAt l i = k.zone
  section_ : k.section_ ≤ 9 → byteAt l (i + 1) = k.section_
  kind : byteAt l (i + 2) = k.kind.code
  route : byteAt l (i + 3) = k.route.code

theorem CauseKind.code_le (k : CauseKind) : k.code ≤ 9 := by
  cases k with
  | call q => cases q <;> decide
  | _ => decide

theorem Route.code_le (x : Route) : x.code ≤ 2 := by cases x <;> decide

theorem keyAt_keyBytes (k : CauseKey) (rest : List Byte) : KeyAt (keyBytes k ++ rest) 0 k where
  zone h := byteOf_toNat (by omega)
  section_ h := byteOf_toNat (by omega)
  kind := byteOf_toNat (Nat.lt_of_le_of_lt k.kind.code_le (by decide))
  route := byteOf_toNat (Nat.lt_of_le_of_lt k.route.code_le (by decide))

/-- A key elsewhere in the same bytes. -/
theorem KeyAt.congr {l m : List Byte} {i j : Nat} {k : CauseKey} (h : KeyAt m j k)
    (same : ∀ n < 4, byteAt l (i + n) = byteAt m (j + n)) : KeyAt l i k where
  zone z := (same 0 (by decide)).trans (h.zone z)
  section_ z := (same 1 (by decide)).trans (h.section_ z)
  kind := (same 2 (by decide)).trans h.kind
  route := (same 3 (by decide)).trans h.route

/-! ## The header block (R177) -/

/-- The header block of a record with its pair and its interval. -/
def headerBody (sel : Nat) (r : Record) (pair : ClosePair) (i : Option Interval) : List Byte :=
  blockHead 0 sel r ++ headerFields r pair i

theorem State.blockBody_header (s : State) (sel : Nat) (r : Record) :
    s.blockBody sel 0 r = headerBody sel r (s.headerPair sel r) (if sel = 1 then s.ret.interval else none) := rfl

theorem State.blockBody_current (s : State) (r : Record) :
    s.blockBody 1 0 r = headerBody 1 r ⟨s.ret.actual, s.ret.peak⟩ s.ret.interval := rfl

theorem State.blockBody_last (s : State) (r : Record) :
    s.blockBody 2 0 r = headerBody 2 r (r.close.getD ⟨0, none⟩) none := rfl

theorem headerBody_length (sel : Nat) (r : Record) (pair : ClosePair) (i : Option Interval) :
    (headerBody sel r pair i).length = 36 := by
  obtain ⟨actual, target⟩ := pair
  cases target <;> cases i <;> rfl

section Header

variable {sel : Nat} {r : Record} {pair : ClosePair} {i : Option Interval}

theorem headerBody_target : wordAt (headerBody sel r pair i) 26 = wordAt (optWord pair.target) 0 := by
  obtain ⟨actual, target⟩ := pair
  cases target <;> rfl

theorem headerBody_interval (j : Nat) :
    byteAt (headerBody sel r pair i) (28 + j) = byteAt (intervalBytes i) j := by
  obtain ⟨actual, target⟩ := pair
  rw [Nat.add_comm]
  cases target <;> rfl

/-- The header block up to its last fields, byte by byte (R177). -/
theorem headerBody_bytes : headerBody sel r pair i =
    [byteOf 0, byteOf sel, byteOf (r.version / 256), byteOf r.version,
      byteOf r.shift, byteOf r.serial, byteOf r.changed.toNat, byteOf r.tally.length,
      byteOf (r.total / 16777216), byteOf (r.total / 65536), byteOf (r.total / 256), byteOf r.total,
      byteOf (r.raised.quality / 256), byteOf r.raised.quality,
      byteOf (r.raised.material / 256), byteOf r.raised.material,
      byteOf (r.raised.equipment / 256), byteOf r.raised.equipment,
      byteOf (r.raised.safety / 256), byteOf r.raised.safety,
      byteOf r.holds.quality, byteOf r.holds.material, byteOf r.holds.equipment, byteOf r.holds.safety] ++
    (be16 pair.actual ++ optWord pair.target ++ intervalBytes i) := by
  simp [headerBody, blockHead, headerFields, be16, be32]

/-- The fields of the record in its header block (R177). -/
theorem headerBody_record (h : r.Ok) (hs : sel ≤ 2) :
    let b := headerBody sel r pair i
    byteAt b 0 = 0 ∧ byteAt b 1 = sel ∧ wordAt b 2 = r.version ∧ byteAt b 4 = r.shift ∧
    (r.serial ≤ 255 → byteAt b 5 = r.serial) ∧ byteAt b 6 = r.changed.toNat ∧
    byteAt b 7 = r.tally.length ∧ wordAt b 8 * 65536 + wordAt b 10 = r.total ∧
    wordAt b 12 = r.raised.quality ∧ wordAt b 14 = r.raised.material ∧
    wordAt b 16 = r.raised.equipment ∧ wordAt b 18 = r.raised.safety ∧
    byteAt b 20 = r.holds.quality ∧ byteAt b 21 = r.holds.material ∧
    byteAt b 22 = r.holds.equipment ∧ byteAt b 23 = r.holds.safety := by
  have entries := h.tally_length
  have changed := r.changed.toNat_le
  obtain ⟨-, shift, version, total, rq, rm, re, rs, hq, hm, he, hsf, -⟩ := h
  rw [headerBody_bytes]
  exact ⟨rfl, byteOf_toNat (by omega), be16_word (by omega), byteOf_toNat (by omega),
    fun low => byteOf_toNat (by omega), byteOf_toNat (by omega), byteOf_toNat (by omega), be32_long total,
    be16_word (by omega), be16_word (by omega), be16_word (by omega), be16_word (by omega),
    byteOf_toNat (by omega), byteOf_toNat (by omega), byteOf_toNat (by omega), byteOf_toNat (by omega)⟩

theorem headerBody_actual (h : pair.actual ≤ 9999) : wordAt (headerBody sel r pair i) 24 = pair.actual :=
  be16_word (by omega)

theorem optWord_some {n : Nat} (h : n ≤ 2160) : wordAt (optWord (some n)) 0 = n := be16_word (by omega)

theorem optWord_none : wordAt (optWord none) 0 = 65535 := be16_word (n := 65535) (by decide)

/-- The open interval in the header block: its key and its seconds (R177). -/
theorem headerBody_open {x : Interval} (h : x.seconds < 4294967296) :
    KeyAt (headerBody sel r pair (some x)) 28 x.key ∧
    wordAt (headerBody sel r pair (some x)) 32 * 65536 + wordAt (headerBody sel r pair (some x)) 34 = x.seconds := by
  refine ⟨(keyAt_keyBytes x.key (be32 x.seconds)).congr fun n _ => ?_, ?_⟩
  · rw [headerBody_interval, Nat.zero_add]
    rfl
  · have at_ (j : Nat) : byteAt (headerBody sel r pair (some x)) (28 + j) = byteAt (intervalBytes (some x)) j :=
      headerBody_interval j
    show (byteAt _ (28 + 4) * 256 + byteAt _ (28 + 5)) * 65536 + (byteAt _ (28 + 6) * 256 + byteAt _ (28 + 7)) = _
    rw [at_ 4, at_ 5, at_ 6, at_ 7]
    exact be32_long h

/-- Without an open interval its eight bytes are 0 (R177). -/
theorem headerBody_closed :
    wordAt (headerBody sel r pair none) 28 * 65536 + wordAt (headerBody sel r pair none) 30 = 0 ∧
    wordAt (headerBody sel r pair none) 32 * 65536 + wordAt (headerBody sel r pair none) 34 = 0 := by
  have zero (j : Nat) (hj : j < 8) : byteAt (headerBody sel r pair none) (28 + j) = 0 := by
    rw [headerBody_interval]
    interval_cases j <;> rfl
  simp [wordAt, zero 0, zero 1, zero 2, zero 3, zero 4, zero 5, zero 6, zero 7]

end Header

/-! ## The entry blocks (R177) -/

theorem entryBytes_length (x : TallyEntry) : (entryBytes x).length = 10 := rfl

/-- The entries of an entry block, in order (R183). -/
def blockEntries (r : Record) (blk : Nat) : List TallyEntry := (r.tally.drop (4 * (blk - 1))).take 4

theorem blockEntries_length (r : Record) (blk : Nat) :
    (blockEntries r blk).length = min 4 (r.tally.length - 4 * (blk - 1)) := by
  simp [blockEntries]

theorem blockEntries_get {r : Record} {blk j : Nat} (hj : j < 4) :
    (blockEntries r blk)[j]? = r.tally[4 * (blk - 1) + j]? := by
  rw [blockEntries, List.getElem?_take_of_lt hj, List.getElem?_drop]

theorem State.blockBody_entries (s : State) (sel : Nat) (r : Record) {blk : Nat} (h : 1 ≤ blk) :
    s.blockBody sel blk r = (blockHead blk sel r ++ [byteOf (4 * (blk - 1)), byteOf (blockEntries r blk).length]) ++
      (blockEntries r blk).flatMap entryBytes := by
  rw [List.append_assoc]
  exact congrArg (blockHead blk sel r ++ ·) (if_neg (by omega))

theorem State.blockBody_entries_length (s : State) (sel : Nat) (r : Record) {blk : Nat} (h : 1 ≤ blk) :
    (s.blockBody sel blk r).length = 6 + 10 * min 4 (r.tally.length - 4 * (blk - 1)) := by
  rw [s.blockBody_entries sel r h, List.length_append, length_flatMap_const entryBytes_length, blockEntries_length]
  rfl

/-- The common bytes of an entry block, its first index and its number of entries (R177). -/
theorem State.blockBody_entries_head (s : State) {sel blk : Nat} {r : Record} (ok : r.Ok) (hs : sel ≤ 2)
    (h : 1 ≤ blk) (hb : blk ≤ 8) :
    let e := s.blockBody sel blk r
    byteAt e 0 = blk ∧ byteAt e 1 = sel ∧ wordAt e 2 = r.version ∧ byteAt e 4 = 4 * (blk - 1) ∧
    byteAt e 5 = min 4 (r.tally.length - 4 * (blk - 1)) := by
  obtain ⟨-, -, version, -⟩ := ok
  have count := blockEntries_length r blk
  rw [s.blockBody_entries sel r h, ← count]
  exact ⟨byteOf_toNat (by omega), byteOf_toNat (by omega), be16_word (by omega), byteOf_toNat (by omega),
    byteOf_toNat (by omega)⟩

/-- Entry `j` of an entry block stands 10 bytes behind the entry before it (R177). -/
theorem State.byteAt_blockBody_entry (s : State) (sel : Nat) {blk j i : Nat} {r : Record} {x : TallyEntry}
    (h : 1 ≤ blk) (hj : j < 4) (hx : r.tally[4 * (blk - 1) + j]? = some x) (hi : i < 10) :
    byteAt (s.blockBody sel blk r) (6 + 10 * j + i) = byteAt (entryBytes x) i := by
  rw [s.blockBody_entries sel r h, Nat.add_assoc, byteAt_append_right (n := 6) rfl]
  exact byteAt_flatMap entryBytes_length ((blockEntries_get hj).trans hx) hi

/-- An entry reads back: key, stop count and seconds (R177). -/
theorem State.blockBody_entry (s : State) (sel : Nat) {blk j : Nat} {r : Record} {x : TallyEntry} (ok : r.Ok)
    (h : 1 ≤ blk) (hj : j < 4) (hx : r.tally[4 * (blk - 1) + j]? = some x) :
    let e := s.blockBody sel blk r
    KeyAt e (6 + 10 * j) x.key ∧ wordAt e (6 + 10 * j + 4) = x.stops ∧
    wordAt e (6 + 10 * j + 6) * 65536 + wordAt e (6 + 10 * j + 8) = x.seconds := by
  obtain ⟨-, -, -, -, -, -, -, -, -, -, -, -, -, ranges, -⟩ := ok
  obtain ⟨stops, seconds⟩ := ranges x (List.mem_of_getElem? hx)
  have at_ {i : Nat} (hi : i < 10) := s.byteAt_blockBody_entry sel h hj hx hi
  intro e
  refine ⟨(keyAt_keyBytes x.key (be16 x.stops ++ be32 x.seconds)).congr fun n hn => ?_, ?_, ?_⟩
  · rw [at_ (by omega), Nat.zero_add, entryBytes, List.append_assoc]
  · show byteAt e (6 + 10 * j + 4) * 256 + byteAt e (6 + 10 * j + 5) = _
    rw [at_ (by decide), at_ (by decide)]
    exact be16_word (by omega)
  · show (byteAt e (6 + 10 * j + 6) * 256 + byteAt e (6 + 10 * j + 7)) * 65536 +
      (byteAt e (6 + 10 * j + 8) * 256 + byteAt e (6 + 10 * j + 9)) = _
    rw [at_ (by decide), at_ (by decide), at_ (by decide), at_ (by decide)]
    exact be32_long seconds

end Sys2Proof.Machine

open Sys2Proof Sys2Proof.Machine

/-- Settles O60: the header block by `headerBody_record` and the lemmas after it, the entry blocks by
`State.blockBody_entries_head` and `State.blockBody_entry`. -/
theorem recordBlocksHaveTheirLayout : Obligations.RecordBlocksHaveTheirLayout := by
  intro s sel blk r h e long code route keyAt
  have codes (k : CauseKind) : code k = k.code := by
    cases k with
    | call q => cases q <;> rfl
    | _ => rfl
  have routes (x : Route) : route x = x.code := by cases x <;> rfl
  have key {l : List Byte} {i : Nat} {k : CauseKey} (stands : KeyAt l i k) : keyAt l i k := fun zone section_ =>
    ⟨stands.zone zone, stands.section_ section_, stands.kind.trans (codes _).symm, stands.route.trans (routes _).symm⟩
  have header : h = _ := s.blockBody_header sel r
  refine ⟨header ▸ headerBody_length .., fun low high => ?_, fun ok records pace sels => ⟨?_, fun one => ?_, fun two => ?_,
    fun low high => ?_⟩, fun ok j x low high hj hx => ?_⟩
  · have length := s.blockBody_entries_length sel r low
    exact ⟨length, by rw [show e.length = _ from length]; omega⟩
  · rw [header]
    exact headerBody_record ok (by omega)
  · subst one
    obtain ⟨-, -, interval⟩ := records
    rw [show h = _ from s.blockBody_current r]
    refine ⟨headerBody_actual pace.1, fun q hq range => ?_, fun none => ?_, fun i hi => ?_, fun none => ?_⟩
    · have hq : s.ret.peak = some q := hq
      rw [headerBody_target, hq]
      exact optWord_some range
    · rw [headerBody_target, none]
      exact optWord_none
    · have hi : s.ret.interval = some i := hi
      rw [hi]
      obtain ⟨stands, seconds⟩ := headerBody_open (sel := 1) (r := r) (pair := ⟨s.ret.actual, s.ret.peak⟩)
        (interval i hi).2
      exact ⟨key stands, seconds⟩
    · rw [none]
      exact headerBody_closed
  · subst two
    rw [show h = _ from s.blockBody_last r]
    obtain ⟨first, second⟩ := headerBody_closed (sel := 2) (r := r) (pair := r.close.getD ⟨0, none⟩)
    refine ⟨first, second, fun q hq range => ?_⟩
    have hq : r.close = some q := hq
    rw [hq]
    refine ⟨headerBody_actual range, fun x hx low => ?_, fun none => ?_⟩
    · have hx : q.target = some x := hx
      rw [headerBody_target, Option.getD_some, hx]
      exact optWord_some low
    · rw [headerBody_target, Option.getD_some, none]
      exact optWord_none
  · exact s.blockBody_entries_head ok (by omega) low high
  · obtain ⟨stands, stops, seconds⟩ := s.blockBody_entry sel ok low hj hx
    exact ⟨key stands, stops, seconds⟩

end

section
namespace Sys2Proof.Machine

/-! ## Entries that stand in order (R103) -/

theorem chained_iff {rel : PlanEntry → PlanEntry → Bool} {es : List PlanEntry} :
    chained rel es = true ↔ es.IsChain (fun a b => rel a b = true) := by
  induction es with
  | nil => simp [chained]
  | cons a rest ih =>
    cases rest with
    | nil => simp [chained]
    | cons b rest => simp [chained, ih]

/-- What R103 asks of breaks: each begins after the one before it began and not before that one ends. -/
def BreakBefore (a b : PlanEntry) : Prop := a.first < b.first ∧ a.second ≤ b.first

/-- The conditions of R103 that the target rests on. -/
structure UsablePlan (es : List PlanEntry) : Prop where
  length : lengthOf es ≤ 43200
  breaks : (breaksOf es).Pairwise BreakBefore
  ascending : (taktsOf es).IsChain (fun a b => a.first < b.first)
  takts : ∀ a ∈ taktsOf es, a.first < lengthOf es ∧ 200 ≤ a.second

theorem usablePlan_of {es : List PlanEntry} (h : usableEntries es = true) : UsablePlan es := by
  simp only [usableEntries, Bool.and_eq_true, decide_eq_true_eq, List.all_eq_true, chained_iff] at h
  obtain ⟨⟨⟨⟨⟨⟨⟨⟨⟨⟨⟨-, -⟩, length⟩, -⟩, -⟩, breaks⟩, -⟩, -⟩, -⟩, ascending⟩, takts⟩, -⟩ := h
  have trans : IsTrans PlanEntry BreakBefore := ⟨fun a b c hab hbc => by
    unfold BreakBefore at *
    omega⟩
  exact {
    length := length
    breaks := List.isChain_iff_pairwise.mp breaks
    ascending := ascending
    takts := fun a ha => ⟨(takts a ha).1.1, (takts a ha).1.2⟩ }

/-! ## Productive seconds (R110) -/

/-- A stretch that grows by the second `hi` grows its share of a break exactly where that second lies in
both. -/
theorem overlap_succ (lo hi : Nat) (b : PlanEntry) :
    overlap lo (hi + 1) b = overlap lo hi b + if lo ≤ hi ∧ inBreakEntry hi b = true then 1 else 0 := by
  simp only [overlap, inBreakEntry, Bool.and_eq_true, decide_eq_true_eq]
  split <;> omega

/-- Of breaks that stand apart at most one takes in a second (R103, R104). -/
theorem sum_overlap_succ {bs : List PlanEntry} (apart : bs.Pairwise BreakBefore) (lo hi : Nat) :
    (bs.map (overlap lo (hi + 1))).sum =
      (bs.map (overlap lo hi)).sum + if lo ≤ hi ∧ bs.any (inBreakEntry hi) = true then 1 else 0 := by
  induction bs with
  | nil => simp
  | cons b rest ih =>
    obtain ⟨after, apart⟩ := List.pairwise_cons.mp apart
    have alone (taken : inBreakEntry hi b = true) : rest.any (inBreakEntry hi) = false := by
      rw [List.any_eq_false]
      intro c hc
      have behind := after c hc
      simp only [BreakBefore] at behind
      simp only [inBreakEntry, Bool.and_eq_true, decide_eq_true_eq] at taken ⊢
      omega
    simp only [List.map_cons, List.sum_cons, ih apart, overlap_succ, List.any_cons, Bool.or_eq_true]
    by_cases taken : inBreakEntry hi b = true
    · simp [taken, alone taken]
      omega
    · simp [taken]
      omega

/-- The whole seconds of a stretch that lie in none of the breaks (R110). -/
def secondsOutside (bs : List PlanEntry) (lo hi : Nat) : Nat :=
  ((List.range hi).filter (fun x => lo ≤ x && !bs.any (inBreakEntry x))).length

theorem secondsOutside_succ (bs : List PlanEntry) (lo hi : Nat) :
    secondsOutside bs lo (hi + 1) =
      secondsOutside bs lo hi + if lo ≤ hi ∧ bs.any (inBreakEntry hi) = false then 1 else 0 := by
  unfold secondsOutside
  rw [List.range_succ, List.filter_append, List.length_append, List.filter_singleton]
  by_cases low : lo ≤ hi <;> cases bs.any (inBreakEntry hi) <;> simp [low]

/-- Every second of a stretch lies in exactly one break or in none. -/
theorem secondsOutside_add_overlap {bs : List PlanEntry} (apart : bs.Pairwise BreakBefore) (lo hi : Nat) :
    secondsOutside bs lo hi + (bs.map (overlap lo hi)).sum = hi - lo := by
  induction hi with
  | zero =>
    have none : bs.map (overlap lo 0) = bs.map (fun _ => 0) := List.map_congr_left fun b _ => by simp [overlap]
    simp [secondsOutside, none]
  | succ hi ih =>
    rw [secondsOutside_succ, sum_overlap_succ apart]
    cases bs.any (inBreakEntry hi) <;> by_cases low : lo ≤ hi <;> simp [low] <;> omega

theorem productive_eq {bs : List PlanEntry} (apart : bs.Pairwise BreakBefore) (lo hi : Nat) :
    productive bs lo hi = secondsOutside bs lo hi := by
  have all := secondsOutside_add_overlap apart lo hi
  unfold productive
  omega

theorem productive_le (bs : List PlanEntry) (lo hi : Nat) : productive bs lo hi ≤ hi - lo := Nat.sub_le ..

theorem productive_mono {bs : List PlanEntry} (apart : bs.Pairwise BreakBefore) (lo : Nat) {x y : Nat}
    (h : x ≤ y) : productive bs lo x ≤ productive bs lo y := by
  rw [productive_eq apart, productive_eq apart]
  exact ((List.range_sublist.mpr h).filter _).length_le

/-! ## The computed target (R111) -/

/-- Where the takt segment of the first entry ends: at the next entry, the last one at `l`. -/
def segmentEnd (l : Nat) : List PlanEntry → Nat
  | [] => l
  | b :: _ => b.first

theorem milliCars_cons (bs : List PlanEntry) (l s : Nat) (a : PlanEntry) (rest : List PlanEntry) :
    milliCars bs l s (a :: rest) =
      productive bs a.first (min s (segmentEnd l rest)) * 10000 / a.second + milliCars bs l s rest := by
  cases rest <;> rfl

theorem segmentEnd_le {l : Nat} {ts : List PlanEntry} (inside : ∀ a ∈ ts, a.first < l) : segmentEnd l ts ≤ l := by
  cases ts with
  | nil => exact Nat.le_refl l
  | cons b _ => exact Nat.le_of_lt (inside b List.mem_cons_self)

/-- The milli-cars grow with the seconds that each segment has run, which are no more than `l` (R111). -/
theorem milliCars_mono {bs : List PlanEntry} (apart : bs.Pairwise BreakBefore) {l : Nat} {ts : List PlanEntry}
    (inside : ∀ a ∈ ts, a.first < l) {x y : Nat} (h : min x l ≤ y) :
    milliCars bs l x ts ≤ milliCars bs l y ts := by
  induction ts with
  | nil => exact Nat.le_refl _
  | cons a rest ih =>
    have inside : ∀ c ∈ rest, c.first < l := fun c hc => inside c (List.mem_cons_of_mem _ hc)
    have ends := segmentEnd_le inside
    have run : min x (segmentEnd l rest) ≤ min y (segmentEnd l rest) := by omega
    rw [milliCars_cons, milliCars_cons]
    exact Nat.add_le_add (Nat.div_le_div_right (Nat.mul_le_mul_right _ (productive_mono apart _ run))) (ih inside)

/-- At a takt of at least 20.0 s a second brings no more than 50 milli-cars (R103, R111). -/
theorem segmentCars_le (n : Nat) {takt : Nat} (slow : 200 ≤ takt) : n * 10000 / takt ≤ 50 * n :=
  Nat.le_trans (Nat.div_le_div_left slow (by decide)) (by omega)

theorem milliCars_le {bs : List PlanEntry} {l s : Nat} {a : PlanEntry} {rest : List PlanEntry}
    (ascending : (a :: rest).IsChain (fun a b => a.first < b.first))
    (takts : ∀ c ∈ a :: rest, c.first < l ∧ 200 ≤ c.second) :
    milliCars bs l s (a :: rest) ≤ 50 * (l - a.first) := by
  have cars (n : Nat) := segmentCars_le n (takts a List.mem_cons_self).2
  rw [milliCars_cons]
  induction rest generalizing a with
  | nil =>
    have share := productive_le bs a.first (min s l)
    have first := cars (productive bs a.first (min s l))
    simp only [segmentEnd, milliCars]
    omega
  | cons b rest ih =>
    obtain ⟨order, ascending⟩ := List.isChain_cons_cons.mp ascending
    have takts : ∀ c ∈ b :: rest, c.first < l ∧ 200 ≤ c.second := fun c hc => takts c (List.mem_cons_of_mem _ hc)
    have inside := (takts b List.mem_cons_self).1
    have later := ih ascending takts fun n => segmentCars_le n (takts b List.mem_cons_self).2
    have share := productive_le bs a.first (min s b.first)
    have first := cars (productive bs a.first (min s b.first))
    rw [← milliCars_cons] at later
    simp only [segmentEnd]
    omega

section Usable

variable {es : List PlanEntry}

theorem UsablePlan.targetAt_mono (h : UsablePlan es) {x y : Nat} (le : min x (lengthOf es) ≤ y) :
    targetAt es x ≤ targetAt es y :=
  Nat.div_le_div_right (milliCars_mono h.breaks (fun a ha => (h.takts a ha).1) le)

/-- T(s) is never above T_end (R111). -/
theorem UsablePlan.targetAt_le (h : UsablePlan es) (x : Nat) : targetAt es x ≤ planTotal es :=
  h.targetAt_mono (Nat.min_le_right ..)

/-- From L on T(s) is T_end (R111, R113). -/
theorem UsablePlan.targetAt_of_past (h : UsablePlan es) {x : Nat} (past : lengthOf es ≤ x) :
    targetAt es x = planTotal es :=
  Nat.le_antisymm (h.targetAt_le x) (h.targetAt_mono (Nat.le_trans (Nat.min_le_left ..) past))

theorem UsablePlan.planTotal_le (h : UsablePlan es) : planTotal es ≤ 2160 := by
  have cars : milliCars (breaksOf es) (lengthOf es) (lengthOf es) (taktsOf es) ≤ 50 * lengthOf es := by
    have takts := h.takts
    have ascending := h.ascending
    cases hts : taktsOf es with
    | nil => exact Nat.zero_le _
    | cons a rest =>
      rw [hts] at takts ascending
      exact Nat.le_trans (milliCars_le ascending takts) (Nat.mul_le_mul_left _ (Nat.sub_le ..))
  have length := h.length
  unfold planTotal targetAt
  omega

end Usable

end Sys2Proof.Machine

open Sys2Proof Sys2Proof.Machine

/-- Settles O19: the productive seconds by `productive_eq`, the target by `milliCars_mono` and its bound by
`milliCars_le`, segment by segment. -/
theorem targetOfUsablePlan : Obligations.TargetOfUsablePlan := by
  intro es lo hi s s' usable le
  have plan := usablePlan_of usable
  exact ⟨productive_eq plan.breaks lo hi, plan.targetAt_mono (Nat.le_trans (Nat.min_le_left ..) le),
    plan.targetAt_le s', plan.targetAt_of_past, plan.planTotal_le⟩

end

section
namespace Sys2Proof.Machine

variable {b s u v : State} {n m : Nat}

/-! ## What the laws of the pace unit rest on (R103, R109, R112, R114, R117) -/

/-- Each stored plan bears the flag that R103 gives it. -/
def PlanStore.Judged (ps : PlanStore) : Prop := ∀ p ∈ [ps.p1, ps.p2, ps.p3], p.usable = usableEntries p.entries

theorem PlanStore.Judged.usable {ps : PlanStore} (h : ps.Judged) {shift : Nat} {p : Plan}
    (hp : ps.get shift = some p) (hu : p.usable = true) : UsablePlan p.entries := by
  have stored : p ∈ [ps.p1, ps.p2, ps.p3] := by
    unfold PlanStore.get at hp
    split at hp <;> simp_all
  exact usablePlan_of ((h p stored).symm.trans hu)

/-- The laws of the pace unit with what keeps them from step to step: judged plans, and serials of a byte. -/
structure State.PaceLaws (s : State) : Prop where
  judged : s.clock.plans.Judged
  serial : ∀ x ∈ s.ret.serial, x ≤ 255
  paceOk : s.PaceOk

theorem State.Ok.paceLaws (h : s.Ok) : s.PaceLaws := by
  obtain ⟨-, -, -, -, -, -, judged⟩ := h.clockOk
  obtain ⟨-, -, -, serial, -⟩ := h.shiftOk
  exact ⟨judged, serial, h.paceOk⟩

/-- Boundary, figures and car counter of the retained area alike. -/
structure Retained.SameFigures (x y : Retained) : Prop where
  shift : y.shift = x.shift
  serial : y.serial = x.serial
  actual : y.actual = x.actual
  peak : y.peak = x.peak
  car : y.car = x.car

theorem Retained.SameFigures.of_eq {x y : Retained} (h : y = x) : x.SameFigures y := by
  subst h
  exact ⟨rfl, rfl, rfl, rfl, rfl⟩

/-- Everything alike that the laws of the pace unit speak of, the count silence in its range, on a board that is
awake only where it was. -/
structure State.SameFigures (s u : State) : Prop where
  awake : u.mode.awake = true → s.mode.awake = true
  cfg : u.cfg = s.cfg
  plans : u.clock.plans = s.clock.plans
  ret : s.ret.SameFigures u.ret
  plan : u.pace.plan = s.pace.plan
  tEnd : u.pace.tEnd = s.pace.tEnd
  silence : s.pace.silence ≤ 30 → u.pace.silence ≤ 30

/-- A change of other blocks than mode, configuration and pace unit. -/
theorem State.SameFigures.of_blocks (hm : u.mode = s.mode) (hc : u.cfg = s.cfg)
    (hk : u.clock.plans = s.clock.plans) (hr : s.ret.SameFigures u.ret) (hp : u.pace = s.pace) :
    s.SameFigures u where
  awake := by simp [hm]
  cfg := hc
  plans := hk
  ret := hr
  plan := by rw [hp]
  tEnd := by rw [hp]
  silence := by rw [hp]; exact id

theorem State.PaceLaws.congr (h : s.PaceLaws) (same : s.SameFigures u) : u.PaceLaws where
  judged := by rw [same.plans]; exact h.judged
  serial := by rw [same.ret.serial]; exact h.serial
  paceOk := by
    obtain ⟨actual, car, silence, awake⟩ := h.paceOk
    have plan : u.runningPlan = s.runningPlan := by simp [State.runningPlan, same.plans, same.ret.shift]
    unfold State.PaceOk
    rw [same.cfg, same.ret.actual, same.ret.car, same.ret.peak, same.plan, same.tEnd, plan]
    exact ⟨actual, car, same.silence silence, fun ha => awake (same.awake ha)⟩

/-! ## How the figures go on (R112, R117) -/

/-- Within one boundary: shift number and serial alike, actual and peak not decreased. -/
structure State.Within (b s : State) : Prop where
  shift : s.ret.shift = b.ret.shift
  serial : s.ret.serial = b.ret.serial
  actual : b.ret.actual ≤ s.ret.actual
  peak : ∀ p ∈ b.ret.peak, ∃ q, s.ret.peak = some q ∧ p ≤ q

/-- Behind one or more boundaries, which have advanced the serial by 1 to `n` (R90, R93, R97). -/
def State.Behind (b : State) (n : Nat) (s : State) : Prop :=
  ∃ y, s.ret.serial = some y ∧ ∀ x ∈ b.ret.serial, ∃ d, 1 ≤ d ∧ d ≤ n ∧ y = (x + d) % 256

/-- From `b` to `s` the laws of the pace unit are kept, and the figures go on within the boundary or start
anew behind others, which have advanced the serial by at most `n`. -/
structure State.Paces (b : State) (n : Nat) (s : State) : Prop where
  laws : s.PaceLaws
  course : b.Within s ∨ b.Behind n s

theorem State.Within.refl (s : State) : s.Within s := ⟨rfl, rfl, Nat.le_refl _, fun p hp => ⟨p, hp, Nat.le_refl p⟩⟩

theorem State.Within.trans (h : b.Within s) (hu : s.Within u) : b.Within u where
  shift := hu.shift.trans h.shift
  serial := hu.serial.trans h.serial
  actual := Nat.le_trans h.actual hu.actual
  peak p hp := by
    obtain ⟨q, hq, le⟩ := h.peak p hp
    obtain ⟨r, hr, le'⟩ := hu.peak q hq
    exact ⟨r, hr, Nat.le_trans le le'⟩

theorem State.SameFigures.within (h : s.SameFigures u) : s.Within u where
  shift := h.ret.shift
  serial := h.ret.serial
  actual := Nat.le_of_eq h.ret.actual.symm
  peak p hp := ⟨p, h.ret.peak.trans hp, Nat.le_refl p⟩

/-- A board behind boundaries has another serial while the advance is below 256. -/
theorem State.Behind.serial_ne (h : b.Behind n s) (hb : ∀ x ∈ b.ret.serial, x ≤ 255) (hn : n ≤ 255) :
    s.ret.serial ≠ b.ret.serial := by
  obtain ⟨y, hy, far⟩ := h
  intro same
  obtain ⟨d, low, high, moved⟩ := far y (same.symm.trans hy)
  have range := hb y (same.symm.trans hy)
  omega

theorem State.PaceLaws.refl (h : s.PaceLaws) : s.Paces 0 s := ⟨h, .inl (.refl s)⟩

theorem State.Paces.le (h : b.Paces n s) (hn : n ≤ m) : b.Paces m s where
  laws := h.laws
  course := h.course.imp_right fun ⟨y, hy, far⟩ => ⟨y, hy, fun x hx => by
    obtain ⟨d, low, high, moved⟩ := far x hx
    exact ⟨d, low, Nat.le_trans high hn, moved⟩⟩

/-- A change within the boundary. -/
theorem State.Paces.within (h : b.Paces n s) (hl : u.PaceLaws) (hw : s.Within u) : b.Paces n u where
  laws := hl
  course := h.course.imp (fun k => k.trans hw) fun ⟨y, hy, far⟩ => ⟨y, hw.serial.trans hy, far⟩

/-- A change that leaves what the laws speak of. -/
theorem State.Paces.keep (h : b.Paces n s) (same : s.SameFigures u) : b.Paces n u :=
  h.within (h.laws.congr same) same.within

/-- A boundary that advances the serial by at most `m`. -/
theorem State.Paces.behind (h : b.Paces n s) (hl : u.PaceLaws) (hu : s.Behind m u) : b.Paces (n + m) u where
  laws := hl
  course := by
    obtain ⟨z, hz, far⟩ := hu
    refine .inr ⟨z, hz, fun x hx => ?_⟩
    rcases h.course with k | ⟨y, hy, near⟩
    · obtain ⟨d, low, high, moved⟩ := far x (k.serial.trans hx)
      exact ⟨d, low, by omega, moved⟩
    · obtain ⟨d, low, high, moved⟩ := near x hx
      obtain ⟨e, low', high', moved'⟩ := far y hy
      exact ⟨d + e, by omega, by omega, by omega⟩

theorem State.Paces.ite (h : b.Paces n s) {g : Prop} [Decidable g] (hv : g → b.Paces n v) :
    b.Paces n (if g then v else s) := by
  split
  · next hg => exact hv hg
  · exact h

/-! ## Blocks that the laws do not speak of, and the end of a command -/

section Blocks

variable (h : b.Paces n s)
include h

theorem State.Paces.setCalls (x : CallUnit) : b.Paces n (s.setCalls x) :=
  h.keep (.of_blocks rfl rfl rfl (.of_eq rfl) rfl)

theorem State.Paces.setPins (x : Pins) : b.Paces n (s.setPins x) :=
  h.keep (.of_blocks rfl rfl rfl (.of_eq rfl) rfl)

theorem State.Paces.setSec (x : SectionMonitor) : b.Paces n (s.setSec x) :=
  h.keep (.of_blocks rfl rfl rfl (.of_eq rfl) rfl)

theorem State.Paces.setTable (x : ZoneTable) : b.Paces n (s.setTable x) :=
  h.keep (.of_blocks rfl rfl rfl (.of_eq rfl) rfl)

theorem State.Paces.setAtt (x : Attributor) : b.Paces n (s.setAtt x) :=
  h.keep (.of_blocks rfl rfl rfl (.of_eq rfl) rfl)

theorem State.Paces.setDisp (x : Display) : b.Paces n (s.setDisp x) :=
  h.keep (.of_blocks rfl rfl rfl (.of_eq rfl) rfl)

theorem State.Paces.setBus (x : Bus) : b.Paces n (s.setBus x) :=
  h.keep (.of_blocks rfl rfl rfl (.of_eq rfl) rfl)

theorem State.Paces.setStart (x : StartUp) : b.Paces n (s.setStart x) :=
  h.keep (.of_blocks rfl rfl rfl (.of_eq rfl) rfl)

theorem State.Paces.setCheck (x : BitVec 16) : b.Paces n (s.setCheck x) :=
  h.keep (.of_blocks rfl rfl rfl (.of_eq rfl) rfl)

theorem State.Paces.setClock {c : Clock} (hc : c.plans = s.clock.plans) : b.Paces n (s.setClock c) :=
  h.keep (.of_blocks rfl rfl hc (.of_eq rfl) rfl)

theorem State.Paces.redraw : b.Paces n s.redraw :=
  h.keep (.of_blocks (by simp) (by simp) (by simp) (.of_eq (by simp)) (by simp))

theorem State.Paces.handOn : b.Paces n s.handOn :=
  h.keep {
    awake := by simp
    cfg := by simp
    plans := by simp
    ret := ⟨by simp, by simp, by simp, by simp, by simp⟩
    plan := by simp [State.handOn_pace]
    tEnd := by simp [State.handOn_pace]
    silence := by simp [State.handOn_pace] }

theorem State.Paces.finish : b.Paces n s.finish := h.handOn.redraw

end Blocks

/-! ## The evaluation of the peak and the car counter (R36, R112, R114) -/

/-- Under a usable plan T_end is the plan total, and the peak is not above it (R109, R112). -/
theorem State.PaceLaws.peak_le_total (h : s.PaceLaws) (ha : s.mode.awake = true) {p : Plan}
    (plan : s.pace.plan = some p) (usable : p.usable = true) :
    UsablePlan p.entries ∧ s.pace.tEnd = some (planTotal p.entries) ∧ s.ret.peak.getD 0 ≤ planTotal p.entries := by
  obtain ⟨-, -, -, awake⟩ := h.paceOk
  obtain ⟨running, tEnd, -, peak, -⟩ := awake ha
  have stands : s.runningPlan = some p := running.symm.trans plan
  have total : s.pace.tEnd = some (planTotal p.entries) := by simp [tEnd, stands, tEndOf, usable]
  refine ⟨h.judged.usable stands usable, total, ?_⟩
  cases hx : s.ret.peak with
  | none => exact Nat.zero_le _
  | some x => exact peak x hx _ total

/-- The peak at an evaluation is at most T_end (R111, R112). -/
theorem State.PaceLaws.evalPeak (h : s.PaceLaws) : s.evalPeak.PaceLaws := by
  obtain ⟨actual, car, silence, awake⟩ := h.paceOk
  unfold State.evalPeak
  split
  · next p hp =>
    split
    · next runs =>
      obtain ⟨shift, -, usable⟩ := runs
      have up : s.mode.awake = true := by rw [shift]; rfl
      obtain ⟨plan, tEnd, -, -, counts⟩ := awake up
      obtain ⟨entries, total, before⟩ := h.peak_le_total up hp usable
      have target := entries.targetAt_le s.clock.s
      refine ⟨h.judged, h.serial, actual, car, silence, fun _ => ⟨plan, tEnd, by simp [total], ?_, counts⟩⟩
      intro q hq e he
      rw [← Option.some.inj hq, ← Option.some.inj (total.symm.trans he)]
      exact Nat.max_le.mpr ⟨before, target⟩
    · exact h
  · exact h

theorem State.within_evalPeak (s : State) : s.Within s.evalPeak := by
  obtain ⟨ret, grows⟩ := s.evalPeak_value
  refine ⟨by rw [ret], by rw [ret], by rw [ret], fun p hp => ?_⟩
  obtain ⟨q, hq, le⟩ := grows p hp
  exact ⟨q, hq, le⟩

theorem State.Paces.evalPeak (h : b.Paces n s) : b.Paces n s.evalPeak :=
  h.within h.laws.evalPeak s.within_evalPeak

/-- A count point's counter goes up, and the actual with it (R36, R38, R114). -/
theorem State.Paces.setCar (h : b.Paces n s) (ha : s.mode.awake = true) (hc : s.cfg.roles.countPoint = true)
    {x : Nat} (up : s.ret.car ≤ x) (high : x ≤ 9999) : b.Paces n (s.setCar x) := by
  obtain ⟨-, moved⟩ := (s.setCar_value x).2
  obtain ⟨-, -, silence, awake⟩ := h.laws.paceOk
  obtain ⟨plan, tEnd, present, peak, actual, -⟩ := awake ha
  by_cases same : x = s.ret.car
  · rwa [(s.setCar_value x).2.1 same]
  · rw [moved same]
    have raised : b.Paces n (s.setRet { s.ret with car := x, actual := x }) :=
      h.within ⟨h.laws.judged, h.laws.serial, high, high, silence, fun _ =>
          ⟨plan, tEnd, present, peak, fun _ => rfl, fun none => absurd (hc.symm.trans none) (by simp)⟩⟩
        ⟨rfl, rfl, by rw [actual hc]; exact up, fun p hp => ⟨p, hp, Nat.le_refl p⟩⟩
    exact raised.keep {
      awake := by simp
      cfg := by simp
      plans := by simp
      ret := .of_eq (by simp)
      plan := by simp
      tEnd := by simp
      silence := by simp }

/-! ## Boundaries (R90 to R94, R125) -/

/-- A boundary starts the figures anew, whatever they were: the actual at 0, the peak at T(s) or absent. -/
theorem State.boundary_paceLaws (hp : s.clock.plans.Judged) (shift : Nat) {serial : Nat} (hn : serial ≤ 255) :
    (s.boundary shift serial).PaceLaws := by
  obtain ⟨-, pace⟩ := s.boundary_pace shift serial
  have ret := s.boundary_ret shift serial
  obtain ⟨num, ser, -⟩ := s.ret.cross_value shift serial
  have clock : (s.boundary shift serial).clock = s.clock := by simp
  have running : (s.boundary shift serial).runningPlan = s.clock.plans.get shift := by
    simp only [State.runningPlan, clock, ret, num]
  refine ⟨by rw [clock]; exact hp, fun x hx => ?_, ?_⟩
  · rw [ret] at hx
    exact Option.some.inj (ser.symm.trans hx) ▸ hn
  · unfold State.PaceOk
    rw [running, pace, ret]
    refine ⟨Nat.zero_le _, Nat.zero_le _, Nat.zero_le _, fun _ => ⟨rfl, rfl, ?_, ?_, fun _ => rfl, fun _ => rfl⟩⟩
    · cases s.clock.plans.get shift with
      | none => simp [tEndOf]
      | some p =>
        cases hu : p.usable with
        | false => simp [tEndOf, hu]
        | true =>
          simp only [tEndOf, hu, Option.any_some]
          split <;> simp
    · cases hg : s.clock.plans.get shift with
      | none => simp [tEndOf]
      | some p =>
        cases hu : p.usable with
        | false => simp [tEndOf, hu]
        | true =>
          have target := (hp.usable hg hu).targetAt_le s.clock.s
          simp only [tEndOf, hu, Option.any_some]
          split <;> simp [target]

theorem State.boundary_serial (s : State) (shift serial : Nat) :
    (s.boundary shift serial).ret.serial = some serial := by
  rw [s.boundary_ret shift serial]
  exact (s.ret.cross_value shift serial).2.1

theorem State.Paces.boundary (h : b.Paces n s) (shift : Nat) {serial : Nat} (hn : serial ≤ 255)
    (hm : ∀ x ∈ s.ret.serial, ∃ d, 1 ≤ d ∧ d ≤ m ∧ serial = (x + d) % 256) :
    b.Paces (n + m) (s.boundary shift serial) :=
  h.behind (State.boundary_paceLaws h.laws.judged shift hn) ⟨serial, s.boundary_serial shift serial, hm⟩

theorem nextSerial_advances (x : Option Nat) :
    ∀ y ∈ x, ∃ d, 1 ≤ d ∧ d ≤ 1 ∧ nextSerial x = (y + d) % 256 := by
  rintro y rfl
  exact ⟨1, Nat.le_refl 1, Nat.le_refl 1, rfl⟩

theorem State.Paces.markTime (h : b.Paces n s) : b.Paces n s.markTime := by
  have counted : b.Paces n (s.setClock { s.clock with markCount := 0 }) := h.setClock rfl
  exact counted.keep (.of_blocks (by simp) (by simp) (by simp [State.markTime]) (.of_eq (by simp)) (by simp))

theorem State.Paces.endOvertime (h : b.Paces n s) : b.Paces (n + 1) s.endOvertime := by
  have zero : b.Paces n (s.setClock { s.clock with s := 0, pause := 0 }) := h.setClock rfl
  have crossed := zero.boundary 0 (nextSerial_le s.ret.serial) (nextSerial_advances s.ret.serial)
  exact .ite crossed fun _ => crossed.markTime

theorem State.Paces.checkOvertime (h : b.Paces n s) : b.Paces (n + 1) s.checkOvertime :=
  .ite (h.le (Nat.le_succ n)) fun _ => h.handOn.endOvertime

theorem State.Paces.ownBoundary (h : b.Paces n s) (shift : Nat) {serial : Nat} (hn : serial ≤ 255)
    (hm : ∀ x ∈ s.ret.serial, ∃ d, 1 ≤ d ∧ d ≤ 1 ∧ serial = (x + d) % 256) :
    b.Paces (n + 1) (s.ownBoundary shift serial) := by
  have own : b.Paces n (s.setClock (s.clock.ownInput s.cfg.zone)) := h.setClock rfl
  exact (own.boundary shift hn hm).markTime

theorem State.Paces.shiftStart (h : b.Paces n s) (code : Nat) : b.Paces (n + 1) (s.shiftStart code) := by
  rw [s.shiftStart_steps]
  exact h.ownBoundary _ (nextSerial_le _) (nextSerial_advances _)

theorem State.Paces.shiftEnd (h : b.Paces n s) : b.Paces (n + 1) s.shiftEnd := by
  have stays := h.le (Nat.le_succ n)
  cases hs : s.ret.serial with
  | none => rwa [s.shiftEnd_without_serial hs]
  | some x =>
    rw [s.shiftEnd_steps hs]
    split
    · exact stays.setClock rfl
    · exact h.ownBoundary 0 (by omega) (hs ▸ nextSerial_advances (some x))

/-! ## TIME MARKs (R97 to R100) -/

theorem State.Paces.gainAuthority (h : b.Paces n s) : b.Paces n s.gainAuthority :=
  .ite h fun _ => h.setClock rfl

theorem State.Paces.adoptBoundary (h : b.Paces n s) (sender shift second : Nat) {serial : Nat} (hn : serial ≤ 255)
    (hm : ∀ x ∈ s.ret.serial, ∃ d, 1 ≤ d ∧ d ≤ m ∧ serial = (x + d) % 256) :
    b.Paces (n + m + 1) (s.adoptBoundary sender shift serial second) := by
  have heeded : b.Paces n (s.setClock { s.clock.heed sender with
      s := if shift = 0 then 0 else second, pause := 0 }) := h.setClock rfl
  exact (heeded.gainAuthority.boundary shift hn (by simpa using hm)).checkOvertime

theorem Clock.follow_plans (c : Clock) (second : Nat) : (c.follow second).plans = c.plans := by
  unfold Clock.follow
  repeat' split
  all_goals rfl

theorem State.Paces.adoptSame (h : b.Paces n s) (sender second : Nat) :
    b.Paces (n + 1) (s.adoptSame sender second) := by
  unfold State.adoptSame
  dsimp only
  generalize (if s.ret.shift = 0 then 0 else second) = x
  have plans : ((s.clock.follow x).heed sender).plans = s.clock.plans := s.clock.follow_plans x
  have adopted := (h.setClock plans).gainAuthority
  exact State.Paces.checkOvertime (.ite adopted fun _ => adopted.evalPeak)

/-- An adopted mark is at most 127 serials ahead (R97), and may end its shift at once (R98). -/
theorem State.Paces.judgeMark (h : b.Paces n s) (sender shift second : Nat) {serial : Nat} (hn : serial ≤ 255) :
    b.Paces (n + 128) (s.judgeMark sender shift serial second) := by
  have stays : b.Paces (n + 128) s := h.le (by omega)
  unfold State.judgeMark
  dsimp only
  split
  · exact stays
  · split
    · next none => exact h.adoptBoundary (m := 127) sender shift second hn (by simp [none])
    · next own hs =>
      have range := h.laws.serial own hs
      split
      · exact .ite stays fun _ => (h.adoptSame sender second).le (by omega)
      · next moved =>
        refine .ite stays fun near => h.adoptBoundary sender shift second hn fun x hx => ?_
        rw [← Option.some.inj (hs.symm.trans hx)]
        exact ⟨(serial + 256 - own) % 256, by omega, near, by omega⟩

end Sys2Proof.Machine
end

section
namespace Sys2Proof.Machine

variable {b s u v : State} {n m : Nat}

/-! ## Calls, pulses and a stop that is re-keyed -/

theorem State.Paces.charge (h : b.Paces n s) (f : Record → Record) : b.Paces n (s.charge f) :=
  .ite h fun _ => h.keep (.of_blocks rfl rfl rfl ⟨rfl, rfl, rfl, rfl, rfl⟩ rfl)

theorem State.Paces.enterHold (h : b.Paces n s) (k : CallKind) : b.Paces n (s.enterHold k) :=
  (h.charge _).setCalls _

theorem State.Paces.appendCall (h : b.Paces n s) (x : Call) : b.Paces n (s.appendCall x) :=
  (h.setCalls _).charge _

theorem State.Paces.startAlert (h : b.Paces n s) (k : CallKind) : b.Paces n (s.startAlert k) :=
  .ite h fun _ => h.setDisp _

theorem State.Paces.pullNew (h : b.Paces n s) (cord : Cord) : b.Paces n (s.pullNew cord) := by
  unfold State.pullNew
  refine State.Paces.ite ?_ fun _ => h
  split
  · exact (h.setCalls _).enterHold _
  · split
    · exact ((h.appendCall _).enterHold .safety).startAlert .safety
    · exact h.appendCall _

theorem State.Paces.pull (h : b.Paces n s) (cord : Cord) : b.Paces n (s.pull cord) := by
  unfold State.pull
  split
  · exact h
  · split
    · exact h.pullNew cord
    · split
      · exact h
      · split <;> exact h.setCalls _

theorem State.Paces.enterHolds (h : b.Paces n s) (l : List Call) :
    b.Paces n (l.foldl (fun s x => s.enterHold x.kind) s) := by
  induction l generalizing s with
  | nil => exact h
  | cons x rest ih => exact ih (h.enterHold x.kind)

theorem State.Paces.paced (h : b.Paces n s) : b.Paces n s.paced :=
  ((h.setSec (s.sec.accept s.now)).setCalls _).enterHolds _

theorem State.Paces.rekey (h : b.Paces n s) (r : Option CauseKey) : b.Paces n (s.rekey r) :=
  h.keep (.of_blocks (by simp) (by simp) (by simp) ⟨by simp, by simp, by simp, by simp, by simp⟩ (by simp))

theorem State.Paces.rekeyTogether (h : b.Paces n s) : b.Paces n s.rekeyTogether := by
  have folded (l : List Instr) (p : State × State) (hp : b.Paces n p.2) : b.Paces n (l.foldl rekeyAfter p).2 := by
    induction l generalizing p with
    | nil => exact hp
    | cons c rest ih => exact ih _ (.ite hp fun _ => hp.rekey _)
  exact .ite h fun _ => folded _ _ h

theorem State.Paces.rekeyed (h : b.Paces n s) : b.Paces n s.rekeyed := by
  unfold State.rekeyed
  split
  · exact h.paced.handOn
  · exact h.paced.handOn.rekeyTogether

theorem State.Paces.setMotion (h : b.Paces n s) (x : Motion) : b.Paces n (s.setMotion x) :=
  h.keep (.of_blocks (by simp) (by simp) (by simp) (.of_eq (by simp)) (by simp))

theorem State.Paces.pulse (h : b.Paces n s) (gap : Nat) : b.Paces n (s.pulse gap) := by
  by_cases soon : s.sec.tooSoon gap s.now = true
  · rw [State.pulse, if_pos soon]
    exact (h.setSec _).finish
  · have steps : s.pulse gap = (s.rekeyed.setMotion .moving).finish := if_neg soon
    rw [steps]
    exact (h.rekeyed.setMotion .moving).finish

/-! ## A second (R88, R116) -/

theorem State.Paces.tickMarks (h : b.Paces n s) : b.Paces n s.tickMarks := by
  obtain ⟨clock, pace⟩ := s.tickMarks_value
  exact h.keep {
    awake := by simp
    cfg := by simp
    plans := by rw [clock]
    ret := .of_eq (by simp)
    plan := by rw [pace]
    tEnd := by rw [pace]
    silence := by
      rw [pace]
      dsimp only
      split <;> omega }

theorem State.Paces.tick (h : b.Paces n s) : b.Paces n s.tick := by
  have ticked : b.Paces n s.tickClock.handOn :=
    State.Paces.handOn
      (h.keep (.of_blocks (by simp) (by simp) (by simp [s.tickClock_clock]) (.of_eq (by simp)) (by simp)))
  have stopped : b.Paces n s.tickClock.handOn.countStopSecond :=
    .ite ticked fun _ => ticked.keep (.of_blocks rfl rfl rfl ⟨rfl, rfl, rfl, rfl, rfl⟩ rfl)
  have counted : b.Paces n s.tickClock.handOn.countStopSecond.tickCalls.tickTable :=
    stopped.keep (.of_blocks (by simp) (by simp) (by simp) (.of_eq (by simp)) (by simp))
  have evaluated := counted.tickMarks.evalPeak
  have last : b.Paces n s.tickClock.handOn.tallied :=
    evaluated.keep (.of_blocks (by simp [State.tallied]) (by simp [State.tallied]) (by simp [State.tallied])
      (.of_eq (by simp [State.tallied])) (by simp [State.tallied]))
  rw [s.tick_steps]
  exact last.finish

/-! ## Taking up work, waking, going to DORMANT (R195, R196) -/

theorem State.Paces.takeUpWork (h : b.Paces n s) : b.Paces n s.takeUpWork := by
  obtain ⟨-, -, -, -, -, pace⟩ := s.takeUpWork_value
  exact h.keep {
    awake := by simp
    cfg := by simp
    plans := by simp
    ret := .of_eq (by simp)
    plan := by rw [pace]
    tEnd := by rw [pace]
    silence := by rw [pace]; exact id }

/-- A mode that is awake only where the board was. -/
theorem State.Paces.setMode (h : b.Paces n s) {x : Mode} (hx : x.awake = true → s.mode.awake = true) :
    b.Paces n (s.setMode x) :=
  h.keep ⟨hx, rfl, rfl, .of_eq rfl, rfl, rfl, id⟩

theorem State.Paces.wake (h : b.Paces n s) (ha : s.mode.awake = true) : b.Paces n s.wake := by
  have roused : b.Paces n s.roused := (h.setMode fun _ => ha).setBus _
  have waking : b.Paces n s.waking := .ite roused.takeUpWork fun _ => roused.takeUpWork.markTime
  exact waking.finish

theorem State.Paces.wakeIfDormant (h : b.Paces n s) : b.Paces n s.wakeIfDormant :=
  .ite h fun asleep => h.wake (by rw [asleep]; rfl)

theorem State.Paces.enterDormant (h : b.Paces n s) (ha : s.mode.awake = true) : b.Paces n s.enterDormant := by
  rw [s.enterDormant_finish]
  have asleep : b.Paces n s.asleep :=
    (h.setMode fun _ => ha).keep (.of_blocks rfl rfl rfl (.of_eq rfl) rfl)
  exact asleep.finish

/-! ## What a command finds (log 3) -/

section Settle

variable (h : b.Paces n s)
include h

theorem State.Paces.expireHolds : b.Paces n s.expireHolds :=
  .ite h fun _ => (h.setCalls _).finish

theorem State.Paces.silenceEntries : b.Paces n s.silenceEntries :=
  .ite h fun _ => (h.setTable _).finish

theorem State.Paces.expireClash : b.Paces n s.expireClash :=
  .ite h fun _ => (h.setTable _).finish

theorem State.Paces.mark (i : SlotId) : b.Paces n (s.mark i) :=
  h.keep (.of_blocks (by simp) (by simp) (by simp) (.of_eq (by simp)) (by simp))

theorem State.Paces.expireRefresh : b.Paces n s.expireRefresh :=
  .ite h fun _ => (h.setTable _).mark .status

theorem State.Paces.expireMarkCount : b.Paces n s.expireMarkCount :=
  .ite h fun _ => h.markTime

/-- The count period and the count source's free flag are no part of these laws. -/
theorem State.Paces.setPace {x : Pace} (hp : x.plan = s.pace.plan) (ht : x.tEnd = s.pace.tEnd)
    (hs : x.silence = s.pace.silence) : b.Paces n (s.setPace x) :=
  h.keep ⟨id, rfl, rfl, .of_eq rfl, hp, ht, fun range => Nat.le_trans (Nat.le_of_eq hs) range⟩

theorem State.Paces.expirePeriod : b.Paces n s.expirePeriod := by
  have counted : b.Paces n (s.setPace { s.pace with period := 0 }) := h.setPace rfl rfl rfl
  exact .ite h fun _ => counted.mark .count

theorem State.Paces.expireSilence : b.Paces n s.expireSilence :=
  .ite h fun _ => h.setClock rfl

theorem State.Paces.expireCountSilence : b.Paces n s.expireCountSilence :=
  .ite h fun _ => h.setPace rfl rfl rfl

theorem State.Paces.expireDurations : b.Paces n s.expireDurations := by
  have left : b.Paces n s.expireMessages := s.expireMessages_setDisp ▸ h.setDisp _
  exact .ite h fun _ => left.finish

theorem State.Paces.reachPlanEnd : b.Paces n s.reachPlanEnd :=
  .ite h fun _ => h.evalPeak.finish

theorem State.Paces.expireOvertime : b.Paces (n + 1) s.expireOvertime :=
  .ite (h.le (Nat.le_succ n)) fun _ => h.endOvertime.finish

theorem State.Paces.expireDormant : b.Paces n s.expireDormant :=
  .ite h fun reached => h.enterDormant (by rw [(s.dormantReached_iff.mp reached).1]; rfl)

theorem State.Paces.settle : b.Paces (n + 1) s.settle := by
  have counted := h.expireHolds.silenceEntries.expireClash.expireRefresh.expireMarkCount.expirePeriod
  exact counted.expireSilence.expireCountSilence.expireDurations.expireOvertime.expireDormant

theorem State.Paces.atTime (t : Time) : b.Paces n (s.atTime t) :=
  h.keep (.of_blocks rfl rfl rfl (.of_eq rfl) rfl)

theorem State.Paces.begin_ (t : Time) : b.Paces (n + 1) (s.begin_ t) := h.settle.atTime t

end Settle

/-! ## Inputs and sensors -/

theorem State.Paces.setTracker (h : b.Paces n s) (i : InputId) (x : Tracker) : b.Paces n (s.setTracker i x) := by
  cases i <;> exact h.keep (.of_blocks rfl rfl rfl (.of_eq rfl) rfl)

theorem State.Paces.changeLevel (h : b.Paces n s) (i : InputId) (level : Bool) :
    b.Paces n (s.changeLevel i level) := by
  unfold State.changeLevel
  dsimp only
  split
  · exact h
  · exact .ite (h.setPins _) fun _ => (h.setPins _).setTracker i _

/-- A counted pull, press or pulse (R3, R4, R92). -/
theorem State.Paces.counted (h : b.Paces n s) (i : InputId) (code : Nat) : b.Paces (n + 1) (s.counted i code) := by
  have stays := h.le (Nat.le_succ n)
  cases i with
  | clr => exact (stays.wakeIfDormant.setCalls _).finish
  | shst => exact (h.wakeIfDormant.shiftStart code).finish
  | shend => exact h.wakeIfDormant.shiftEnd.finish
  | call j =>
    unfold State.counted
    dsimp only
    split
    · exact stays
    · split
      · exact stays
      · exact (stays.wakeIfDormant.pull _).finish

theorem State.Paces.qualify (h : b.Paces n s) (i : InputId) (code : Nat) : b.Paces (n + 1) (s.qualify i code) := by
  have stays := h.le (Nat.le_succ n)
  unfold State.qualify
  dsimp only
  refine .ite stays fun _ => ?_
  split
  · exact (h.setTracker i _).counted i code
  · exact stays.setTracker i _

/-- A counted car-out edge raises a counter below 9,999 (R36). -/
theorem State.Paces.countCar (h : b.Paces n s) (counts : s.countsCar = true) : b.Paces n s.countCar := by
  obtain ⟨point, shift, low, -⟩ := s.countsCar_iff.mp counts
  have edge := h.setSec { s.sec with lastCar := some s.now }
  exact (edge.setCar (by rw [State.setSec_mode, shift]; rfl) point (Nat.le_succ _) low).finish

/-! ## The line -/

theorem State.Paces.endGap (h : b.Paces n s) :
    b.Paces n (if s.gapOver then s.endGap true else if s.gapCutNow then s.endGap false else s) := by
  split
  · exact h.setBus _
  · exact .ite h fun _ => h.setBus _

theorem State.Paces.transmissionStart (h : b.Paces n s) :
    b.Paces n (match s.bus.firstPending with
    | some i =>
      match s.frameFor i with
      | some f => if s.mayTransmit then s.startAttempt i f else s
      | none => s
    | none => s) := by
  split
  · split
    · exact .ite h fun _ => h.keep (.of_blocks (by simp) (by simp) (by simp) (.of_eq (by simp)) (by simp))
    · exact h
  · exact h

theorem State.Paces.sent (h : b.Paces n s) (x : Tx) : b.Paces n (s.sent x) := by
  unfold State.sent
  dsimp only
  split <;> exact State.Paces.finish
    (h.keep (.of_blocks (by simp) (by simp) (by simp) (.of_eq (by simp)) (by simp)))

theorem State.Paces.collide (h : b.Paces n s) (x : Tx) : b.Paces n (s.collide x) := by
  have ended (y : Bus) (f : Requests → Requests) : b.Paces n ((s.setBus y).replyEnded x f).finish :=
    State.Paces.finish (h.keep (.of_blocks (by simp) (by simp) (by simp) (.of_eq (by simp)) (by simp)))
  unfold State.collide
  dsimp only
  split
  · exact ended _ _
  · split <;> exact ended _ _

theorem State.Paces.activity (h : b.Paces n s) (ha : s.mode.awake = true) : b.Paces n s.activity := by
  have woken (x : Bus) : b.Paces n (s.setBus x).wake := (h.setBus x).wake ha
  have seen (x y : Bus) : b.Paces n ((s.setBus x).setBus y) := (h.setBus x).setBus y
  unfold State.activity
  dsimp only
  split
  · exact woken _
  · split
    · split
      · exact woken _
      · exact seen _ _
    · exact seen _ _
    · exact seen _ _

theorem State.Paces.wakeWindow (h : b.Paces n s) :
    b.Paces n (match s.bus.wake with
    | .seen d =>
      if s.mode = Mode.dormant ∧ d ≤ s.now then s.setBus { s.bus with wake := .waiting } else s
    | .waiting => s
    | .off => s) := by
  split
  · exact .ite h fun _ => h.setBus _
  · exact h
  · exact h

/-! ## Frames -/

theorem State.Paces.endReception (h : b.Paces n s) : b.Paces n s.endReception := h.setBus _

theorem State.Paces.receive (h : b.Paces n s) (frame : List Byte) (row : Envelope → Bool)
    {owner : Envelope → State → State} (ho : ∀ e, b.Paces n (owner e s.endReception)) :
    b.Paces n (s.receive frame row owner) := by
  unfold State.receive
  refine .ite h fun _ => ?_
  split
  · split
    · exact ho _
    · exact h.endReception
  · exact h.endReception

theorem State.Paces.served (h : b.Paces n s) (e : Envelope) {f : Envelope → State → State}
    (hf : ∀ v : State, b.Paces n v → b.Paces n (f e v)) : b.Paces n (State.serve f e s) :=
  .ite h fun _ => hf _ h

theorem State.Paces.answerRequest (h : b.Paces n s) (e : Envelope) (status : Nat) (body : List Byte) :
    b.Paces n (s.answerRequest e status body) :=
  h.keep (.of_blocks (by simp) (by simp) (by simp) (.of_eq (by simp)) (by simp))

theorem State.Paces.serveRead (h : b.Paces n s) (e : Envelope) : b.Paces n (s.serveRead e) :=
  h.keep (.of_blocks (by simp) (by simp) (by simp) (.of_eq (by simp)) (by simp))

/-- MARK COLLECTED clears the changed flag of a record, which is no figure (R184). -/
theorem State.Paces.serveMark (h : b.Paces n s) (e : Envelope) : b.Paces n (s.serveMark e) := by
  have cleared (sel : Nat) : b.Paces n (s.clearChanged sel) := by
    unfold State.clearChanged
    split <;> exact h.keep (.of_blocks rfl rfl rfl ⟨rfl, rfl, rfl, rfl, rfl⟩ rfl)
  unfold State.serveMark
  dsimp only
  split
  · exact h.answerRequest _ _ _
  · split
    · exact (cleared _).answerRequest _ _ _
    · exact h.answerRequest _ _ _

theorem State.Paces.onMessage (h : b.Paces n s) (e : Envelope) : b.Paces n (s.onMessage e) :=
  .ite h fun _ => State.Paces.finish
    (h.keep (.of_blocks (by simp) (by simp) (by simp) (.of_eq (by simp)) (by simp)))

theorem State.Paces.onWithdrawal (h : b.Paces n s) (e : Envelope) : b.Paces n (s.onWithdrawal e) :=
  .ite h fun _ => State.Paces.finish
    (h.keep (.of_blocks (by simp) (by simp) (by simp) (.of_eq (by simp)) (by simp)))

theorem State.Paces.onTimeMark (h : b.Paces n s) (e : Envelope) : b.Paces (n + 128) (s.onTimeMark e) :=
  (h.judgeMark _ _ _ (Nat.le_of_lt_succ (byteAt_lt _ _))).finish

/-- A count point takes a larger actual of its boundary into its counter (R38). -/
theorem State.Paces.onZoneStatus (h : b.Paces n s) (e : Envelope) : b.Paces n (s.onZoneStatus e) := by
  have taken : b.Paces n (s.takeStatus e) :=
    h.keep (.of_blocks (by simp) (by simp) (by simp) (.of_eq (by simp)) (by simp))
  have recovered : b.Paces n ((s.takeStatus e).recoverCount e) := by
    refine .ite taken fun recovers => ?_
    obtain ⟨point, shift, -, -, -, larger⟩ := recovers
    exact taken.setCar (by rw [shift]; rfl) point (Nat.le_of_lt larger) (Nat.min_le_right ..)
  exact recovered.finish

/-- A COUNT that is used raises the actual at most, to 9,999 at most, on a board that is no count point
(R114 to R117). -/
theorem State.Paces.useCount (h : b.Paces n s) (e : Envelope) : b.Paces n (s.useCount e) := by
  refine .ite h fun used => ?_
  have noPoint : s.cfg.roles.countPoint = false := by
    simp only [State.countAccepted, Bool.and_eq_true, Bool.not_eq_true'] at used
    obtain ⟨⟨⟨⟨noPoint, -⟩, -⟩, -⟩, -⟩ := used
    exact noPoint
  obtain ⟨judged, serial, actual, car, -, awake⟩ := h.laws
  refine h.within ⟨judged, serial, Nat.max_le.mpr ⟨actual, Nat.min_le_right ..⟩, car, Nat.zero_le _, fun ha => ?_⟩
    ⟨rfl, rfl, Nat.le_max_left .., fun p hp => ⟨p, hp, Nat.le_refl p⟩⟩
  obtain ⟨plan, tEnd, present, peak, -, noCar⟩ := awake ha
  exact ⟨plan, tEnd, present, peak, fun point => absurd (noPoint.symm.trans point) (by simp), noCar⟩

theorem State.Paces.onCount (h : b.Paces n s) (e : Envelope) : b.Paces n (s.onCount e) := (h.useCount e).finish

end Sys2Proof.Machine
end

section
namespace Sys2Proof.Machine

variable {b s u v : State}

/-! ## What a command leaves of the figures -/

/-- The laws of the pace unit stand, and a board awake before and after has its figures gone on, or crossed
boundaries: one at most before the command, and at most 128 serials by it (R90, R97). -/
structure State.LeavesFigures (s u : State) : Prop where
  laws : u.PaceLaws
  course : s.mode.awake = true → u.mode.awake = true → s.Within u ∨ s.Behind 129 u

theorem State.Paces.leaves (h : s.Paces 129 u) : s.LeavesFigures u := ⟨h.laws, fun _ _ => h.course⟩

/-- A command that leaves the board in LOADING or HALTED, or finds it there, is asked for the laws alone. -/
theorem State.PaceLaws.leaves (h : u.PaceLaws) (hm : ¬ (s.mode.awake = true ∧ u.mode.awake = true)) :
    s.LeavesFigures u :=
  ⟨h, fun before after => absurd ⟨before, after⟩ hm⟩

theorem State.LeavesFigures.of_ran (ran : (.next v : Host.Outcome State Fault Refusal) = .next u)
    (h : s.LeavesFigures v) : s.LeavesFigures u :=
  Host.Outcome.next.inj ran ▸ h

/-! ## Start-up (R188 to R192) -/

theorem State.PaceLaws.enterLoading (h : s.PaceLaws) (bpol : Bool) (link : Link) (startup : StartUp) :
    (s.enterLoading bpol link startup).PaceLaws := by
  obtain ⟨-, serial, actual, car, -⟩ := h
  exact ⟨by simp [State.enterLoading, Clock.initial, PlanStore.Judged]; decide, serial, actual, car, Nat.zero_le _,
    fun ha => absurd ha (by simp [State.enterLoading, Mode.awake])⟩

theorem State.PaceLaws.powerOn (h : s.PaceLaws) (bpol : Bool) : (s.powerOn bpol).PaceLaws := by
  have judged := (h.enterLoading bpol ⟨some .dark, false, s.disp.link.shown⟩ s.start).judged
  have ret : (s.powerOn bpol).ret = .cleared := State.clearArea_value _ |>.1
  have rest : (s.powerOn bpol).mode.awake = false := by simp [State.powerOn, State.enterLoading, Mode.awake]
  refine ⟨judged, by simp [ret, Retained.cleared], by simp [ret, Retained.cleared], by simp [ret, Retained.cleared],
    Nat.zero_le _, fun ha => absurd (rest.symm.trans ha) (by simp)⟩

theorem State.PaceLaws.halt (h : s.PaceLaws) (c : HaltCode) : (s.halt c).PaceLaws := by
  have halted : s.Paces 0 ((s.setMode .halted).setStart { s.start with halt := some c, reading := false }) :=
    (h.refl.setMode (x := .halted) (by simp [Mode.awake])).setStart _
  exact halted.finish.laws

/-- The board that leaves LOADING has the figures of its area, brought within the plan it was loaded with
(R126, R192). -/
theorem State.PaceLaws.leaving (h : s.PaceLaws) (c : Cfg) (mem : List Byte) :
    (s.leaving c (plansOf mem)).PaceLaws := by
  obtain ⟨mode, cfg, clock, -⟩ := s.leaving_blocks c (plansOf mem)
  have ret := s.leaving_ret c (plansOf mem)
  obtain ⟨-, -, shift, serial, -⟩ := s.judged.closeInterval_value
  have pace : (s.leaving c (plansOf mem)).pace.plan = (s.leaving c (plansOf mem)).runningPlan ∧
      (s.leaving c (plansOf mem)).pace.tEnd = tEndOf (s.leaving c (plansOf mem)).runningPlan ∧
      (s.leaving c (plansOf mem)).pace.silence = s.pace.silence := by
    simp [State.leaving, State.restorePace, State.runningPlan]
  have running : (s.leaving c (plansOf mem)).runningPlan = (plansOf mem).get s.judged.shift := by
    simp [State.runningPlan, clock, ret, shift]
  obtain ⟨plan, tEnd, quiet⟩ := pace
  have area : s.judged.actual ≤ 9999 ∧ s.judged.car ≤ 9999 ∧ ∀ x ∈ s.judged.serial, x ≤ 255 := by
    unfold State.judged
    split
    · simp [Retained.cleared]
    · exact ⟨h.paceOk.1, h.paceOk.2.1, h.serial⟩
  obtain ⟨actual, car, byte⟩ := area
  refine ⟨by rw [clock]; exact PlanStore.usable_of_image mem, by rw [ret]; simpa [serial] using byte, ?_⟩
  unfold State.PaceOk
  rw [quiet, plan, tEnd, running, ret, cfg]
  refine ⟨by dsimp only; split <;> assumption, by dsimp only; split <;> omega, h.paceOk.2.2.1, fun _ =>
    ⟨rfl, rfl, by simp, ?_, fun point => by simp [point], fun none => by simp [none]⟩⟩
  intro p hp e he
  obtain ⟨x, hx, rfl⟩ := Option.map_eq_some_iff.mp hp
  rw [← Option.some.inj (hx.symm.trans he)]
  exact Nat.min_le_right ..

theorem State.Paces.beginTrackers {n : Nat} (h : b.Paces n s) : b.Paces n s.beginTrackers :=
  h.keep (.of_blocks rfl rfl rfl (.of_eq rfl) rfl)

theorem State.PaceLaws.readImage (h : s.PaceLaws) (mem : List Byte) :
    (match imageFault mem with
      | some c => s.halt c
      | none => s.leaveLoading (cfgOf mem) (plansOf mem)).PaceLaws := by
  split
  · exact h.halt _
  · rw [State.leaveLoading_steps]
    exact (h.leaving _ mem).refl.takeUpWork.beginTrackers.finish.laws

/-- What was outstanding leaves an awake board awake. -/
theorem State.begin_awake (ha : s.mode.awake = true) (t : Time) : (s.begin_ t).mode.awake = true := by
  have dormant {v : State} (hv : v.mode.awake = true) : v.expireDormant.mode.awake = true := by
    unfold State.expireDormant
    split
    · rw [v.enterDormant_finish]
      simp [State.asleep, Mode.awake]
    · exact hv
  have overtime {v : State} (hv : v.mode.awake = true) : v.expireOvertime.mode.awake = true := by
    unfold State.expireOvertime
    split
    · simp [v.endOvertime_blocks, Mode.awake]
    · exact hv
  exact dormant (overtime (by simpa using ha))

/-! ## Every command -/

/-- What every command leaves of the pace unit's laws and figures, row by row of the table. -/
theorem exec_leavesFigures {s u : State} (h : s.Ok) (i : Instr) (ran : exec i s = .next u) : s.LeavesFigures u := by
  have start : s.Paces 0 s := h.paceLaws.refl
  have first (t : Time) : s.Paces 1 (s.begin_ t) := start.begin_ t
  have begun (t : Time) : s.Paces 129 (s.begin_ t) := (first t).le (by decide)
  have timed (t : Time) : s.Paces 129 (s.atTime t) := (start.atTime t).le (by decide)
  have laws (t : Time) : (s.begin_ t).PaceLaws := (begun t).laws
  cases i
  all_goals refine .of_ran ran ?_
  case powerOn t bpol => exact ((laws t).powerOn bpol).leaves (by simp [State.powerOn, State.enterLoading, Mode.awake])
  case restartInput t bpol =>
    split
    · exact ((laws t).enterLoading bpol _ _).leaves (by simp [State.enterLoading, Mode.awake])
    · exact (begun t).leaves
  case configImageRead t mem =>
    split
    · next loading =>
      have asleep : s.mode.awake ≠ true := by
        intro awake
        have awake := State.begin_awake awake t
        simp [loading.1, Mode.awake] at awake
      exact ((laws t).readImage mem).leaves fun within => asleep within.1
    · exact (begun t).leaves
  all_goals refine State.Paces.leaves ?_
  case rstwRelease t => exact (begun t).setStart _
  case inputActive t x => exact (begun t).changeLevel x true
  case inputInactive t x => exact (begun t).changeLevel x false
  case qualifyTimeExpiry t x c0 c1 => exact ((first t).qualify x _).le (by decide)
  case releaseTimeExpiry t x => exact .ite (begun t) fun _ => (begun t).setTracker x _
  case advancePulse t => exact .ite (begun t) fun _ => (begun t).pulse _
  case stopDetectExpiry t => exact .ite (begun t) fun _ => ((begun t).setMotion _).finish
  case holdResponseExpiry t => exact .ite (begun t) fun _ => ((begun t).setSec _).finish
  case carOutEdge t => exact .ite (begun t) fun counts => (begun t).countCar counts
  case bufferSensorChange t x level =>
    dsimp only
    split
    · exact begun t
    · exact ((begun t).setPins _).setTable _
  case bufferSensorQualifyExpiry t x => exact .ite (begun t) fun _ => ((begun t).setTable _).finish
  case readBackChange t level =>
    dsimp only
    split
    · exact begun t
    · exact ((begun t).setPins _).setAtt _
  case readBackQualifyExpiry t => exact .ite (begun t) fun _ => ((begun t).setAtt _).finish
  case secondsExpiry t => exact .ite (begun t) fun _ => (begun t).tick
  case holdLimitExpiry t => exact (timed t).expireHolds
  case entrySilent t => exact (timed t).silenceEntries
  case clashCountExpiry t => exact (timed t).expireClash
  case refreshCountExpiry t => exact (timed t).expireRefresh
  case markCountExpiry t => exact (timed t).expireMarkCount
  case countPeriodExpiry t => exact (timed t).expirePeriod
  case silenceCountExpiry t => exact (timed t).expireSilence
  case countSilenceExpiry t => exact (timed t).expireCountSilence
  case messageDurationExpiry t => exact (timed t).expireDurations
  case endOfPlan t => exact (timed t).reachPlanEnd
  case overtimeLimit t => exact (start.atTime t).expireOvertime.le (by decide)
  case dormantCountExpiry t => exact (timed t).expireDormant
  case flashPhaseChange t => exact .ite (begun t) fun _ => ((begun t).setDisp _).redraw
  case pictureRefresh t =>
    dsimp only
    split
    · exact begun t
    · exact (begun t).setDisp _
  case pictureSent t => exact (begun t).setDisp _
  case pageTimerExpiry t => exact .ite (begun t) fun _ => ((begun t).setDisp _).redraw
  case stepTimerExpiry t =>
    split
    · exact .ite (begun t) fun _ =>
        (begun t).keep (.of_blocks (by simp) (by simp) (by simp) (.of_eq (by simp)) (by simp))
    · exact begun t
  case holdSoundEnd t => exact .ite (begun t) fun _ => ((begun t).setCalls _).redraw
  case raiseChirpEnd t => exact .ite (begun t) fun _ => ((begun t).setCalls _).redraw
  case lineIdle t => exact (begun t).endGap
  case transmissionStart t => exact (begun t).transmissionStart
  case frameSent t =>
    split
    · exact (begun t).sent _
    · exact begun t
  case collision t =>
    split
    · exact (begun t).collide _
    · exact begun t
  case backoffEnd t => exact .ite (begun t) fun _ => (begun t).setBus _
  case frameDropped t why => exact (begun t).setBus _
  case zoneStatus t frame => exact (begun t).receive frame _ (begun t).endReception.onZoneStatus
  case timeMark t frame =>
    have taken (e : Envelope) : s.Paces 129 ((s.begin_ t).endReception.onTimeMark e) :=
      (first t).endReception.onTimeMark e
    exact (begun t).receive frame _ taken
  case count t frame => exact (begun t).receive frame _ (begun t).endReception.onCount
  case message t frame => exact (begun t).receive frame _ (begun t).endReception.onMessage
  case withdrawal t frame => exact (begun t).receive frame _ (begun t).endReception.onWithdrawal
  case identify t frame =>
    exact (begun t).receive frame _ fun e => (begun t).endReception.served e fun _ k => k.answerRequest _ _ _
  case readRecord t frame =>
    exact (begun t).receive frame _ fun e => (begun t).endReception.served e fun _ k => k.serveRead e
  case markCollected t frame =>
    exact (begun t).receive frame _ fun e => (begun t).endReception.served e fun _ k => k.serveMark e
  case badRequest t frame =>
    exact (begun t).receive frame _ fun e => (begun t).endReception.served e fun _ k => k.answerRequest _ _ _
  case reply t frame => exact (begun t).receive frame _ fun _ => (begun t).endReception
  case wakeActivity t =>
    refine .ite (begun t) fun hg => (begun t).activity ?_
    have asleep : (s.begin_ t).mode = .dormant := of_decide_eq_true (Bool.and_eq_true .. ▸ hg).1
    rw [asleep]
    rfl
  case wakeWindowExpiry t => exact (begun t).wakeWindow
  case lineBusy t => exact .ite (begun t) fun _ => (begun t).setBus _
  case rstwActive t =>
    dsimp only
    split
    · exact begun t
    · exact (begun t).setStart _
  case supplyDisturbance t => exact (begun t).setCheck _

theorem step_leavesFigures {s u : State} (h : s.Ok) (ran : step s = .next u) : s.LeavesFigures u := by
  unfold step at ran
  split at ran
  · exact .of_ran ran (h.paceLaws.refl.le (by decide)).leaves
  · next c rest _ =>
    obtain ⟨laws, course⟩ := exec_leavesFigures (h.setPending rest) c ran
    refine ⟨laws, fun before after => (course before after).imp_left fun within => ?_⟩
    obtain ⟨shift, serial, actual, peak⟩ := within
    exact ⟨shift, serial, actual, peak⟩

end Sys2Proof.Machine

open Sys2Proof Sys2Proof.Machine

/-- Settles O14: of every command, `exec_leavesFigures`. -/
theorem stepKeepsPaceUnit : Obligations.StepKeepsPaceUnit := fun _ _ h ran => (step_leavesFigures h ran).laws.paceOk

/-- Settles O18: of every command, `exec_leavesFigures`. A step that crosses boundaries advances the serial by
less than 256, so a board of the same serial has crossed none. -/
theorem figuresNeverDecrease : Obligations.FiguresNeverDecrease := by
  intro s u h ran before after shift serial
  obtain ⟨laws, course⟩ := step_leavesFigures h ran
  rcases course before after with within | behind
  · exact ⟨within.actual, laws.paceOk.1, within.peak⟩
  · exact absurd serial (behind.serial_ne h.paceLaws.serial (by decide))

end

section
namespace Sys2Proof.Machine

variable {s : State} {t : Time} {frame p : List Byte} {sender target : Nat}

/-! ## COUNT (R114 to R117) -/

/-- Whether a COUNT of `sender` with payload `p` is used: the board counts nothing itself, the frame bears the
board's own boundary and comes from a zone board (R115), which follows a free source or is not below it (R116). -/
def State.UsesCount (s : State) (sender : Nat) (p : List Byte) : Prop :=
  s.cfg.roles.countPoint = false ∧ s.ret.serial = some (byteAt p 1) ∧ byteAt p 0 = s.ret.shift ∧ sender ≤ 64 ∧
    (s.pace.isFree = true ∨ ∃ z ∈ s.pace.source, z ≤ sender)

/-- The state after a COUNT that is used: its sender is the count source, and the larger actual is adopted. -/
def State.countUsed (s : State) (sender : Nat) (p : List Byte) : State :=
  (s.setPace { s.pace with source := some sender, sourceFree := false, silence := 0 }).setRet
    { s.ret with actual := max s.ret.actual (min (wordAt p 2) 9999) }

theorem State.usesCount_iff (e : Envelope) :
    (s.countAccepted e && (s.pace.isFree || s.pace.source.any (fun z => z ≤ e.sender))) = true ↔
      s.UsesCount e.sender e.payload := by
  simp only [State.countAccepted, State.UsesCount, Bool.and_eq_true, Bool.or_eq_true, Bool.not_eq_true', beq_iff_eq,
    decide_eq_true_eq, Option.any_eq_true, Option.mem_def, and_assoc]

theorem State.useCount_value (e : Envelope) :
    (s.UsesCount e.sender e.payload → s.useCount e = s.countUsed e.sender e.payload) ∧
    (¬ s.UsesCount e.sender e.payload → s.useCount e = s) :=
  ⟨fun used => if_pos (s.usesCount_iff e |>.mpr used), fun unused => if_neg (mt (s.usesCount_iff e).mp unused)⟩

theorem exec_count (taken : Taken (s.begin_ t) frame 3 sender target p) :
    exec (.count t frame) s =
      .next ((Disarmed (s.begin_ t)).useCount ⟨3, sender, target, p⟩).finish :=
  congrArg Host.Outcome.next (taken.receive rfl State.onCount)

/-- What the end of the command leaves of the pace unit's source. -/
theorem State.finish_countSource :
    s.finish.pace.source = s.pace.source ∧ s.finish.pace.silence = s.pace.silence ∧
    s.finish.pace.isFree = s.pace.isFree := by
  simp [s.handOn_pace, Pace.isFree]

end Sys2Proof.Machine

open Sys2Proof Sys2Proof.Machine

/-- Settles O57: the owner is reached with the receiver disarmed, and judges by `State.usesCount_iff`. -/
theorem countFrameIsJudged : Obligations.CountFrameIsJudged := by
  intro t frame sender target p s b used taken
  obtain ⟨adopted, ignored⟩ := (Disarmed b).useCount_value ⟨3, sender, target, p⟩
  refine ⟨_, exec_count taken, fun judged => ?_, fun judged => ?_⟩
  · have actual : ((Disarmed b).countUsed sender p).finish.ret.actual = max b.ret.actual (min (wordAt p 2) 9999) := by
      simp [State.countUsed]
    obtain ⟨source, silence, free⟩ := ((Disarmed b).countUsed sender p).finish_countSource
    have follows := ((Disarmed b).countUsed sender p).followedFrom_finish
    rw [adopted judged]
    generalize ((Disarmed b).countUsed sender p).finish = u at *
    refine ⟨actual, source, silence, free, ?_⟩
    rw [actual]
    exact follows
  · rw [ignored judged]
    exact (Disarmed b).followedFrom_finish

end

section
namespace Sys2Proof.Machine

/-! ## What stands behind a message (R140) -/

/-- No two messages of one key, the state of a store (R147). -/
abbrev DistinctKeys (store : List Message) : Prop := store.Pairwise (fun x y => x.key ≠ y.key)

/-- From the message of a key on, by its place. -/
theorem dropWhile_key {store : List Message} (distinct : DistinctKeys store) {i : Nat} {m : Message}
    (stands : store[i]? = some m) : store.dropWhile (fun x => decide (x.key ≠ m.key)) = store.drop i := by
  induction store generalizing i with
  | nil => simp
  | cons x rest ih =>
    obtain ⟨other, distinct⟩ := List.pairwise_cons.mp distinct
    cases i with
    | zero =>
      have same : x = m := by simpa using stands
      simp [same]
    | succ i =>
      have stands : rest[i]? = some m := by simpa using stands
      have before : x.key ≠ m.key := other m (List.mem_of_getElem? stands)
      rw [List.dropWhile_cons_of_pos (by simpa using before), ih distinct stands, List.drop_succ_cons]

/-- The successor of a message is the first behind its place whose key is still in the store. -/
theorem successor_eq {old store : List Message} (distinct : DistinctKeys old) {i : Nat} {m : Message}
    (stands : old[i]? = some m) :
    successor old store m.key =
      ((old.drop (i + 1)).find? (fun x => store.any (fun y => y.key = x.key))).map (fun x => x.key) := by
  have behind : ((keysOf old).dropWhile (fun x => decide (x ≠ m.key))).tail =
      (old.drop (i + 1)).map (fun x => x.key) := by
    rw [keysOf, List.dropWhile_map, ← List.map_tail]
    have fromPlace := dropWhile_key distinct stands
    rw [← List.tail_drop, ← fromPlace]
    rfl
  have still : (fun x => (keysOf store).contains x) ∘ (fun (x : Message) => x.key) =
      fun x => store.any (fun y => decide (y.key = x.key)) := by
    funext x
    rw [Bool.eq_iff_iff]
    simp [keysOf]
  rw [successor, behind, List.find?_map, still]

variable {b s u : State} {gone : List MsgKey} {old store : List Message}

/-! ## An item chosen is in the store -/

/-- An item that starts as a message is one of the store. -/
theorem State.StartsItem.stored {x : Item} {r : Running} {k : MsgKey} (h : u.StartsItem x (some r))
    (item : r.item = .message k) : ∃ m ∈ u.disp.store, m.key = k := by
  cases x with
  | stopBanner =>
    obtain ⟨_, _, run⟩ := h
    simp [Option.some.inj run] at item
  | breakBanner =>
    obtain ⟨_, _, run⟩ := h
    simp [Option.some.inj run] at item
  | alert => exact h.elim
  | message k' =>
    obtain ⟨m, found, run⟩ := h
    obtain rfl : k' = k := by simpa [Option.some.inj run] using item
    exact ⟨m, List.mem_of_find?_eq_some found, by simpa using List.find?_some found⟩

/-- Every message that `u` runs and `b` did not is one of the store of `u`. -/
def State.NewStored (b u : State) : Prop :=
  ∀ r ∈ u.disp.running, ∀ k, r.item = .message k → r ∉ b.disp.running → ∃ m ∈ u.disp.store, m.key = k

theorem State.NewStored.of_runsNext {pending : Option MsgKey} {next : Option Item}
    (h : u.RunsNext pending next) : b.NewStored u := by
  intro r runs k item _
  rw [Option.mem_def] at runs
  obtain ⟨taken, follows⟩ := h
  by_cases waits : ∀ k ∈ pending, findMessage u.disp.store k = none
  · obtain ⟨-, chosen⟩ := follows waits
    rw [runs] at chosen
    split at chosen
    · exact chosen.stored item
    · simp at chosen
  · push Not at waits
    obtain ⟨k', pends, found⟩ := waits
    obtain ⟨starts, -⟩ := taken k' pends found
    rw [runs] at starts
    exact starts.stored item

theorem State.NewStored.of_same (h : b.NewStored s) (running : u.disp.running = s.disp.running)
    (store : u.disp.store = s.disp.store) : b.NewStored u := by
  unfold State.NewStored
  rw [running, store]
  exact h

/-- The end of a command starts no message that is not in the store (R140 to R144). -/
theorem State.NewStored.finish (h : b.NewStored s) : b.NewStored s.finish := by
  obtain ⟨still, alert, follows⟩ := s.finish_textFollows
  have same (kept : s.finish.disp.running = s.disp.running ∧ s.finish.disp.pending = s.disp.pending) :
      b.NewStored s.finish := h.of_same kept.1 (by simp)
  cases running : s.running with
  | false => exact same (still running)
  | true =>
    by_cases asserted : s.out.hold = false ∧ s.holdWanted = true
    · obtain ⟨_, _, runs, -⟩ := alert asserted
      intro r hr k item
      rw [runs] at hr
      simp [← Option.some.inj hr] at item
    · obtain ⟨idle, busy⟩ := follows running asserted
      cases runs : s.disp.running with
      | none => exact .of_runsNext (idle runs)
      | some r =>
        have busy := busy r runs
        split at busy
        · next stop =>
          obtain ⟨goes, ends⟩ := busy
          cases cause : s.finish.att.cause with
          | none => exact .of_runsNext (ends cause)
          | some k =>
            intro r' hr' k' item
            rw [(goes k cause).1] at hr'
            simp [← Option.some.inj hr', stop] at item
        · next brk =>
          obtain ⟨goes, ends⟩ := busy
          cases remaining : s.finish.breakRemaining with
          | none => exact .of_runsNext (ends remaining)
          | some n =>
            intro r' hr' k' item
            rw [(goes n remaining).1] at hr'
            simp [← Option.some.inj hr', brk] at item
        · exact same busy
        · exact same busy

/-! ## Messages that have left the store (R143, R150) -/

theorem State.chooseItem_runsNext (e : Option Item) (old : List Message) :
    (s.chooseItem e old).RunsNext s.disp.pending (s.itemAfter e old) := by
  have disp := s.chooseItem_disp e old
  have store : (s.chooseItem e old).disp.store = s.disp.store := by simp [disp]
  have breaks : (s.chooseItem e old).breakRemaining = s.breakRemaining := by
    apply State.breakRemaining_congr <;> simp
  have run : (s.chooseItem e old).runOf = s.runOf := State.runOf_congr (by simp) (by simp) breaks store
  have rotation : (s.chooseItem e old).rotation = s.rotation := State.rotation_congr (by simp) breaks store
  apply State.runsNext_of
  · rw [disp, run, rotation]
  · rw [disp, run]
  · rw [run]
    exact fun x behind => s.runOf_isSome_of_itemAfter behind

/-- A pending message that has left is pending no more (R143). -/
def State.pendingLeft (gone : List MsgKey) (s : State) : State :=
  s.setDisp { s.disp with pending := s.disp.pending.filter (fun k => !gone.contains k) }

/-- Whether the message that runs is one of those that left. -/
def State.RunsGone (gone : List MsgKey) (s : State) (k : MsgKey) : Prop :=
  (∃ r ∈ s.disp.running, r.item = .message k) ∧ k ∈ gone

/-- A message that has left and runs gives way to the next item (R143). -/
def State.runningLeft (gone : List MsgKey) (old : List Message) (s : State) : State :=
  match s.disp.running with
  | some r =>
    match r.item with
    | .message k => if gone.contains k then s.chooseItem (some (.message k)) old else s
    | _ => s
  | none => s

theorem State.pendingLeft_of_left {k : MsgKey} (pending : s.disp.pending = some k) (left : k ∈ gone) :
    s.pendingLeft gone = s.setDisp { s.disp with pending := none } := by
  simp [State.pendingLeft, pending, Option.filter_some, left]

theorem State.pendingLeft_of_stays (stays : ∀ k ∈ s.disp.pending, k ∉ gone) : s.pendingLeft gone = s := by
  have kept : s.disp.pending.filter (fun k => !gone.contains k) = s.disp.pending := by
    cases pending : s.disp.pending with
    | none => rfl
    | some k => simpa [Option.filter_some] using stays k pending
  rw [State.pendingLeft, kept]
  rfl

theorem State.messagesLeft_steps (gone : List MsgKey) (old : List Message) (s : State) :
    s.messagesLeft gone old = (s.pendingLeft gone).runningLeft gone old := by
  unfold State.messagesLeft
  cases pending : s.disp.pending with
  | none =>
    rw [State.pendingLeft_of_stays (by simp [pending])]
    rfl
  | some k =>
    by_cases left : k ∈ gone
    · rw [State.pendingLeft_of_left pending left]
      simp only [List.contains_iff_mem.mpr left, if_true]
      rfl
    · rw [State.pendingLeft_of_stays (by simpa [pending] using left)]
      simp only [mt List.contains_iff_mem.mp left]
      rfl

/-- A message that ran gives way to the next item; nothing else that runs is aborted (R143, R150). -/
theorem State.messagesLeft_value (gone : List MsgKey) (old : List Message) (s : State) :
    (∀ k, s.RunsGone gone k →
      s.messagesLeft gone old = (s.pendingLeft gone).chooseItem (some (.message k)) old) ∧
    ((∀ k, ¬ s.RunsGone gone k) → s.messagesLeft gone old = s.pendingLeft gone) := by
  have running : (s.pendingLeft gone).disp.running = s.disp.running := rfl
  rw [s.messagesLeft_steps, State.runningLeft, running]
  constructor
  · rintro k ⟨⟨r, runs, item⟩, left⟩
    rw [Option.mem_def] at runs
    simp [runs, item, left]
  · intro stays
    split
    · next r runs =>
      split
      · next k item => exact if_neg fun left => stays k ⟨⟨r, runs, item⟩, by simpa using left⟩
      · rfl
    · rfl

theorem State.messagesLeft_disp (gone : List MsgKey) (old : List Message) (s : State) :
    (s.messagesLeft gone old).disp = { s.disp with
      running := (s.messagesLeft gone old).disp.running, pending := (s.messagesLeft gone old).disp.pending } := by
  obtain ⟨chosen, kept⟩ := s.messagesLeft_value gone old
  by_cases left : ∃ k, s.RunsGone gone k
  · obtain ⟨k, left⟩ := left
    rw [chosen k left, State.chooseItem_disp]
    rfl
  · rw [kept (not_exists.mp left)]
    rfl

theorem State.NewStored.messagesLeft (h : b.NewStored s) : b.NewStored (s.messagesLeft gone old) := by
  obtain ⟨chosen, kept⟩ := s.messagesLeft_value gone old
  by_cases left : ∃ k, s.RunsGone gone k
  · obtain ⟨k, left⟩ := left
    rw [chosen k left]
    exact .of_runsNext (State.chooseItem_runsNext _ _)
  · rw [kept (not_exists.mp left)]
    exact h

/-- The text line when messages have left a store of distinct keys (R140 case 4, R143, R150). -/
theorem State.messagesLeft_textAfter (distinct : DistinctKeys b.disp.store) {p : MsgKey → Bool}
    (hp : ∀ k, p k = gone.contains k) :
    b.TextAfterLeaving ((b.setDisp { b.disp with store := store }).messagesLeft gone b.disp.store) p := by
  obtain rfl : p = fun k => gone.contains k := funext hp
  obtain ⟨chosen, kept⟩ := (b.setDisp { b.disp with store := store }).messagesLeft_value gone b.disp.store
  refine ⟨fun r k i m runs item left stands key => ?_, fun stays => ?_⟩
  · have next := State.chooseItem_runsNext (s := (b.setDisp { b.disp with store := store }).pendingLeft gone)
      (some (.message k)) b.disp.store
    have behind : ((b.setDisp { b.disp with store := store }).pendingLeft gone).itemAfter
        (some (.message k)) b.disp.store = ((b.disp.store.drop (i + 1)).find? (fun x =>
          store.any (fun y => y.key = x.key))).map (fun x => .message x.key) := by
      subst key
      show (successor b.disp.store store m.key).map Item.message = _
      rw [successor_eq distinct stands, Option.map_map]
      rfl
    rw [State.messagesLeft_store, chosen k ⟨⟨r, runs, item⟩, by simpa using left⟩]
    rw [behind] at next
    exact next
  · rw [kept]
    · exact ⟨rfl, rfl⟩
    · rintro k ⟨⟨r, runs, item⟩, left⟩
      exact absurd (List.contains_iff_mem.mpr left) (by simpa using stays r k runs item)

/-! ## MESSAGE_DURATION_EXPIRY -/

/-- The messages whose duration has run out leave the store (R150). -/
theorem State.expireMessages_left (out : ∃ m ∈ s.disp.store, m.remaining = 0) :
    s.expireMessages =
      (s.setDisp { s.disp with store := s.disp.store.filter (fun m => m.remaining ≠ 0) }).messagesLeft
        (keysOf (s.disp.store.filter (fun m => m.remaining = 0))) s.disp.store := by
  apply if_neg
  simpa [keysOf] using out

theorem contains_keysOf_filter (p : Message → Bool) (k : MsgKey) :
    (keysOf (store.filter p)).contains k = store.any (fun m => m.key = k && p m) := by
  rw [Bool.eq_iff_iff]
  simp only [keysOf, List.contains_iff_mem, List.mem_map, List.mem_filter, List.any_eq_true, Bool.and_eq_true,
    decide_eq_true_eq]
  exact exists_congr fun m => by tauto

end Sys2Proof.Machine
end

section
namespace Sys2Proof.Machine

variable {b s : State} {p : Plan}

/-! ## END_OF_PLAN (R113, R121) -/

theorem State.pastPlan_iff (plan : s.pace.plan = some p) :
    s.pastPlan = true ↔ p.usable = true ∧ lengthOf p.entries ≤ s.clock.s := by
  simp [State.pastPlan, plan]

/-- What the end of the command leaves of the plan. -/
theorem State.finish_pastPlan : s.finish.pastPlan = s.pastPlan := by
  simp [State.pastPlan, s.handOn_pace]

/-- From L on the evaluated target peak is T_end: the computed target is T_end there, and the peak was never above
it (R111, R112, R113). -/
theorem State.PaceLaws.evalPeak_past (h : s.PaceLaws) (m : s.mode = .shift) (valid : s.clock.timeValid = true)
    (plan : s.pace.plan = some p) (usable : p.usable = true) (past : lengthOf p.entries ≤ s.clock.s) :
    s.pace.tEnd = some (planTotal p.entries) ∧
    s.evalPeak = s.setRet { s.ret with peak := some (planTotal p.entries) } := by
  obtain ⟨entries, total, peak⟩ := h.peak_le_total (by rw [m]; rfl) plan usable
  have evaluated : s.evalPeak = s.setRet { s.ret with
      peak := some (max (s.ret.peak.getD 0) (targetAt p.entries s.clock.s)) } := by
    unfold State.evalPeak
    rw [plan]
    exact if_pos ⟨m, valid, usable⟩
  rw [entries.targetAt_of_past past, Nat.max_eq_right peak] at evaluated
  exact ⟨total, evaluated⟩

end Sys2Proof.Machine

open Sys2Proof Sys2Proof.Machine

/-- Settles O45: of the messages, `State.messagesLeft_textAfter` and `State.NewStored.finish`; of the plan,
`State.PaceLaws.evalPeak_past`. -/
theorem limitsOfMessagesAndPlan : Obligations.LimitsOfMessagesAndPlan := by
  intro t p s b
  refine ⟨fun awake out => ?_, fun ok m valid plan usable past => ?_⟩
  · have ran : exec (.messageDurationExpiry t) s = .next b.expireMessages.finish :=
      congrArg Host.Outcome.next (if_pos (by simpa [b, awake] using ⟨awake, out⟩))
    have store : b.expireMessages.finish.disp.store = b.disp.store.filter (fun m => m.remaining ≠ 0) := by
      simp [b.expireMessages_store]
    have left := State.expireMessages_left out
    refine ⟨_, b.expireMessages, ran, store, ?_, ?_, fun stored => ?_, b.expireMessages.followedFrom_finish⟩
    · have kept : b.NewStored (b.setDisp { b.disp with store := b.disp.store.filter (fun m => m.remaining ≠ 0) }) :=
        fun r runs k _ new => absurd runs new
      exact (left ▸ kept.messagesLeft).finish
    · rw [store]
      refine b.expireMessages_setDisp.trans (congrArg b.setDisp ?_)
      rw [left]
      exact State.messagesLeft_disp ..
    · obtain ⟨-, distinct, -⟩ := stored
      rw [left]
      exact State.messagesLeft_textAfter distinct fun k => (contains_keysOf_filter _ k).symm
  · have ended : b.pastPlan = true := (State.pastPlan_iff plan).mpr ⟨usable, past⟩
    have ran : exec (.endOfPlan t) s = .next b.evalPeak.finish :=
      congrArg Host.Outcome.next (if_pos ⟨m, valid, ended⟩)
    obtain ⟨total, evaluated⟩ := ok.paceLaws.evalPeak_past m valid plan usable past
    have peak : b.evalPeak.finish.ret.peak = some (planTotal p.entries) := by simp [evaluated]
    have actual : b.evalPeak.finish.ret.actual = b.ret.actual := by simp [evaluated]
    have shown : b.evalPeak.finish.pastPlan = true := by
      rw [State.finish_pastPlan]
      simpa [State.pastPlan] using ended
    have follows := b.evalPeak.followedFrom_finish
    refine ⟨_, ran, peak, peak.trans total.symm, ?_, ?_⟩
    · simp only [State.figures, peak, actual, shown, projectionOf, if_true]
    · rw [peak, ← evaluated]
      exact follows

end
